-- ==== Sys2Proof/Word.lean ====
section
/-! DEFINITION. The two word widths of the KV-310's frames and records (02 R23). -/

namespace Sys2Proof

/-- One character of a frame, one byte of the configuration record. -/
abbrev Byte := BitVec 8

/-- A field of two characters: change count, digest, flag set. -/
abbrev Word := BitVec 16

end Sys2Proof
end

