-- ==== Sys2Proof/Config.lean ====
section
/-! DEFINITION. What one part fixes: the fields of the configuration record with their defaults (02 section 2.8), and the
one free value of the model. -/

namespace Sys2Proof

/-- The working copy of the configuration record, offsets 0 to 24 (02 R32, 05 R79). -/
structure WorkingCopy where
  chillPool     : Nat   -- units
  gasPool       : Nat   -- slots
  heatPool      : Nat   -- slots
  chillLease    : Nat   -- s
  gasLease      : Nat   -- s
  heatLease     : Nat   -- s
  flowK         : Nat   -- pulses per litre
  foamLimit     : Nat   -- pulses per second
  portion       : Nat   -- mL
  serveMax      : Int   -- tenths of a degree
  protectMargin : Nat   -- tenths of a degree
  safetyLimit   : Nat   -- kPa
  serveMin      : Nat   -- kPa
  driftLimit    : Nat   -- min
  starveLimit   : Nat   -- min
  lowMark       : Nat   -- percent of fill
  polarity      : Byte  -- bits 5 to 0, one per input
  deriving DecidableEq, Repr

/-- The default of every field (02, the table of section 2.8). -/
def WorkingCopy.defaults : WorkingCopy where
  chillPool := 12
  gasPool := 2
  heatPool := 3
  chillLease := 120
  gasLease := 20
  heatLease := 120
  flowK := 2000
  foamLimit := 110
  portion := 330
  serveMax := 70
  protectMargin := 20
  safetyLimit := 250
  serveMin := 70
  driftLimit := 120
  starveLimit := 30
  lowMark := 10
  polarity := 0

/-- FREE VALUE (log 20), one for each occasion, applied to State.draws. When several pour requests are made at one moment
(09 R156), the spec does not say whether the displaced requests are refused before or after the winner is checked; the order shows only in the last refusal reason. -/
opaque Config.displacedFirst : Nat → Bool

end Sys2Proof
end

