-- ==== Sys2Proof/Syntax.lean ====
section
/-! DEFINITION. The commands of the block: one constructor for each row of spec/opcode_table.json, with the operands the
world supplies. The operands of a frame step stand in the frame it takes from the receive queue (01 R9, log 6). -/

namespace Sys2Proof

/-- The three pooled resources (03 R33). -/
inductive Resource where
  | chill | gas | heat
  deriving DecidableEq, Repr

/-- The six switch inputs, in the order of the polarity bits (02 section 2.8, 10 R169). -/
inductive Input where
  | kegPresent | coupled | leak | drip | handle | fillButton
  deriving DecidableEq, Repr

/-- The three samples the receiver takes of one bit of a character (01 R2); true is the high level. -/
structure Samples where
  a : Bool
  b : Bool
  c : Bool
  deriving DecidableEq, Repr

/-- One received character after its start bit was taken as one: eight data bits, least significant first, and the stop bit,
each as its three samples; the start bit's samples are kept because a disagreement there makes the character noisy (01 R1, R2). -/
structure RxChar where
  start : Samples
  data  : List Samples
  stop  : Samples
  deriving DecidableEq, Repr

/-- How a frame being received is broken (01 R6, R7). -/
inductive BreakCause where
  | breakInside   -- a low inside the frame reached 11 bit times
  | framing       -- a stop bit whose majority value is low
  | tooLong       -- the start bit of a 45th character
  deriving DecidableEq, Repr

/-- What the configuration memory answered (05 R79). -/
inductive ConfigRead where
  | noResponse
  | record (bytes : List Byte)
  deriving DecidableEq, Repr

/-- The commands: the rows of spec/opcode_table.json in the table's order. -/
inductive Instr where
  | coldStart (strap : BitVec 4)
  | dipStart (strap : BitVec 4)
  | supplyFall
  | orderedStart (strap : BitVec 4)
  | configLoad
  | configLoadEnd (read : ConfigRead)
  | secondEvent (probe pressure : Int)
  | minuteEvent
  | hourEvent
  | pinChange (input : Input) (high : Bool)
  | inputSettled (inputs : List Input)
  | meterPulse
  | lineIdle
  | breakSeen
  | stub
  | frameEnd (falseStart : Bool) (chars : List RxChar)
  | frameBroken (cause : BreakCause) (falseStart : Bool) (chars : List RxChar)
  | slotBegin (wireHigh : Bool)
  | quietWindow
  | lostArbitration (bit : Nat)
  | sendFault (bit : Nat)
  | frameComplete
  | frameRejected
  | frameNoBlock
  | claim
  | renew
  | yield
  | yieldAll
  | expire
  | syncTable
  | syncAsk
  | announce
  | answerWaitExpiry
  | restEnd
  | announceTimer
  | rosterEntryRemoved (address : Nat)
  | renewPoint (x : Resource)
  | lapse (x : Resource)
  | expiryPoint (x : Resource)
  | starveLimit (x : Resource)
  | driftLimit
  | emptyEnd
  | foamEnd
  | settlingEnd
  | readStatus
  | readKeg
  | readStep
  | readPourLog
  | readNotices
  | clearNotices
  | setNoticeEnable
  | raiseNotice
  | setFill
  | setServe
  | loadStep
  | clearProgram
  | startProgram
  | pauseProgram
  | resumeProgram
  | advanceStep
  | pourPortion (settled : List Input)
  | stopPour
  | restartBay
  | unknownOrder
  deriving DecidableEq, Repr

end Sys2Proof
end

