-- ==== Sys2Proof/Machine/State.lean ====
section
/-! DEFINITION. The state of one KV-310, block by block (00, Block overview), as plain data; the reasons a step can stop; and
the state at the beginning of a start. What the spec defines as a function of other state (demand state, permission, asserted
value, driven value, table digest, in-band signal, notice summary) is computed by Machine/Ops.lean and its neighbours, and has
no field here. -/

namespace Sys2Proof.Machine

/-! ### The share table (03) -/

/-- The classes of a claim; the code equals the rank (03 R34). -/
inductive Cls where
  | serve | protect | hold | ferment | crash | carb
  deriving DecidableEq, Repr

/-- One thing for each resource, in the order CHILL, GAS, HEAT. -/
structure PerRes (α : Type) where
  chill : α
  gas   : α
  heat  : α
  deriving DecidableEq, Repr

/-- The one of a resource. -/
def PerRes.get {α : Type} (p : PerRes α) : Resource → α
  | .chill => p.chill
  | .gas => p.gas
  | .heat => p.heat

/-- Another value for one resource. -/
def PerRes.set {α : Type} (p : PerRes α) (x : Resource) (v : α) : PerRes α :=
  match x with
  | .chill => { p with chill := v }
  | .gas => { p with gas := v }
  | .heat => { p with heat := v }

/-- The same function at every resource. -/
def PerRes.map {α β : Type} (f : α → β) (p : PerRes α) : PerRes β := ⟨f p.chill, f p.gas, f p.heat⟩

/-- The same value for every resource. -/
def PerRes.all {α : Type} (v : α) : PerRes α := ⟨v, v, v⟩

/-- An entry of a section; its state is the list it stands in (03 R35). -/
structure Entry where
  bay        : Nat
  amount     : Nat
  cls        : Cls
  renewCount : Byte
  deriving DecidableEq, Repr

/-- A section: LIVE or UNRECEIVED, the grant list oldest first and the wait queue head first (03 R35 to R37). -/
structure Section where
  live   : Bool
  grants : List Entry
  waits  : List Entry
  deriving DecidableEq, Repr

/-- The share table unit: the table, if one is held, and the change count (03 R37, R39). -/
structure Share where
  table       : Option (PerRes Section)
  changeCount : Word
  deriving DecidableEq, Repr

/-! ### Demands and leases (04) -/

/-- An amount and a class of one resource (04 R57). -/
structure Need where
  amount : Nat
  cls    : Cls
  deriving DecidableEq, Repr

/-- The own entry as the share table unit last reported it (04 R57). -/
inductive Standing where
  | absent
  | waiting (n : Need)
  | granted (n : Need)
  deriving DecidableEq, Repr

/-- The share frames of one resource (04 R57). -/
inductive PendKind where
  | claim | renew | yield
  deriving DecidableEq, Repr

/-- How far a frame asked for has got (04 R60). -/
inductive Stage where
  | requested | inQueue | sent
  deriving DecidableEq, Repr

/-- A pending frame (04 R57). -/
structure Pending where
  kind  : PendKind
  stage : Stage
  deriving DecidableEq, Repr

/-- A demand record (04 R57); its demand state is computed (04 R59). -/
structure DemandRec where
  need          : Option Need
  standing      : Standing
  pending       : Option Pending
  resend        : Bool
  lapse         : Bool
  starve        : Nat    -- seconds
  starveNoticed : Bool
  deriving DecidableEq, Repr

/-- An expiry record that is not none (04 R72). -/
structure ExpiryRec where
  target : Nat
  count  : Byte
  sent   : Bool          -- stage SENT; IN-QUEUE otherwise
  deriving DecidableEq, Repr

/-- The lease monitor: the age in seconds of each bay's entry, by ascending bay, and the expiry records (04 R69, R72). -/
structure Lease where
  ages   : PerRes (List (Nat × Nat))
  expiry : PerRes (Option ExpiryRec)
  deriving DecidableEq, Repr

/-! ### The line interface and the frame handler (01, 02) -/

/-- The receiver's five states (01 section 1.2). -/
inductive RxState where
  | hunt | idle | inBreak | delimiter | frame
  deriving DecidableEq, Repr

/-- A running round of access slots: the next slot to begin, 48 when all have begun, and whether the station has given up
this round (01 R10, R11). -/
structure Round where
  next   : Nat
  barred : Bool
  deriving DecidableEq, Repr

/-- An entry of the receive queue (01 R9, 02 R25). -/
structure RxEntry where
  urgency : Nat
  sender  : Nat
  kind    : Byte
  body    : List Byte
  own     : Bool
  deriving DecidableEq, Repr

/-- What an owner asks the transmit queue to carry: kind, key, and the body where it is fixed at queuing (01 R17, R13). -/
inductive TxFrame where
  | claim (x : Resource)
  | renew (x : Resource)
  | yield (x : Resource)
  | yieldAll
  | expire (x : Resource) (target : Nat) (count : Byte)
  | announce
  | notice
  | syncAsk
  | syncTable (asker : Nat) (x : Resource)
  | answer (body : List Byte)
  deriving DecidableEq, Repr

/-- An entry of the transmit queue; the time of queuing is an ordinal (01 R17, log 11). -/
structure TxEntry where
  frame    : TxFrame
  queuedAt : Nat
  deriving DecidableEq, Repr

/-- The frame in flight: its entry, its withdrawn mark and its characters as composed at send start (01 R13, R17). -/
structure InFlight where
  entry     : TxEntry
  withdrawn : Bool
  chars     : List Byte
  deriving DecidableEq, Repr

/-- The transmit queue: the QUEUED entries in the order of R18, the entry IN-FLIGHT, and the next ordinal. -/
structure Tx where
  queue    : List TxEntry
  inFlight : Option InFlight
  stamp    : Nat
  deriving DecidableEq, Repr

/-- The line interface but for its transmit queue (01 R22). -/
structure Line where
  rx         : RxState
  round      : Option Round
  rxQueue    : List RxEntry
  ownAwaited : Option TxEntry   -- own frame completed, not yet judged by the own receiver (R16)
  spent      : Bool
  broken     : Nat
  overruns   : Nat
  lostArbs   : Nat
  sendFaults : Nat
  address    : Nat
  deriving DecidableEq, Repr

/-- The frame handler: the frame in hand, taken from the receive queue and not yet processed, and its counts (01 R9, 02
section 2.3). -/
structure Handler where
  inHand      : Option RxEntry
  unknownKind : Nat
  badHeader   : Nat
  badLength   : Nat
  badAddress  : Nat
  deriving DecidableEq, Repr

/-! ### The mode controller, the loader, the timebase, the supply (05) -/

inductive Mode where
  | starting | vacant | joining | active | doubtful | muted
  deriving DecidableEq, Repr

inductive StartReason where
  | cold | dip | ordered
  deriving DecidableEq, Repr

/-- A roster entry; `reported` is none while UNREPORTED, else the mode code of the latest ANNOUNCE (05 R85). -/
structure RosterEntry where
  address      : Nat
  reported     : Option Nat
  changeCount  : Word
  digest       : Word
  configDigest : Word
  silence      : Nat
  deriving DecidableEq, Repr

/-- Stages of the sync progress (05 R87). -/
inductive SyncStage where
  | noSync | asking | listening | resting
  deriving DecidableEq, Repr

/-- The sync progress (05 R77, R87, R91); `wait` and `rest` count second events. -/
structure Sync where
  stage      : SyncStage
  failedAsks : Nat
  slow       : Bool
  wait       : Nat
  rest       : Nat
  deriving DecidableEq, Repr

/-- The mode controller (05 R77). -/
structure ModeCtl where
  mode          : Mode
  startReason   : StartReason
  roster        : List RosterEntry   -- by ascending address
  suspect       : Bool
  suspectHeld   : Bool               -- a setting of the mark waits for the frame in hand (R94)
  sync          : Sync
  announceTimer : Option Nat         -- none while stopped
  configDigest  : Word
  deriving DecidableEq, Repr

/-- The start delay runs, the record is being read, or the load has ended (05 R78, R79). -/
inductive LoadStage where
  | delay | reading | ended
  deriving DecidableEq, Repr

/-- The timebase (05 R78). -/
structure Timebase where
  ms        : Nat    -- milliseconds since the start
  seconds   : Nat    -- second events since the last minute event
  minutes   : Nat    -- minute events since the last hour event
  minuteDue : Bool
  hourDue   : Bool
  deriving DecidableEq, Repr

/-- The supply stands above the operating level and the part runs; or below it; or the ANSWER to RESTART-BAY has been sent
and the ORDERED start follows at once (05 R76, 11 R186, log 9). -/
inductive Power where
  | running | off | restarting
  deriving DecidableEq, Repr

/-! ### Temperature, program, pressure (06, 07, 08) -/

/-- The probe state and the pressure state: before the first sample, good, or in fault (06 R100, 08 R138). -/
inductive SensorState where
  | unread | good | fault
  deriving DecidableEq, Repr

inductive Regime where
  | off | step | frozen | serve
  deriving DecidableEq, Repr

/-- A target and a band, in tenths of a degree. -/
structure Hold where
  target : Int
  band   : Nat
  deriving DecidableEq, Repr

/-- The thermal controller (06 R99); its staged outputs are in `Outputs`. -/
structure Thermal where
  probe        : SensorState
  sample       : Option Int
  regime       : Regime
  effective    : Option Hold
  cooling      : Option Need
  heating      : Option Need
  frozen       : Option Hold
  drift        : Nat
  driftNoticed : Bool
  deriving DecidableEq, Repr

inductive StepKind where
  | hold | ramp | crash | condition
  deriving DecidableEq, Repr

inductive StepEnd where
  | time | activity | order
  deriving DecidableEq, Repr

/-- A step record, an absent field stored as 0 (02 section 2.7, 07 R115). -/
structure StepRecord where
  kind      : StepKind
  stepEnd   : StepEnd
  target    : Int
  band      : Nat
  duration  : Nat
  threshold : Nat
  hours     : Nat
  rate      : Nat
  spund     : Nat
  carb      : Nat
  deriving DecidableEq, Repr

inductive ProgState where
  | empty | ready | running | paused | complete
  deriving DecidableEq, Repr

/-- The set of pause reasons (07 R114). -/
structure PauseReasons where
  ordered   : Bool
  sensor    : Bool
  kegAbsent : Bool
  deriving DecidableEq, Repr

/-- The progress of a RAMP step (07 R114). -/
structure Ramp where
  start   : Int
  present : Int
  minutes : Nat
  reached : Bool
  deriving DecidableEq, Repr

/-- The program unit (07 R114). The step table's records stand at positions 0 to count − 1: the list, whose length is the
count. -/
structure Program where
  steps       : List StepRecord
  state       : ProgState
  current     : Option Nat
  reasons     : PauseReasons
  elapsed     : Nat
  ramp        : Option Ramp
  due         : Bool
  window      : List Nat    -- 24 hourly counts, newest first
  currentHour : Nat
  deriving DecidableEq, Repr

/-- The pressure controller (08 R137); its staged outputs are in `Outputs`. -/
structure Pressure where
  sensor  : SensorState
  sample  : Option Int
  tripped : Bool
  gasNeed : Option Need
  leak    : Bool
  deriving DecidableEq, Repr

/-! ### Dispensing (09) -/

inductive Phase where
  | none | fermenting | conditioning | serving | spent
  deriving DecidableEq, Repr

inductive PourRefusal where
  | busy | notServing | notCoupled | tooWarm | lowPressure | noBeer
  deriving DecidableEq, Repr

/-- The keg record (09 R149). -/
structure Keg where
  fill        : Nat
  dispensed   : Nat
  unaccounted : Nat
  phase       : Phase
  serveTarget : Int
  carbTarget  : Nat
  lowPassed   : Bool
  lastRefusal : Option PourRefusal
  deriving DecidableEq, Repr

inductive Outlet where
  | front | fill
  deriving DecidableEq, Repr

inductive PourKind where
  | handle | portion
  deriving DecidableEq, Repr

inductive EndReason where
  | release | portionMet | empty | foam | kegLost | stopped | limit | interrupted
  deriving DecidableEq, Repr

inductive PourState where
  | idle | pouring | settling
  deriving DecidableEq, Repr

/-- The open pour record (09 R154). -/
structure OpenPour where
  outlet  : Outlet
  kind    : PourKind
  portion : Option Nat
  volume  : Nat
  reason  : Option EndReason
  deriving DecidableEq, Repr

/-- A pour log entry (09 R167). -/
structure LogEntry where
  outlet    : Outlet
  kind      : PourKind
  volume    : Nat
  reason    : EndReason
  remaining : Nat
  deriving DecidableEq, Repr

/-- The pour engine (09 R154). -/
structure Pour where
  state     : PourState
  record    : Option OpenPour
  remainder : Nat
  seconds   : Nat
  dry       : Nat
  foam      : Nat
  pulses    : Nat
  settle    : Nat
  log       : List LogEntry    -- newest first, at most 8
  deriving DecidableEq, Repr

/-! ### Inputs, outputs, notices, orders (10, 11) -/

/-- One switch input (10 R169): true is the high level; the settled level is none while unknown. -/
structure InputState where
  pin     : Bool
  settled : Option Bool
  timer   : Nat     -- ms
  deriving DecidableEq, Repr

/-- The six switch inputs. -/
structure Inputs where
  kegPresent : InputState
  coupled    : InputState
  leak       : InputState
  drip       : InputState
  handle     : InputState
  fillButton : InputState
  deriving DecidableEq, Repr

/-- One level for each of the six outputs, open (on) being true (10 R173). -/
structure Outputs where
  chillValve  : Bool
  heater      : Bool
  gasValve    : Bool
  reliefValve : Bool
  frontValve  : Bool
  fillValve   : Bool
  deriving DecidableEq, Repr

/-- The notice unit: three flag sets, the flag of priority p in bit p − 1 (10 R175, 02 R23). -/
structure Notice where
  flags   : Word
  seen    : Word
  enabled : Word
  deriving DecidableEq, Repr

/-- The order handler (11 R182). -/
structure Orders where
  pendingAnswers : Nat
  dropped        : Nat
  restartMark    : Bool
  deriving DecidableEq, Repr

/-- The state of one KV-310, the MODEL's own count of free values drawn (log 20), and the queue of waiting commands. -/
structure State where
  power    : Power
  timebase : Timebase
  load     : LoadStage
  cfg      : WorkingCopy
  line     : Line
  tx       : Tx
  handler  : Handler
  share    : Share
  lease    : Lease
  demand   : PerRes DemandRec
  mode     : ModeCtl
  thermal  : Thermal
  program  : Program
  pressure : Pressure
  pour     : Pour
  keg      : Keg
  inputs   : Inputs
  staged   : Outputs
  notice   : Notice
  orders   : Orders
  draws    : Nat
  pending  : List Instr
  deriving DecidableEq, Repr

/-- No row of this block stops the machine: the spec describes its faults (sensor fault, send fault, config conflict, rejected
frame) as states, counts and notices. No step raises a fault; safe. -/
inductive Fault where
  deriving DecidableEq, Repr

/-- Raised by a row that has no meaning in the model; safe, since nothing can be claimed of the row. -/
inductive Refusal where
  | notModelled (mnemonic : String)   -- raised by exec for a row not yet modelled; safe
  deriving DecidableEq, Repr

/-! ### The values at a start -/

/-- Every demand record after a start (04 R57). -/
def DemandRec.initial : DemandRec := ⟨none, .absent, none, false, false, 0, false⟩

/-- The transmit queue after a start (01 R22). -/
def Tx.initial : Tx := ⟨[], none, 0⟩

/-- The line interface after a start, with the address read from the strap pins (01 R22); that no own frame awaits judgement is
the model's choice (log 40). -/
def Line.initial (strap : BitVec 4) : Line := ⟨.hunt, none, [], none, false, 0, 0, 0, 0, strap.toNat⟩

/-- The lease monitor after a start (04 R69, R72). -/
def Lease.initial : Lease := ⟨.all [], .all none⟩

/-- The sync progress at rest (05 R77). -/
def Sync.initial : Sync := ⟨.noSync, 0, false, 0, 0⟩

/-- The mode controller after a start (05 R77); the config digest awaits the load (log 4). -/
def ModeCtl.initial (reason : StartReason) : ModeCtl := ⟨.starting, reason, [], false, false, .initial, none, 0⟩

/-- The thermal controller after a start, with the frozen target and band a warm start keeps (06 R99). -/
def Thermal.initial (frozen : Option Hold) : Thermal := ⟨.unread, none, .off, none, none, none, frozen, 0, false⟩

/-- The program unit after a COLD start (07 R135). -/
def Program.initial : Program := ⟨[], .empty, none, ⟨false, false, false⟩, 0, none, false, List.replicate 24 0, 0⟩

/-- The pressure controller after a start (08 R137). -/
def Pressure.initial : Pressure := ⟨.unread, none, false, none, false⟩

/-- The pour engine after a start, with the log a warm start keeps (09 R154). -/
def Pour.initial (log : List LogEntry) : Pour := ⟨.idle, none, 0, 0, 0, 0, 0, 0, log⟩

/-- The keg record after a COLD start (09 R149). -/
def Keg.initial : Keg := ⟨0, 0, 0, .none, 30, 100, false, none⟩

/-- An input after a start: the pin stands where it stood, the settled level is unknown (10 R169). -/
def InputState.initial (pin : Bool) : InputState := ⟨pin, none, 0⟩

/-- The six inputs after a start, the pins as they stood. -/
def Inputs.restart (i : Inputs) : Inputs :=
  ⟨.initial i.kegPresent.pin, .initial i.coupled.pin, .initial i.leak.pin, .initial i.drip.pin, .initial i.handle.pin,
    .initial i.fillButton.pin⟩

/-- Six pins at the high level, as switches that pull to ground leave them while open (log 1). -/
def Inputs.high : Inputs :=
  ⟨.initial true, .initial true, .initial true, .initial true, .initial true, .initial true⟩

/-- Every output staged closed (10 R173). -/
def Outputs.closed : Outputs := ⟨false, false, false, false, false, false⟩

/-- The notice unit after a COLD start: all enabled except STEP-DONE (bit 11) and POUR-REFUSED (bit 12) (10 R181). -/
def Notice.initial : Notice := ⟨0x0000, 0x0000, 0x67FF⟩

/-- Everything a start of any kind sets to one value, and the rest given: the start reason and strap address, what a warm
start keeps (frozen target, program, pour log, keg record, notices), the pins, the count of free values and the waiting commands.
The spec gives no value of the frame in hand, of the own frame awaiting judgement and of the held suspect setting after a start:
the model has none of them (log 40). -/
def State.started (reason : StartReason) (strap : BitVec 4) (frozen : Option Hold) (program : Program)
    (log : List LogEntry) (keg : Keg) (notice : Notice) (inputs : Inputs) (draws : Nat) (pending : List Instr) : State where
  power := .running
  timebase := ⟨0, 0, 0, false, false⟩
  load := .delay
  cfg := .defaults
  line := .initial strap
  tx := .initial
  handler := ⟨none, 0, 0, 0, 0⟩
  share := ⟨none, 0⟩
  lease := .initial
  demand := .all .initial
  mode := .initial reason
  thermal := .initial frozen
  program := program
  pressure := .initial
  pour := .initial log
  keg := keg
  inputs := inputs.restart
  staged := .closed
  notice := notice
  orders := ⟨0, 0, false⟩
  draws := draws
  pending := pending

/-- The machine at the beginning of its first COLD start: strap address 1 and pins high (log 1, 2, 3). -/
def State.reset : State := State.started .cold 1 none .initial [] .initial .initial .high 0 []

end Sys2Proof.Machine
end

