-- ==== Sys2Proof/Machine/Bytes.lean ====
section
/-! DEFINITION. Bytes, fields of two characters and the cyclic redundancy checks (02 R23, R24). -/

namespace Sys2Proof.Machine

/-- The more significant character of a field of two. -/
def hiByte (w : Word) : Byte := (w >>> 8).setWidth 8

/-- The less significant character of a field of two. -/
def loByte (w : Word) : Byte := w.setWidth 8

/-- A field of two characters, most significant first (02 R23). -/
def bytes16 (w : Word) : List Byte := [hiByte w, loByte w]

/-- An unsigned number as one character. -/
def nat8 (n : Nat) : Byte := BitVec.ofNat 8 n

/-- An unsigned number over two characters. -/
def nat16 (n : Nat) : List Byte := bytes16 (BitVec.ofNat 16 n)

/-- A temperature, signed tenths of a degree in two's complement over two characters (02 R23). -/
def temp16 (t : Int) : List Byte := bytes16 (BitVec.ofInt 16 t)

/-- The word two characters carry, most significant first. -/
def join16 (hi lo : Byte) : Word := hi.setWidth 16 <<< 8 ||| lo.setWidth 16

/-- Two characters read as an unsigned number. -/
def natOf16 (hi lo : Byte) : Nat := (join16 hi lo).toNat

/-- Two characters read as a temperature. -/
def tempOf16 (hi lo : Byte) : Int := (join16 hi lo).toInt

/-- One bit of a check: compare the register's most significant bit with the message bit, shift, and combine with the
generator if the two differed (02 R24). -/
def crcBit {w : Nat} (gen reg : BitVec w) (bit : Bool) : BitVec w :=
  if reg.msb == bit then reg <<< 1 else (reg <<< 1) ^^^ gen

/-- One byte of a check, its bits from the most significant to the least (02 R24). -/
def crcByte {w : Nat} (gen reg : BitVec w) (b : Byte) : BitVec w :=
  [7, 6, 5, 4, 3, 2, 1, 0].foldl (fun r i => crcBit gen r (b.getLsbD i)) reg

/-- A check over a sequence of bytes, from its starting value (02 R24). -/
def crc {w : Nat} (gen start : BitVec w) (bytes : List Byte) : BitVec w := bytes.foldl (crcByte gen) start

/-- The check character: width 8, generator 2Fh, starting value FFh (02 section 2.2). -/
def checkChar (bytes : List Byte) : Byte := crc 0x2F#8 0xFF#8 bytes

/-- The digests and the record's checksum: width 16, generator 1021h, starting value FFFFh (02 section 2.2). -/
def check16 (bytes : List Byte) : Word := crc 0x1021#16 0xFFFF#16 bytes

/-- A count that stays at its limit once it reaches it. -/
def bump (limit n : Nat) : Nat := min (n + 1) limit

end Sys2Proof.Machine
end

