-- ==== Sys2Proof/Machine/Operands.lean ====
section
/-! DEFINITION. The operands of the rows as the part reads them: received characters (01 R1, R2, R8), the code tables and frame
layouts (02 R23, R25, R26), the step record (02 R31) and the configuration record (02 R32). -/

namespace Sys2Proof.Machine

/-! ### Characters on the wire -/

/-- The value at least two of three samples show (01 R2). -/
def Samples.majority (t : Samples) : Bool := (t.a && t.b) || (t.a && t.c) || (t.b && t.c)

/-- One sample disagrees with the other two (01 R2). -/
def Samples.noisy (t : Samples) : Bool := !(t.a == t.b && t.b == t.c)

/-- Bits, least significant first, as a number. -/
def natOfBits : List Bool → Nat
  | [] => 0
  | b :: bs => (if b then 1 else 0) + 2 * natOfBits bs

/-- The byte a character's data bits carry by majority, least significant bit first (01 R1, R2). -/
def charValue (ch : RxChar) : Byte := nat8 (natOfBits (ch.data.map Samples.majority))

/-- Some bit of the character has a disagreeing sample (01 R2). -/
def charNoisy (ch : RxChar) : Bool := Samples.noisy ch.start || ch.data.any Samples.noisy || Samples.noisy ch.stop

/-- The stop bit's majority value is low (01 R2). -/
def charFraming (ch : RxChar) : Bool := !Samples.majority ch.stop

/-- The header character was received with no noisy bit and no framing error (01 R8). -/
def headerClean : List RxChar → Bool
  | [] => false
  | ch :: _ => !charNoisy ch && !charFraming ch

/-- The levels the transmitter gives the wire for one character, a start bit low, eight data bits, a stop bit high (01 R1). -/
def charLevels (b : Byte) : List Bool := false :: ([0, 1, 2, 3, 4, 5, 6, 7].map b.getLsbD ++ [true])

/-- The levels of a whole frame, one for each bit time: 14 low, 2 released high, then the characters (01 R1). -/
def frameLevels (chars : List Byte) : List Bool :=
  List.replicate 14 false ++ (List.replicate 2 true ++ chars.flatMap charLevels)

/-! ### Codes (02 R23 and its code table) -/

def resourceCode : Resource → Byte
  | .chill => 0x01
  | .gas => 0x02
  | .heat => 0x03

def resourceOf (b : Byte) : Option Resource :=
  if b = 0x01 then some .chill else if b = 0x02 then some .gas else if b = 0x03 then some .heat else none

/-- The code that names ALL, in a YIELD only. -/
def codeAll : Byte := 0x0F

/-- The rank of a class, 0 best; its code is the same number (03 R34). -/
def Cls.rank : Cls → Nat
  | .serve => 0
  | .protect => 1
  | .hold => 2
  | .ferment => 3
  | .crash => 4
  | .carb => 5

def classOf (b : Byte) : Option Cls :=
  match b.toNat with
  | 0 => some .serve
  | 1 => some .protect
  | 2 => some .hold
  | 3 => some .ferment
  | 4 => some .crash
  | 5 => some .carb
  | _ => none

/-- The class appears with the resource in the table of R34. -/
def Cls.belongs : Cls → Resource → Bool
  | .serve, .gas => true
  | .protect, .chill => true
  | .hold, .chill => true
  | .ferment, .chill => true
  | .ferment, .heat => true
  | .crash, .chill => true
  | .carb, .gas => true
  | _, _ => false

def modeCode : Mode → Nat
  | .starting => 1
  | .vacant => 2
  | .joining => 3
  | .active => 4
  | .doubtful => 5
  | .muted => 6

def reasonCode : StartReason → Nat
  | .cold => 1
  | .dip => 2
  | .ordered => 3

def phaseCode : Phase → Byte
  | .none => 0x00
  | .fermenting => 0x01
  | .conditioning => 0x02
  | .serving => 0x03
  | .spent => 0x04

def progCode : ProgState → Byte
  | .empty => 0x00
  | .ready => 0x01
  | .running => 0x02
  | .paused => 0x03
  | .complete => 0x04

/-- The demand states (04 R57). -/
inductive DemandState where
  | idle | sending | waiting | held | changing | yielding | deferred
  deriving DecidableEq, Repr

def demandCode : DemandState → Byte
  | .idle => 0x00
  | .sending => 0x01
  | .waiting => 0x02
  | .held => 0x03
  | .changing => 0x04
  | .yielding => 0x05
  | .deferred => 0x06

def pourCode : PourState → Byte
  | .idle => 0x00
  | .pouring => 0x01
  | .settling => 0x02

def outletCode : Outlet → Byte
  | .front => 0x01
  | .fill => 0x02

def outletOf (b : Byte) : Option Outlet :=
  if b = 0x01 then some .front else if b = 0x02 then some .fill else none

def pourKindCode : PourKind → Byte
  | .handle => 0x01
  | .portion => 0x02

def endCode : EndReason → Byte
  | .release => 0x01
  | .portionMet => 0x02
  | .empty => 0x03
  | .foam => 0x04
  | .kegLost => 0x05
  | .stopped => 0x06
  | .limit => 0x07
  | .interrupted => 0x08

def refusalCode : Option PourRefusal → Byte
  | none => 0x00
  | some .busy => 0x01
  | some .notServing => 0x02
  | some .notCoupled => 0x03
  | some .tooWarm => 0x04
  | some .lowPressure => 0x05
  | some .noBeer => 0x06

def stepKindCode : StepKind → Byte
  | .hold => 0x01
  | .ramp => 0x02
  | .crash => 0x03
  | .condition => 0x04

def stepKindOf (b : Byte) : Option StepKind :=
  match b.toNat with
  | 1 => some .hold
  | 2 => some .ramp
  | 3 => some .crash
  | 4 => some .condition
  | _ => none

def stepEndCode : StepEnd → Byte
  | .time => 0x01
  | .activity => 0x02
  | .order => 0x03

def stepEndOf (b : Byte) : Option StepEnd :=
  match b.toNat with
  | 1 => some .time
  | 2 => some .activity
  | 3 => some .order
  | _ => none

/-! ### The kind table (02 section 2.1) -/

inductive Kind where
  | announce | claim | renew | yield | expire | syncAsk | syncTable | order | answer | notice
  deriving DecidableEq, Repr

def Kind.code : Kind → Byte
  | .announce => 0x0A
  | .claim => 0x11
  | .renew => 0x12
  | .yield => 0x13
  | .expire => 0x14
  | .syncAsk => 0x21
  | .syncTable => 0x22
  | .order => 0x31
  | .answer => 0x32
  | .notice => 0x3A

def Kind.urgency : Kind → Nat
  | .announce => 3
  | .claim => 1
  | .renew => 0
  | .yield => 0
  | .expire => 0
  | .syncAsk => 2
  | .syncTable => 2
  | .order => 2
  | .answer => 1
  | .notice => 2

def kindOf (b : Byte) : Option Kind :=
  [Kind.announce, .claim, .renew, .yield, .expire, .syncAsk, .syncTable, .order, .answer, .notice].find?
    (fun k => k.code == b)

/-- The body of a SYNC-TABLE has 6 + 4 × (grant count + wait count) characters and at most 8 entries (02 R25). -/
def syncLengthOk : List Byte → Bool
  | _ :: _ :: _ :: _ :: g :: w :: rest => decide (g.toNat + w.toNat ≤ 8) && rest.length == 4 * (g.toNat + w.toNat)
  | _ => false

/-- The kind allows a body of this length (02, the kind table; R25). -/
def Kind.lengthOk (k : Kind) (body : List Byte) : Bool :=
  match k with
  | .announce => body.length == 10
  | .claim => body.length == 3
  | .renew => body.length == 1
  | .yield => body.length == 1
  | .expire => body.length == 3
  | .syncAsk => body.length == 0
  | .syncTable => syncLengthOk body
  | .order => decide (2 ≤ body.length ∧ body.length ≤ 18)
  | .answer => decide (3 ≤ body.length ∧ body.length ≤ 27)
  | .notice => body.length == 3

/-- The destination of an ORDER or ANSWER, or the asker of a SYNC-TABLE, is 1 to 12 (02 R25). -/
def Kind.addressOk (k : Kind) (body : List Byte) : Bool :=
  match k, body with
  | .order, d :: _ => decide (1 ≤ d.toNat ∧ d.toNat ≤ 12)
  | .answer, d :: _ => decide (1 ≤ d.toNat ∧ d.toNat ≤ 12)
  | .syncTable, d :: _ => decide (1 ≤ d.toNat ∧ d.toNat ≤ 12)
  | _, _ => true

/-! ### Orders (02, the order code table) -/

inductive OrderCode where
  | readStatus | readKeg | readStep | readPourLog | readNotices | clearNotices | setNoticeEnable | raiseNotice
  | setFill | setServe | loadStep | clearProgram | startProgram | pauseProgram | resumeProgram | advanceStep
  | pourPortion | stopPour | restartBay
  deriving DecidableEq, Repr

def OrderCode.code : OrderCode → Byte
  | .readStatus => 0x01
  | .readKeg => 0x02
  | .readStep => 0x03
  | .readPourLog => 0x04
  | .readNotices => 0x05
  | .clearNotices => 0x06
  | .setNoticeEnable => 0x07
  | .raiseNotice => 0x08
  | .setFill => 0x10
  | .setServe => 0x11
  | .loadStep => 0x20
  | .clearProgram => 0x21
  | .startProgram => 0x22
  | .pauseProgram => 0x23
  | .resumeProgram => 0x24
  | .advanceStep => 0x25
  | .pourPortion => 0x30
  | .stopPour => 0x31
  | .restartBay => 0x3F

/-- The number of argument characters the table gives. -/
def OrderCode.argCount : OrderCode → Nat
  | .readStep | .readPourLog => 1
  | .clearNotices | .setNoticeEnable | .raiseNotice => 2
  | .setFill | .setServe | .pourPortion => 3
  | .loadStep => 13
  | .readStatus | .readKeg | .readNotices | .clearProgram | .startProgram | .pauseProgram | .resumeProgram
  | .advanceStep | .stopPour | .restartBay => 0

def orderOf (b : Byte) : Option OrderCode :=
  [OrderCode.readStatus, .readKeg, .readStep, .readPourLog, .readNotices, .clearNotices, .setNoticeEnable, .raiseNotice,
    .setFill, .setServe, .loadStep, .clearProgram, .startProgram, .pauseProgram, .resumeProgram, .advanceStep,
    .pourPortion, .stopPour, .restartBay].find? (fun o => o.code == b)

/-- Results of an ANSWER (11 R184). -/
inductive Result where
  | done | notReady | badState | badValue | unknownOrder
  deriving DecidableEq, Repr

def Result.code : Result → Byte
  | .done => 0x00
  | .notReady => 0x01
  | .badState => 0x02
  | .badValue => 0x03
  | .unknownOrder => 0x04

/-! ### The frame handler's judgement of a receive queue entry (02 R25, R26) -/

/-- The test of R25 a frame fails first, or the block the frame goes to: the row that takes it. -/
inductive FrameClass where
  | unknownKind | badHeader | badLength | badAddress
  | noBlock
  | claim | renew | yield | yieldAll | expire | syncTable | syncAsk | announce
  | order (o : Option OrderCode)
  deriving DecidableEq, Repr

/-- A frame that passed every test, by kind and destination (02 R26). -/
def dispatchClass (own : Nat) (k : Kind) (body : List Byte) : FrameClass :=
  match k with
  | .announce => .announce
  | .claim => .claim
  | .renew => .renew
  | .yield => if body = [codeAll] then .yieldAll else .yield
  | .expire => .expire
  | .syncAsk => .syncAsk
  | .syncTable => .syncTable
  | .order =>
    match body with
    | d :: c :: _ => if d.toNat = own then .order (orderOf c) else .noBlock
    | _ => .noBlock
  | .answer => .noBlock
  | .notice => .noBlock

/-- The tests of R25 in their order, then the dispatch of R26. -/
def classify (own : Nat) (e : RxEntry) : FrameClass :=
  match kindOf e.kind with
  | none => .unknownKind
  | some k =>
    if e.urgency ≠ k.urgency then .badHeader
    else if e.sender = 0 ∨ 13 ≤ e.sender ∨ (e.sender = own ∧ e.own = false) then .badHeader
    else if k.lengthOk e.body = false then .badLength
    else if k.addressOk e.body = false then .badAddress
    else dispatchClass own k e.body

/-- The frame failed a test of R25. -/
def FrameClass.rejected : FrameClass → Bool
  | .unknownKind | .badHeader | .badLength | .badAddress => true
  | _ => false

/-! ### The step record (02 R31) -/

/-- Every condition of R31 on the fields. -/
def StepRecord.valid (r : StepRecord) : Bool :=
  decide (-20 ≤ r.target ∧ r.target ≤ 350) && decide (1 ≤ r.band ∧ r.band ≤ 20) && decide (r.duration ≤ 20160) &&
  (if r.stepEnd = .activity then decide (r.threshold ≤ 255 ∧ 1 ≤ r.hours ∧ r.hours ≤ 24)
    else decide (r.threshold = 0 ∧ r.hours = 0)) &&
  (if r.kind = .ramp then decide (1 ≤ r.rate ∧ r.rate ≤ 100) else decide (r.rate = 0)) &&
  decide (r.spund = 0 ∨ (20 ≤ r.spund ∧ r.spund ≤ 240)) &&
  (if r.kind = .condition then decide (50 ≤ r.carb ∧ r.carb ≤ 250) else decide (r.carb = 0)) &&
  decide (r.duration ≠ 0 ∨ r.kind = .ramp ∨ r.stepEnd = .order)

/-- The step record twelve characters carry, if it is valid (02 R31). -/
def stepOf : List Byte → Option StepRecord
  | [k, e, t1, t0, band, d1, d0, thr, hrs, rate, sp, carb] =>
    match stepKindOf k, stepEndOf e with
    | some kind, some stepEnd =>
      let r : StepRecord := ⟨kind, stepEnd, tempOf16 t1 t0, band.toNat, natOf16 d1 d0, thr.toNat, hrs.toNat, rate.toNat,
        sp.toNat, carb.toNat⟩
      if r.valid then some r else none
    | _, _ => none
  | _ => none

/-- The twelve characters of a stored record (02 section 2.7). -/
def StepRecord.bytes (r : StepRecord) : List Byte :=
  [stepKindCode r.kind, stepEndCode r.stepEnd] ++ temp16 r.target ++ [nat8 r.band] ++ nat16 r.duration ++
    [nat8 r.threshold, nat8 r.hours, nat8 r.rate, nat8 r.spund, nat8 r.carb]

/-! ### The configuration record (02 R32) -/

/-- Every field lies within its range, and polarity bits 7 and 6 are 0 (02 R32). -/
def configValid (c : WorkingCopy) : Bool :=
  decide (4 ≤ c.chillPool ∧ c.chillPool ≤ 24) && decide (1 ≤ c.gasPool ∧ c.gasPool ≤ 4) &&
  decide (1 ≤ c.heatPool ∧ c.heatPool ≤ 8) && decide (10 ≤ c.chillLease ∧ c.chillLease ≤ 600) &&
  decide (10 ≤ c.gasLease ∧ c.gasLease ≤ 600) && decide (10 ≤ c.heatLease ∧ c.heatLease ≤ 600) &&
  decide (1000 ≤ c.flowK ∧ c.flowK ≤ 9999) && decide (20 ≤ c.foamLimit ∧ c.foamLimit ≤ 250) &&
  decide (50 ≤ c.portion ∧ c.portion ≤ 2000) && decide (0 ≤ c.serveMax ∧ c.serveMax ≤ 120) &&
  decide (5 ≤ c.protectMargin ∧ c.protectMargin ≤ 50) && decide (150 ≤ c.safetyLimit ∧ c.safetyLimit ≤ 300) &&
  decide (20 ≤ c.serveMin ∧ c.serveMin ≤ 200) && decide (10 ≤ c.driftLimit ∧ c.driftLimit ≤ 1440) &&
  decide (5 ≤ c.starveLimit ∧ c.starveLimit ≤ 240) && decide (1 ≤ c.lowMark ∧ c.lowMark ≤ 50) &&
  decide (c.polarity.toNat < 64)

/-- The fields of offsets 0 to 24 as the record lays them out (02 section 2.8). -/
def fieldsOf : List Byte → Option WorkingCopy
  | [b0, b1, b2, b3, b4, b5, b6, b7, b8, b9, b10, b11, b12, b13, b14, b15, b16, b17, b18, b19, b20, b21, b22, b23, b24] =>
    some { chillPool := b0.toNat, gasPool := b1.toNat, heatPool := b2.toNat, chillLease := natOf16 b3 b4,
           gasLease := natOf16 b5 b6, heatLease := natOf16 b7 b8, flowK := natOf16 b9 b10, foamLimit := b11.toNat,
           portion := natOf16 b12 b13, serveMax := tempOf16 b14 b15, protectMargin := b16.toNat,
           safetyLimit := natOf16 b17 b18, serveMin := b19.toNat, driftLimit := natOf16 b20 b21,
           starveLimit := b22.toNat, lowMark := b23.toNat, polarity := b24 }
  | _ => none

/-- A 48-byte record that is usable by R32: its checksum is good and every field is in range. -/
def configOf (bytes : List Byte) : Option WorkingCopy :=
  match bytes.drop 46 with
  | [c1, c0] =>
    if join16 c1 c0 = check16 (bytes.take 46) then
      match fieldsOf (bytes.take 25) with
      | some c => if configValid c then some c else none
      | none => none
    else none
  | _ => none

/-- The plant part, the nine bytes at offsets 0 to 8 (02 section 2.8). -/
def plantPart (c : WorkingCopy) : List Byte :=
  [nat8 c.chillPool, nat8 c.gasPool, nat8 c.heatPool] ++ nat16 c.chillLease ++ nat16 c.gasLease ++ nat16 c.heatLease

/-- The config digest: the 16-bit check over the plant part (02 R32). -/
def configDigestOf (c : WorkingCopy) : Word := check16 (plantPart c)

/-- The pool of a resource (03 R33). -/
def poolOf (c : WorkingCopy) : Resource → Nat
  | .chill => c.chillPool
  | .gas => c.gasPool
  | .heat => c.heatPool

/-- The lease of a resource, in seconds (03 R33). -/
def leaseOf (c : WorkingCopy) : Resource → Nat
  | .chill => c.chillLease
  | .gas => c.gasLease
  | .heat => c.heatLease

end Sys2Proof.Machine
end

