-- ==== Sys2Proof/Machine/Queue.lean ====
section
/-! DEFINITION. The transmit queue: its sorts, places and order, and the owners' four operations, request, replacement, update
in place and withdrawal (01 R17 to R21). Pure functions of the queue. -/

namespace Sys2Proof.Machine

/-! ### Kinds, sorts, keys -/

/-- The kind of an entry (01 R17). -/
def TxFrame.kind : TxFrame → Kind
  | .claim _ => .claim
  | .renew _ => .renew
  | .yield _ => .yield
  | .yieldAll => .yield
  | .expire _ _ _ => .expire
  | .announce => .announce
  | .notice => .notice
  | .syncAsk => .syncAsk
  | .syncTable _ _ => .syncTable
  | .answer _ => .answer

/-- The urgency of an entry, that of its kind (01 R17). -/
def TxFrame.urgency (f : TxFrame) : Nat := f.kind.urgency

/-- The entry is of the share sort: CLAIM, RENEW, YIELD (01 R17). -/
def TxFrame.isShare : TxFrame → Bool
  | .claim _ | .renew _ | .yield _ | .yieldAll => true
  | _ => false

/-- The entry holds the share place of a resource; a YIELD-ALL holds all three (01 R17). -/
def TxFrame.holdsShare (x : Resource) : TxFrame → Bool
  | .claim y | .renew y | .yield y => x == y
  | .yieldAll => true
  | _ => false

/-- The entry has the given resource as its share key. -/
def TxFrame.keyedTo (x : Resource) : TxFrame → Bool
  | .claim y | .renew y | .yield y => x == y
  | _ => false

/-- The entry is the EXPIRE of a resource. -/
def TxFrame.isExpire (x : Resource) : TxFrame → Bool
  | .expire y _ _ => x == y
  | _ => false

/-- The entry is of the sync sort. -/
def TxFrame.isSync : TxFrame → Bool
  | .syncAsk | .syncTable _ _ => true
  | _ => false

/-- The entry is an ANSWER. -/
def TxFrame.isAnswer : TxFrame → Bool
  | .answer _ => true
  | _ => false

/-- The entry is one the mode controller withdraws as the station leaves ACTIVE: CLAIM, RENEW, EXPIRE, SYNC-TABLE (05 R82). -/
def TxFrame.ofActive : TxFrame → Bool
  | .claim _ | .renew _ | .expire _ _ _ | .syncTable _ _ => true
  | _ => false

/-! ### What is held -/

/-- The frame in flight, unless it is marked withdrawn and so holds no place (01 R17). -/
def Tx.flying (tx : Tx) : List TxFrame :=
  match tx.inFlight with
  | some f => if f.withdrawn then [] else [f.entry.frame]
  | none => []

/-- The frames that hold a place. -/
def Tx.held (tx : Tx) : List TxFrame := tx.queue.map TxEntry.frame ++ tx.flying

/-- Some entry that holds a place is of a sort or key. -/
def Tx.holds (tx : Tx) (p : TxFrame → Bool) : Bool := tx.held.any p

/-- Some QUEUED entry is of a sort or key. -/
def Tx.queues (tx : Tx) (p : TxFrame → Bool) : Bool := (tx.queue.map TxEntry.frame).any p

/-- The number of ANSWER entries that hold a place. -/
def Tx.answers (tx : Tx) : Nat := (tx.held.filter TxFrame.isAnswer).length

/-! ### Order (01 R18) -/

/-- An entry takes its position by urgency, after every entry of its urgency or a more urgent one. -/
def insertQueued (e : TxEntry) : List TxEntry → List TxEntry
  | [] => [e]
  | q :: qs => if q.frame.urgency ≤ e.frame.urgency then q :: insertQueued e qs else e :: q :: qs

/-- A returned entry takes the first place among the queued entries of its urgency. -/
def insertReturned (e : TxEntry) : List TxEntry → List TxEntry
  | [] => [e]
  | q :: qs => if q.frame.urgency < e.frame.urgency then q :: insertReturned e qs else e :: q :: qs

/-! ### The owners' operations -/

/-- A frame queued with the present time (01 R19). -/
def Tx.enqueue (tx : Tx) (f : TxFrame) : Tx :=
  { tx with queue := insertQueued ⟨f, tx.stamp⟩ tx.queue, stamp := tx.stamp + 1 }

/-- The entries of a sort or key withdrawn: QUEUED ones leave, one IN-FLIGHT is marked (01 R21). -/
def Tx.withdraw (tx : Tx) (p : TxFrame → Bool) : Tx :=
  { tx with
    queue := tx.queue.filter (fun e => !p e.frame)
    inFlight := tx.inFlight.map (fun f => { f with withdrawn := f.withdrawn || p f.entry.frame }) }

/-- The QUEUED entries of a sort or key withdrawn; one IN-FLIGHT is left as it is (04 R73, second row). -/
def Tx.withdrawQueued (tx : Tx) (p : TxFrame → Bool) : Tx :=
  { tx with queue := tx.queue.filter (fun e => !p e.frame) }

/-- A request that is refused while some entry holds the place `p` tells of (01 R19). -/
def Tx.request (tx : Tx) (p : TxFrame → Bool) (f : TxFrame) : Tx := if tx.holds p then tx else tx.enqueue f

/-- A replacement: the entries of the key leave or are marked withdrawn, and the new frame is queued (01 R20). -/
def Tx.replace (tx : Tx) (p : TxFrame → Bool) (f : TxFrame) : Tx := (tx.withdraw p).enqueue f

/-- An update in place: a QUEUED entry stays as it is, one IN-FLIGHT is replaced by a new entry of the same kind and key,
and where there is none nothing is done (01 R20). -/
def Tx.update (tx : Tx) (p : TxFrame → Bool) (f : TxFrame) : Tx :=
  if tx.queues p then tx else if tx.holds p then tx.replace p f else tx

/-- An ANNOUNCE asked for (05 R86). -/
def Tx.askAnnounce (tx : Tx) : Tx := tx.request (· == .announce) .announce

/-- A SYNC-ASK asked for; at most one stands in the queue (01 R17, R19). -/
def Tx.askSync (tx : Tx) : Tx := tx.request (· == .syncAsk) .syncAsk

/-- A NOTICE asked for in a mode that sends NOTICE frames: queued where the place is free, else updated in place (10 R177). -/
def Tx.askNotice (tx : Tx) : Tx :=
  if tx.queues (· == .notice) then tx
  else if tx.holds (· == .notice) then tx.replace (· == .notice) .notice else tx.enqueue .notice

/-- A YIELD-ALL replaces the whole share sort (01 R20, 05 R82). -/
def Tx.putYieldAll (tx : Tx) : Tx := tx.replace TxFrame.isShare .yieldAll

/-- A YIELD-ALL for an entry into JOINING or DOUBTFUL: one that is queued already stands (05 R87). -/
def Tx.askYieldAll (tx : Tx) : Tx := if tx.queues (· == .yieldAll) then tx else tx.putYieldAll

/-- The frame of a pending kind for a resource. -/
def shareFrame (x : Resource) : PendKind → TxFrame
  | .claim => .claim x
  | .renew => .renew x
  | .yield => .yield x

/-- A YIELD-ALL holds the share sort, so that any other share request is refused (01 R19). -/
def Tx.shareBarred (tx : Tx) : Bool := tx.holds (· == .yieldAll)

/-- A share frame of a resource queued, replacing what stands in the resource's place; refused while a YIELD-ALL holds the
sort (01 R19, R20). -/
def Tx.putShare (tx : Tx) (x : Resource) (k : PendKind) : Tx :=
  if tx.shareBarred then tx else tx.replace (TxFrame.keyedTo x) (shareFrame x k)

/-- The stage a share frame reaches when it is asked for (04 R60). -/
def Tx.putStage (tx : Tx) : Stage := if tx.shareBarred then .requested else .inQueue

/-- The QUEUED share entry of a resource, or the one IN-FLIGHT, is withdrawn (01 R21). -/
def Tx.withdrawShare (tx : Tx) (x : Resource) : Tx := tx.withdraw (TxFrame.keyedTo x)

/-- The three SYNC-TABLE entries of an answer to a SYNC-ASK (05 R88). -/
def Tx.answerSync (tx : Tx) (asker : Nat) : Tx :=
  ((tx.enqueue (.syncTable asker .chill)).enqueue (.syncTable asker .gas)).enqueue (.syncTable asker .heat)

/-! ### The frame in flight -/

/-- The entry at the head leaves for the wire with its characters composed (01 R13). -/
def Tx.launch (tx : Tx) (chars : List Byte) : Tx :=
  match tx.queue with
  | [] => tx
  | e :: rest => { tx with queue := rest, inFlight := some ⟨e, false, chars⟩ }

/-- The frame in flight did not go out: back to the first place of its urgency, or discarded if withdrawn (01 R14, R15). -/
def Tx.returned (tx : Tx) : Tx :=
  match tx.inFlight with
  | some f =>
    { tx with queue := if f.withdrawn then tx.queue else insertReturned f.entry tx.queue, inFlight := none }
  | none => tx

/-- The frame in flight has gone out (01 R16). -/
def Tx.completed (tx : Tx) : Tx := { tx with inFlight := none }

end Sys2Proof.Machine
end

