-- ==== Sys2Proof/Machine/Section.lean ====
section
/-! DEFINITION. One section of the share table and what a share frame does to it (03 R36, R42 to R54), and the table as a whole:
its digest form, its change count, its four operations (03 R37, R39, R40, 02 R28). Pure functions of sections; the station is
joined to them in Machine/Ops.lean. -/

namespace Sys2Proof.Machine

/-! ### Amounts, standing, order -/

/-- The sum of the amounts of a list of entries. -/
def granted (l : List Entry) : Nat := (l.map Entry.amount).sum

/-- The free amount of a section (03 R35); the pool law of R38 makes the subtraction exact. -/
def freeOf (pool : Nat) (sec : Section) : Nat := pool - granted sec.grants

/-- The entry of a bay in a list. -/
def findBay (bay : Nat) (l : List Entry) : Option Entry := l.find? (fun e => e.bay == bay)

/-- A list without the entries of a bay. -/
def dropBay (bay : Nat) (l : List Entry) : List Entry := l.filter (fun e => e.bay != bay)

/-- The section with no entries (03 R37). -/
def Section.unreceived : Section := ⟨false, [], []⟩

/-- The LIVE section with no entries (03 R37). -/
def Section.founded : Section := ⟨true, [], []⟩

/-- What a section holds for a bay (03 R56, 04 R57). -/
def standingIn (bay : Nat) (sec : Section) : Standing :=
  match findBay bay sec.grants, findBay bay sec.waits with
  | some e, _ => .granted ⟨e.amount, e.cls⟩
  | none, some e => .waiting ⟨e.amount, e.cls⟩
  | none, none => .absent

/-- No waiter of equal or better rank stands in the queue (03 R43). -/
def eligible (waits : List Entry) (c : Cls) : Bool := waits.all (fun e => decide (c.rank < e.cls.rank))

/-- A waiter placed by claim: after every waiter of equal or better rank (03 R36). -/
def insertByClaim (e : Entry) : List Entry → List Entry
  | [] => [e]
  | w :: ws => if w.cls.rank ≤ e.cls.rank then w :: insertByClaim e ws else e :: w :: ws

/-- A waiter placed by bump: after every waiter of better rank, ahead of its own rank and worse (03 R36). -/
def insertByBump (e : Entry) : List Entry → List Entry
  | [] => [e]
  | w :: ws => if w.cls.rank < e.cls.rank then w :: insertByBump e ws else e :: w :: ws

/-! ### Bumping (03 R44, R45) -/

/-- The bump candidates for a class: grants of strictly worse rank, the worst rank first, within a rank the newest grant
first (03 R44). -/
def candidates (grants : List Entry) (c : Cls) : List Entry :=
  [5, 4, 3, 2, 1].flatMap (fun r => grants.reverse.filter (fun e => e.cls.rank == r && decide (c.rank < r)))

/-- Candidates taken one at a time until the amount available is at least the amount claimed; none if all together do not
free enough (03 R44). -/
def takeVictims (amount : Nat) : Nat → List Entry → Option (List Entry)
  | available, [] => if amount ≤ available then some [] else none
  | available, e :: es =>
    if amount ≤ available then some [] else (takeVictims amount (available + e.amount) es).map (fun vs => e :: vs)

/-- The grants that remain once the victims have left. -/
def withoutVictims (victims grants : List Entry) : List Entry :=
  grants.filter (fun g => !victims.any (fun v => v.bay == g.bay))

/-- The wait queue once the victims have been placed by bump, in the order they were taken (03 R45). -/
def placeVictims (victims waits : List Entry) : List Entry := victims.foldl (fun ws v => insertByBump v ws) waits

/-- A claim's entry brought into a section in which its bay has none (03 R43 to R45): granted directly, granted after bumping,
or placed in the wait queue. -/
def place (pool : Nat) (sec : Section) (e : Entry) : Section :=
  if eligible sec.waits e.cls then
    match takeVictims e.amount (freeOf pool sec) (candidates sec.grants e.cls) with
    | some victims =>
      { sec with grants := withoutVictims victims sec.grants ++ [e], waits := placeVictims victims sec.waits }
    | none => { sec with waits := insertByClaim e sec.waits }
  else { sec with waits := insertByClaim e sec.waits }

/-! ### Promotion (03 R49) -/

/-- Heads of the wait queue that fit join the end of the grant list, until one does not fit. -/
def promoteLists (pool : Nat) : List Entry → List Entry → List Entry × List Entry
  | grants, [] => (grants, [])
  | grants, w :: ws =>
    if granted grants + w.amount ≤ pool then promoteLists pool (grants ++ [w]) ws else (grants, w :: ws)

/-- Promotion in a section. -/
def promote (pool : Nat) (sec : Section) : Section :=
  { sec with grants := (promoteLists pool sec.grants sec.waits).1, waits := (promoteLists pool sec.grants sec.waits).2 }

/-! ### The frames against one LIVE section -/

/-- What became of the lease age of the one entry a frame touches in a section (03 R55). -/
inductive LeaseReport where
  | unaffected
  | created (bay : Nat)
  | renewed (bay : Nat) (count : Byte)
  | removed (bay : Nat)
  deriving DecidableEq, Repr

/-- What a frame did to one section: the section after promotion, whether its contents changed (03 R39), the report to the
lease monitor (R55), whether the frame draws FREED at the other bays (R56), and whether a change claim failed (R48). -/
structure Effect where
  sec     : Section
  changed : Bool
  lease   : LeaseReport
  freed   : Bool
  refused : Bool
  deriving DecidableEq, Repr

/-- The frame did nothing to the section. -/
def Effect.none (sec : Section) : Effect := ⟨sec, false, .unaffected, false, false⟩

/-- A wait replacement draws FREED if the bay's entry ends GRANTED or WAITING at a worse rank than before (03 R56). -/
def replacementFrees (old : Entry) : Standing → Bool
  | .granted _ => true
  | .waiting n => decide (old.cls.rank < n.cls.rank)
  | .absent => false

/-- A fresh claim (03 R43). -/
def freshClaim (pool : Nat) (sec : Section) (bay amount : Nat) (c : Cls) : Effect :=
  ⟨promote pool (place pool sec ⟨bay, amount, c, 0⟩), true, .created bay, false, false⟩

/-- A claim of a bay that holds the WAITING entry `old` (03 R46). -/
def waitReplacement (pool : Nat) (sec : Section) (old : Entry) (bay amount : Nat) (c : Cls) : Effect :=
  let after :=
    promote pool (place pool { sec with waits := dropBay bay sec.waits } ⟨bay, amount, c, old.renewCount + 1⟩)
  ⟨after, true, .renewed bay (old.renewCount + 1), replacementFrees old (standingIn bay after), false⟩

/-- A claim of a bay that holds the GRANTED entry `old`: a change, which succeeds in place or fails and leaves all as it was
(03 R47, R48). -/
def changeClaim (pool : Nat) (sec : Section) (old : Entry) (bay amount : Nat) (c : Cls) : Effect :=
  if eligible sec.waits c then
    match takeVictims amount (freeOf pool sec + old.amount) (candidates (dropBay bay sec.grants) c) with
    | some victims =>
      let new : Entry := ⟨bay, amount, c, old.renewCount + 1⟩
      ⟨promote pool
          { sec with grants := (withoutVictims victims sec.grants).map (fun g => if g.bay = bay then new else g),
                     waits := placeVictims victims sec.waits },
        true, .renewed bay (old.renewCount + 1), decide (amount < old.amount), false⟩
    | none => { Effect.none sec with refused := true }
  else { Effect.none sec with refused := true }

/-- A valid CLAIM against a LIVE section, by the bay's standing in it (03 R42). -/
def claimIn (pool : Nat) (sec : Section) (bay amount : Nat) (c : Cls) : Effect :=
  match findBay bay sec.grants, findBay bay sec.waits with
  | some old, _ => changeClaim pool sec old bay amount c
  | none, some old => waitReplacement pool sec old bay amount c
  | none, none => freshClaim pool sec bay amount c

/-- A list with the renew count of a bay's entry raised by one, modulo 256. -/
def renewBay (bay : Nat) (l : List Entry) : List Entry :=
  l.map (fun e => if e.bay = bay then { e with renewCount := e.renewCount + 1 } else e)

/-- The entry of a bay in a section, in either list. -/
def entryOf (bay : Nat) (sec : Section) : Option Entry := findBay bay (sec.grants ++ sec.waits)

/-- A RENEW against a LIVE section (03 R50). -/
def renewIn (pool : Nat) (sec : Section) (bay : Nat) : Effect :=
  match entryOf bay sec with
  | some e =>
    ⟨promote pool { sec with grants := renewBay bay sec.grants, waits := renewBay bay sec.waits }, true,
      .renewed bay (e.renewCount + 1), false, false⟩
  | none => .none sec

/-- A bay's entry removed, and promotion (03 R51, R53). -/
def removeIn (pool : Nat) (sec : Section) (bay : Nat) : Effect :=
  ⟨promote pool { sec with grants := dropBay bay sec.grants, waits := dropBay bay sec.waits }, true, .removed bay, true,
    false⟩

/-- A YIELD against a LIVE section (03 R51, R52). -/
def yieldIn (pool : Nat) (sec : Section) (bay : Nat) : Effect :=
  match entryOf bay sec with
  | some _ => removeIn pool sec bay
  | none => .none sec

/-- An EXPIRE against a LIVE section: stale unless the target's renew count is the one named (03 R53). -/
def expireIn (pool : Nat) (sec : Section) (target : Nat) (count : Byte) : Effect :=
  match entryOf target sec with
  | some e => if e.renewCount = count then removeIn pool sec target else .none sec
  | none => .none sec

/-! ### The table -/

/-- Every section is LIVE. -/
def allLive (t : PerRes Section) : Bool := t.chill.live && t.gas.live && t.heat.live

/-- Some section is LIVE. -/
def someLive (t : PerRes Section) : Bool := t.chill.live || t.gas.live || t.heat.live

/-- No table held (03 R37, discard). -/
def Share.discarded : Share := ⟨none, 0⟩

/-- A table held, every section UNRECEIVED and empty (03 R37, clear for sync). -/
def Share.cleared : Share := ⟨some (.all .unreceived), 0⟩

/-- A table held, every section LIVE and empty (03 R37, found). -/
def Share.founded : Share := ⟨some (.all .founded), 0⟩

/-- Some held section is LIVE. -/
def Share.anyLive (sh : Share) : Bool :=
  match sh.table with
  | some t => someLive t
  | none => false

/-- A table is held and every section is LIVE. -/
def Share.complete (sh : Share) : Bool :=
  match sh.table with
  | some t => allLive t
  | none => false

/-- The LIVE section of a resource, if one is held (03 R41). -/
def Share.liveSection (sh : Share) (x : Resource) : Option Section :=
  match sh.table with
  | some t => if (t.get x).live then some (t.get x) else none
  | none => none

/-- Another content for one section. -/
def Share.setSection (sh : Share) (x : Resource) (sec : Section) : Share :=
  { sh with table := sh.table.map (fun t => t.set x sec) }

/-- The change count raised by one if a frame changed some LIVE section (03 R39). -/
def Share.count (sh : Share) (changed : Bool) : Share :=
  { sh with changeCount := if changed then sh.changeCount + 1 else sh.changeCount }

/-- What a bay holds of a resource: its standing in the LIVE section. -/
def Share.standing (sh : Share) (bay : Nat) (x : Resource) : Standing :=
  match sh.liveSection x with
  | some sec => standingIn bay sec
  | none => .absent

/-- The five bytes of an entry in the digest form (02 R28). -/
def digestEntry (isGrant : Bool) (e : Entry) : List Byte :=
  [nat8 e.bay, nat8 e.amount, nat8 e.cls.rank, if isGrant then 1 else 0, e.renewCount]

/-- The digest form of one section (02 R28). -/
def digestSection (x : Resource) (sec : Section) : List Byte :=
  resourceCode x :: (sec.grants.flatMap (digestEntry true) ++ sec.waits.flatMap (digestEntry false))

/-- The digest form of the table (02 R28). -/
def digestForm (t : PerRes Section) : List Byte :=
  digestSection .chill t.chill ++ digestSection .gas t.gas ++ digestSection .heat t.heat

/-- The table digest (03 R40); 0 where no table is held. -/
def Share.digest (sh : Share) : Word :=
  match sh.table with
  | some t => check16 (digestForm t)
  | none => 0

/-! ### A section on the wire (02 R28, 03 R54) -/

/-- The four characters of a section entry (02 section 2.4). -/
def sectionEntry (isGrant : Bool) (e : Entry) : List Byte :=
  [nat8 e.bay, nat8 e.amount, nat8 (e.cls.rank + if isGrant then 128 else 0), e.renewCount]

/-- The body of a SYNC-TABLE after its asker (02 R28). -/
def sectionBody (x : Resource) (changeCount : Word) (sec : Section) : List Byte :=
  [resourceCode x] ++ bytes16 changeCount ++ [nat8 sec.grants.length, nat8 sec.waits.length] ++
    (sec.grants.flatMap (sectionEntry true) ++ sec.waits.flatMap (sectionEntry false))

/-- The entries four-character groups carry, if each carries the given entry state, a bay of 1 to 8 and a class of its own
code with bits 6 to 4 zero (03 R54). -/
def readEntries (isGrant : Bool) : List Byte → Option (List Entry)
  | [] => some []
  | b :: a :: cs :: n :: rest =>
    match classOf (cs &&& 0x0F), readEntries isGrant rest with
    | some c, some es =>
      if 1 ≤ b.toNat ∧ b.toNat ≤ 8 ∧ cs &&& 0x70 = 0 ∧ cs.msb = isGrant then
        some (⟨b.toNat, a.toNat, c, n⟩ :: es)
      else none
    | _, _ => none
  | _ => none

/-- A list stands in order of rank, best first. -/
def rankOrdered (l : List Entry) : Bool := decide ((l.map (fun e => e.cls.rank)).Pairwise (· ≤ ·))

/-- The head of the wait queue does not fit in the free amount (03 R49). -/
def headWaits (pool : Nat) (sec : Section) : Bool :=
  match sec.waits with
  | [] => true
  | w :: _ => decide (pool < granted sec.grants + w.amount)

/-- Amounts and classes are ones the resource allows, and no bay appears twice (03 R38, R42). -/
def entriesOk (pool : Nat) (x : Resource) (sec : Section) : Bool :=
  (sec.grants ++ sec.waits).all (fun e => decide (1 ≤ e.amount ∧ e.amount ≤ pool) && e.cls.belongs x) &&
    decide ((sec.grants ++ sec.waits).map Entry.bay).Nodup

/-- A received section passes every check of R54 that its entries, once read, leave. -/
def sectionOk (pool : Nat) (x : Resource) (sec : Section) : Bool :=
  entriesOk pool x sec && decide (granted sec.grants ≤ pool) && rankOrdered sec.waits && headWaits pool sec

/-- The section and change count a SYNC-TABLE body carries for a resource, if it passes the checks of R54. -/
def readSection (pool : Nat) (x : Resource) : List Byte → Option (Section × Word)
  | _ :: _ :: k1 :: k0 :: g :: _ :: rest =>
    match readEntries true (rest.take (4 * g.toNat)), readEntries false (rest.drop (4 * g.toNat)) with
    | some gs, some ws =>
      if sectionOk pool x ⟨true, gs, ws⟩ then some (⟨true, gs, ws⟩, join16 k1 k0) else none
    | _, _ => none
  | _ => none

end Sys2Proof.Machine
end

