-- ==== Sys2Proof/Machine/Demand.lean ====
section
/-! DEFINITION. One demand record beside the transmit queue: its state, changes of need, reports, reconciliation, resend, retry,
lapse and starvation (04 R57 to R75). Pure functions of a record and the queue. -/

namespace Sys2Proof.Machine

/-- A demand record and the transmit queue, which its operations change together. -/
structure DemandTx where
  rcd : DemandRec
  tx  : Tx
  deriving DecidableEq, Repr

/-! ### State and permission (04 R59, R75) -/

/-- The record's demand state, the rows of R59 from the top. -/
def demandState (active : Bool) (r : DemandRec) : DemandState :=
  if active = false then (if r.need.isSome then .deferred else .idle)
  else
    match r.pending.map Pending.kind, r.standing with
    | some .yield, _ => .yielding
    | some .claim, .granted _ => .changing
    | _, .granted _ => .held
    | _, .waiting _ => .waiting
    | _, .absent => if r.need.isSome then .sending else .idle

/-- The permission of the shared output: open in HELD and CHANGING (04 R75). -/
def permission (active : Bool) (r : DemandRec) : Bool :=
  match demandState active r with
  | .held | .changing => true
  | _ => false

/-- The standing's amount and class are the need's. -/
def DemandRec.meets (r : DemandRec) (n : Need) : Bool :=
  match r.standing with
  | .waiting m | .granted m => m == n
  | .absent => false

/-- The need is met: the state is HELD and the standing equals the need (04 R74). -/
def DemandRec.met (active : Bool) (r : DemandRec) : Bool :=
  match r.need with
  | some n => demandState active r == .held && r.meets n
  | none => false

/-- The need is unmet, so the starve timer runs (04 R74). -/
def DemandRec.unmet (active : Bool) (r : DemandRec) : Bool :=
  match r.need with
  | none => false
  | some n =>
    match demandState active r with
    | .sending | .waiting | .deferred | .yielding => true
    | .held | .changing => !r.meets n
    | .idle => false

/-- An episode of starvation ends when the need is absent or met: timer 0 and mark clear (04 R74). -/
def DemandRec.settle (active : Bool) (r : DemandRec) : DemandRec :=
  if r.need = none ∨ r.met active = true then { r with starve := 0, starveNoticed := false } else r

/-- One second of the starve timer (04 R74). -/
def DemandRec.starveTick (active : Bool) (limit : Nat) (r : DemandRec) : DemandRec :=
  if r.unmet active then { r with starve := bump limit r.starve } else r

/-! ### Frames asked for (04 R60) -/

/-- The pending frame is none or a RENEW (04 R64). -/
def DemandRec.freeToAsk (r : DemandRec) : Bool :=
  match r.pending with
  | none => true
  | some p => p.kind == .renew

/-- A share frame asked for, in place of whatever is pending. -/
def DemandTx.ask (d : DemandTx) (x : Resource) (k : PendKind) : DemandTx :=
  ⟨{ d.rcd with pending := some ⟨k, d.tx.putStage⟩ }, d.tx.putShare x k⟩

/-- The pending frame withdrawn: one REQUESTED or SENT stands in no place of the queue (04 R60, R66). -/
def DemandTx.drop (d : DemandTx) (x : Resource) : DemandTx :=
  ⟨{ d.rcd with pending := none },
    match d.rcd.pending with
    | some ⟨_, .inQueue⟩ => d.tx.withdrawShare x
    | _ => d.tx⟩

/-- A pending CLAIM updated in place: only one IN-QUEUE stands in the queue (01 R20, 04 R60). -/
def DemandTx.refresh (d : DemandTx) (x : Resource) : DemandTx :=
  match d.rcd.pending with
  | some ⟨.claim, .inQueue⟩ => ⟨d.rcd, d.tx.update (TxFrame.keyedTo x) (.claim x)⟩
  | _ => d

/-- The pending frame is QUEUED or REQUESTED, so that a withdrawal takes it before it goes out. -/
def DemandTx.recallable (d : DemandTx) (x : Resource) : Bool :=
  match d.rcd.pending with
  | some ⟨_, .requested⟩ => true
  | some ⟨_, .inQueue⟩ => d.tx.queues (TxFrame.keyedTo x)
  | _ => false

/-! ### Bringing the frames into line (04 R64) -/

/-- The frame R64 asks for, the rows from the top. -/
def DemandRec.wanted (r : DemandRec) : Option PendKind :=
  match r.lapse, r.need, r.standing with
  | _, none, .absent => none
  | _, some _, .absent => some .claim
  | true, _, _ => some .yield
  | false, none, _ => some .yield
  | false, some n, .waiting m => if m = n then none else some .claim
  | false, some n, .granted m => if m = n ∨ r.resend then none else some .claim

/-- R64, done only while the station is ACTIVE and the pending frame is none or a RENEW. -/
def DemandTx.reconcile (d : DemandTx) (active : Bool) (x : Resource) : DemandTx :=
  if active && d.rcd.freeToAsk then
    match d.rcd.wanted with
    | some k => d.ask x k
    | none => d
  else d

/-! ### Changes of need (04 R61) -/

/-- The need appears. In YIELDING a YIELD that can be recalled is withdrawn, unless the entry lapsed. -/
def DemandTx.needAppears (d : DemandTx) (x : Resource) (n : Need) : DemandTx :=
  let e : DemandTx := ⟨{ d.rcd with need := some n }, d.tx⟩
  match demandState true d.rcd with
  | .idle => e.ask x .claim
  | .yielding => if d.recallable x && !d.rcd.lapse then e.drop x else e
  | _ => e

/-- The need disappears. In SENDING a CLAIM that can be recalled is withdrawn and any other is followed by a YIELD. -/
def DemandTx.needDisappears (d : DemandTx) (x : Resource) : DemandTx :=
  let e : DemandTx := ⟨{ d.rcd with need := none }, d.tx⟩
  match demandState true d.rcd with
  | .sending =>
    match d.rcd.pending with
    | some ⟨.claim, _⟩ => if d.recallable x then e.drop x else e.ask x .yield
    | _ => e
  | .waiting | .held | .changing => e.ask x .yield
  | .idle | .yielding | .deferred => e

/-- The need changes its amount or class while it stays present, which clears the resend mark in every demand state (04 R61,
R65; log 16). -/
def DemandTx.needChanges (d : DemandTx) (x : Resource) (n : Need) : DemandTx :=
  let e : DemandTx := ⟨{ d.rcd with need := some n, resend := false }, d.tx⟩
  match demandState true d.rcd with
  | .sending => e.refresh x
  | .waiting =>
    match d.rcd.pending, d.rcd.meets n with
    | some ⟨.claim, _⟩, true => e.drop x
    | some ⟨.claim, _⟩, false => e.refresh x
    | _, true => e
    | _, false => e.ask x .claim
  | .held => if d.rcd.meets n then e else e.ask x .claim
  | .changing => if d.rcd.meets n then e.drop x else e.refresh x
  | .idle | .yielding | .deferred => e

/-- A published need: acted on only when it differs from the need held (04 R58); while the station is not ACTIVE it alters the
record's need alone (04 R61). An episode of starvation that this ends is settled. -/
def DemandTx.publish (d : DemandTx) (active : Bool) (x : Resource) (need : Option Need) : DemandTx :=
  let e : DemandTx :=
    if d.rcd.need = need then d
    else if active = false then ⟨{ d.rcd with need := need }, d.tx⟩
    else
      match d.rcd.need, need with
      | none, some n => d.needAppears x n
      | some _, none => d.needDisappears x
      | some _, some n => d.needChanges x n
      | none, none => d
  ⟨e.rcd.settle active, e.tx⟩

/-! ### Reports (03 R56, 04 R62, R63, R65) -/

/-- The reports of the share table unit on the station's own entry. -/
inductive Report where
  | granted (n : Need)
  | waiting (n : Need)
  | refused
  | renewed
  | yielded (removed : Bool)
  | bumped
  | promoted
  | expired
  | freed (free : Nat)
  deriving DecidableEq, Repr

/-- The amount and class of a standing taken over by another. -/
def Standing.toWaiting : Standing → Standing
  | .granted n => .waiting n
  | st => st

def Standing.toGranted : Standing → Standing
  | .waiting n => .granted n
  | st => st

/-- A pending RENEW or YIELD that is QUEUED or REQUESTED is withdrawn at EXPIRED (04 R63). -/
def DemandTx.dropExpired (d : DemandTx) (x : Resource) : DemandTx :=
  match d.rcd.pending with
  | some ⟨.renew, _⟩ | some ⟨.yield, _⟩ => if d.recallable x then d.drop x else d
  | _ => d

/-- A refused change is claimed again once the free amount makes up the difference (04 R65). -/
def DemandTx.resend (d : DemandTx) (active : Bool) (x : Resource) (free : Nat) : DemandTx :=
  match d.rcd.need, d.rcd.standing, d.rcd.pending with
  | some n, .granted g, none =>
    if active && d.rcd.resend && decide (n.amount ≤ free + g.amount) then
      DemandTx.ask ⟨{ d.rcd with resend := false }, d.tx⟩ x .claim
    else d
  | _, _, _ => d

/-- What a report changes in the record, before R64 (04 R62, R63, R65). -/
def DemandTx.note (d : DemandTx) (active : Bool) (x : Resource) : Report → DemandTx
  | .granted n => ⟨{ d.rcd with standing := .granted n, resend := false }, d.tx⟩
  | .waiting n => ⟨{ d.rcd with standing := .waiting n }, d.tx⟩
  | .refused => ⟨{ d.rcd with resend := true }, d.tx⟩
  | .renewed => d
  | .yielded _ => ⟨{ d.rcd with standing := .absent, lapse := false }, d.tx⟩
  | .bumped => ⟨{ d.rcd with standing := d.rcd.standing.toWaiting, resend := false }, d.tx⟩
  | .promoted => ⟨{ d.rcd with standing := d.rcd.standing.toGranted }, d.tx⟩
  | .expired => DemandTx.dropExpired ⟨{ d.rcd with standing := .absent, lapse := false }, d.tx⟩ x
  | .freed free => d.resend active x free

/-- The pending frame leaves stage SENT when the own frame of its kind has been processed (04 R60). -/
def DemandRec.processed (k : PendKind) (r : DemandRec) : DemandRec :=
  if r.pending = some ⟨k, .sent⟩ then { r with pending := none } else r

/-- The end of the processing of a frame at one record: the pending frame, if the frame was the station's own of kind `own`,
then the report, then R64, then the settling of the starve timer. -/
def DemandTx.finish (d : DemandTx) (active : Bool) (x : Resource) (own : Option PendKind) (rep : Option Report) : DemandTx :=
  let d1 : DemandTx :=
    match own with
    | some k => ⟨d.rcd.processed k, d.tx⟩
    | none => d
  let d2 : DemandTx :=
    match rep with
    | some r => d1.note active x r
    | none => d1
  let d3 : DemandTx :=
    if rep.isSome || decide (d1.rcd.pending ≠ d.rcd.pending) then d2.reconcile active x else d2
  ⟨d3.rcd.settle active, d3.tx⟩

/-! ### Line, timers, mode -/

/-- The line interface tells that a share frame of kind `k` was sent; word of a superseded frame moves nothing (04 R60). -/
def DemandRec.frameSent (k : PendKind) (withdrawn : Bool) (r : DemandRec) : DemandRec :=
  if withdrawn = false ∧ r.pending = some ⟨k, .inQueue⟩ then { r with pending := some ⟨k, .sent⟩ } else r

/-- The own receiver discarded the completed frame: the pending frame becomes none, and R64 (04 R60). -/
def DemandTx.frameLost (d : DemandTx) (active : Bool) (x : Resource) (k : PendKind) : DemandTx :=
  if d.rcd.pending = some ⟨k, .sent⟩ then
    let e := DemandTx.reconcile ⟨{ d.rcd with pending := none }, d.tx⟩ active x
    ⟨e.rcd.settle active, e.tx⟩
  else d

/-- Each second a REQUESTED frame is asked for again (04 R66). -/
def DemandTx.retry (d : DemandTx) (x : Resource) : DemandTx :=
  match d.rcd.pending with
  | some ⟨k, .requested⟩ => d.ask x k
  | _ => d

/-- The lease monitor asks for a RENEW; passed over while a frame is pending (04 R70). -/
def DemandTx.askRenew (d : DemandTx) (x : Resource) : DemandTx :=
  match d.rcd.pending with
  | none => d.ask x .renew
  | some _ => d

/-- The own entry lapses: the mark is set and a YIELD replaces a pending CLAIM or RENEW (04 R71). -/
def DemandTx.lapse (d : DemandTx) (x : Resource) : DemandTx :=
  let e : DemandTx := ⟨{ d.rcd with lapse := true }, d.tx⟩
  match d.rcd.pending with
  | some ⟨.yield, _⟩ => e
  | _ => e.ask x .yield

/-- The station has left ACTIVE, or has dropped the sections it had adopted: the need alone is kept, with its starvation
(04 R67, log 14). -/
def DemandRec.leave (r : DemandRec) : DemandRec :=
  { r with standing := .absent, pending := none, resend := false, lapse := false }

end Sys2Proof.Machine
end

