-- ==== Sys2Proof/Machine/Flags.lean ====
section
/-! DEFINITION. The notice unit's flag computations: raise, summary, read, clear, enable (10 R175 to R180). -/

namespace Sys2Proof.Machine

/-- The fifteen flags, by priority (10 R175). -/
inductive Flag where
  | leak | overPressure | sensorFault | configConflict | kegEmpty | dripFull | tempDrift | starved | kegLow
  | lineTrouble | programComplete | stepDone | pourRefused | restarted | configDefault
  deriving DecidableEq, Repr

/-- The bit of a flag in a flag set: priority p in bit p − 1 (02 R23). -/
def Flag.bit : Flag → Nat
  | .leak => 0
  | .overPressure => 1
  | .sensorFault => 2
  | .configConflict => 3
  | .kegEmpty => 4
  | .dripFull => 5
  | .tempDrift => 6
  | .starved => 7
  | .kegLow => 8
  | .lineTrouble => 9
  | .programComplete => 10
  | .stepDone => 11
  | .pourRefused => 12
  | .restarted => 13
  | .configDefault => 14

/-- The flag set of one flag. -/
def Flag.mask (f : Flag) : Word := BitVec.twoPow 16 f.bit

/-- The flags of a set raised: each becomes set and unseen (10 R176). -/
def Notice.raised (n : Notice) (mask : Word) : Notice :=
  { n with flags := n.flags ||| mask, seen := n.seen &&& ~~~mask }

/-- Some flag of a set is enabled, so that its raise asks for a NOTICE (10 R176). -/
def Notice.asks (n : Notice) (mask : Word) : Bool := n.enabled &&& mask != 0

/-- The priority of the lowest set bit of a set, 0 where none is set. -/
def lowestBit (w : Word) : Nat :=
  match (List.range 15).find? (fun i => w.getLsbD i) with
  | some i => i + 1
  | none => 0

/-- The notice summary: the priority of the highest-priority flag set and enabled, 0 for none (10 R175, 02 R29). -/
def Notice.summary (n : Notice) : Byte := nat8 (lowestBit (n.flags &&& n.enabled))

/-- A read marks every set flag seen (10 R178). -/
def Notice.read (n : Notice) : Notice := { n with seen := n.flags }

/-- A clear takes the named flags that are set and seen, with their seen marks (10 R179). -/
def Notice.cleared (n : Notice) (named : Word) : Notice :=
  { n with flags := n.flags &&& ~~~(named &&& n.seen), seen := n.seen &&& ~~~named }

/-- Every flag takes the enable a set gives it (10 R180). -/
def Notice.enable (n : Notice) (set : Word) : Notice := { n with enabled := set }

/-- The notice unit after a warm start: flags and enables kept, seen marks clear, RESTARTED raised (10 R181). -/
def Notice.warm (n : Notice) : Notice := Notice.raised { n with seen := 0 } Flag.restarted.mask

end Sys2Proof.Machine
end

