-- ==== Sys2Proof/Machine/Leases.lean ====
section
/-! DEFINITION. The lease monitor: lease ages, thresholds, expiry records (04 R69 to R73). Pure functions of the monitor, the
queue and a section. -/

namespace Sys2Proof.Machine

/-- The lease monitor and the transmit queue, which it changes together. -/
structure LeaseTx where
  lease : Lease
  tx    : Tx
  deriving DecidableEq, Repr

/-! ### Ages (04 R69, 03 R55) -/

/-- An age started or restarted at zero, the list standing by ascending bay. -/
def startAge (bay : Nat) : List (Nat × Nat) → List (Nat × Nat)
  | [] => [(bay, 0)]
  | (b, a) :: rest =>
    if bay < b then (bay, 0) :: (b, a) :: rest
    else if bay = b then (bay, 0) :: rest
    else (b, a) :: startAge bay rest

/-- An age dropped. -/
def dropAge (bay : Nat) (ages : List (Nat × Nat)) : List (Nat × Nat) := ages.filter (fun p => p.1 != bay)

/-- The age of a bay's entry. -/
def ageOf (bay : Nat) (ages : List (Nat × Nat)) : Option Nat := (ages.find? (fun p => p.1 == bay)).map Prod.snd

/-- One second on every age, up to 750. -/
def ageTick (ages : List (Nat × Nat)) : List (Nat × Nat) := ages.map (fun p => (p.1, bump 750 p.2))

/-- The ages of a section just adopted: zero for every entry (03 R54). -/
def adoptedAges (sec : Section) : List (Nat × Nat) := (sec.grants ++ sec.waits).foldl (fun l e => startAge e.bay l) []

/-- A report's effect on the ages of a section (03 R55). -/
def reportedAges : LeaseReport → List (Nat × Nat) → List (Nat × Nat)
  | .unaffected, ages => ages
  | .created bay, ages => startAge bay ages
  | .renewed bay _, ages => startAge bay ages
  | .removed bay, ages => dropAge bay ages

/-- The renew point (04 R69). -/
def renewPointOf (lease : Nat) : Nat := lease / 2

/-- The expiry point (04 R69). -/
def expiryPointOf (lease : Nat) : Nat := lease + lease / 4

/-! ### Expiry records (04 R72, R73) -/

/-- Entries of the expiry sort keyed to a resource, withdrawn, and the record made none. -/
def LeaseTx.endExpiry (l : LeaseTx) (x : Resource) : LeaseTx :=
  ⟨{ l.lease with expiry := l.lease.expiry.set x none }, l.tx.withdraw (TxFrame.isExpire x)⟩

/-- A report's effect on the expiry record of its resource: a renewal of the target with another count withdraws the EXPIRE,
a removal of the target withdraws it if it is still QUEUED (04 R73). -/
def LeaseTx.reportExpiry (l : LeaseTx) (x : Resource) : LeaseReport → LeaseTx
  | .renewed bay count =>
    match l.lease.expiry.get x with
    | some r => if r.target = bay ∧ r.count ≠ count then l.endExpiry x else l
    | none => l
  | .removed bay =>
    match l.lease.expiry.get x with
    | some r =>
      if r.target = bay then
        ⟨{ l.lease with expiry := l.lease.expiry.set x none }, l.tx.withdrawQueued (TxFrame.isExpire x)⟩
      else l
    | none => l
  | .created _ => l
  | .unaffected => l

/-- A report of R55 applied: the age and the expiry record. -/
def LeaseTx.report (l : LeaseTx) (x : Resource) (rep : LeaseReport) : LeaseTx :=
  LeaseTx.reportExpiry ⟨{ l.lease with ages := l.lease.ages.set x (reportedAges rep (l.lease.ages.get x)) }, l.tx⟩ x rep

/-- The record of a resource ended where it stands at SENT (04 R73: own EXPIRE processed, or lost at the own receiver;
log 17). -/
def Lease.endSent (l : Lease) (x : Resource) : Lease :=
  match l.expiry.get x with
  | some r => if r.sent then { l with expiry := l.expiry.set x none } else l
  | none => l

/-- The EXPIRE of a resource was sent (04 R73); word of a withdrawn one moves nothing. -/
def Lease.expireSent (l : Lease) (x : Resource) (withdrawn : Bool) : Lease :=
  match l.expiry.get x with
  | some r => if withdrawn then l else { l with expiry := l.expiry.set x (some { r with sent := true }) }
  | none => l

/-- The first entry of another bay whose age has reached the expiry point, in section order (04 R72). -/
def overdue (own point : Nat) (ages : List (Nat × Nat)) (sec : Section) : Option Entry :=
  (sec.grants ++ sec.waits).find? (fun e =>
    e.bay != own && match ageOf e.bay ages with
      | some a => decide (point ≤ a)
      | none => false)

/-- The EXPIRE of an overdue entry queued, and the record made (04 R72). -/
def LeaseTx.queueExpire (l : LeaseTx) (x : Resource) (e : Entry) : LeaseTx :=
  ⟨{ l.lease with expiry := l.lease.expiry.set x (some ⟨e.bay, e.renewCount, false⟩) },
    l.tx.request (TxFrame.isExpire x) (.expire x e.bay e.renewCount)⟩

end Sys2Proof.Machine
end

