-- ==== Sys2Proof/Machine/Ops.lean ====
section
/-! DEFINITION. The operations every family shares: what the blocks read of one another (asserted inputs, in-band signal, driven
outputs), raising a notice, publishing a need, applying a function to the share place of one resource, taking the frame in
hand. There is no processor's exception in this block: a fault of a sensor, of the line or of the configuration
is a change of State like any other. -/

namespace Sys2Proof.Machine

/-- The outcome type of every row. -/
abbrev Out := Host.Outcome State Fault Refusal

/-- A row's effect while the part runs; while the supply is down, or the ORDERED start is due, the row has none (05 R76,
log 9, log 10). -/
def whileRunning (s : State) (f : State → State) : Out := .next (if s.power = .running then f s else s)

/-- The station is ACTIVE. -/
def State.active (s : State) : Bool := s.mode.mode == .active

/-- The station is JOINING or DOUBTFUL. -/
def State.syncing (s : State) : Bool := s.mode.mode == .joining || s.mode.mode == .doubtful

/-! ### Switch inputs (10 R169) -/

/-- The bit of an input in the polarity byte (02 section 2.8). -/
def inputBit : Input → Nat
  | .kegPresent => 0
  | .coupled => 1
  | .leak => 2
  | .drip => 3
  | .handle => 4
  | .fillButton => 5

/-- The state of one input. -/
def Inputs.get (i : Inputs) : Input → InputState
  | .kegPresent => i.kegPresent
  | .coupled => i.coupled
  | .leak => i.leak
  | .drip => i.drip
  | .handle => i.handle
  | .fillButton => i.fillButton

/-- Another state for one input. -/
def Inputs.set (i : Inputs) (x : Input) (v : InputState) : Inputs :=
  match x with
  | .kegPresent => { i with kegPresent := v }
  | .coupled => { i with coupled := v }
  | .leak => { i with leak := v }
  | .drip => { i with drip := v }
  | .handle => { i with handle := v }
  | .fillButton => { i with fillButton := v }

/-- The same function at every input. -/
def Inputs.map (f : InputState → InputState) (i : Inputs) : Inputs :=
  ⟨f i.kegPresent, f i.coupled, f i.leak, f i.drip, f i.handle, f i.fillButton⟩

/-- The asserted value of an input: its settled level read under its polarity, deasserted while unknown (10 R169). -/
def State.asserted (s : State) (x : Input) : Bool :=
  match (s.inputs.get x).settled with
  | some level => level == s.cfg.polarity.getLsbD (inputBit x)
  | none => false

/-- KEG-PRESENT and COUPLED are both asserted at their settled levels. -/
def State.kegReady (s : State) : Bool := s.asserted .kegPresent && s.asserted .coupled

/-! ### What the blocks hand to one another -/

/-- The remaining volume (09 R150). -/
def Keg.remaining (k : Keg) : Nat := k.fill - k.dispensed

/-- The low mark in millilitres (09 R161). -/
def lowMarkOf (fill percent : Nat) : Nat := fill * percent / 100

/-- The program's current step record. -/
def Program.currentStep (p : Program) : Option StepRecord := p.current.bind (fun i => p.steps[i]?)

/-- The program is RUNNING or PAUSED. -/
def Program.underWay (p : Program) : Bool := p.state == .running || p.state == .paused

/-- The spund point the program unit offers, none outside RUNNING and PAUSED (07 R128). -/
def Program.offeredSpund (p : Program) : Option Nat :=
  if p.underWay then p.currentStep.bind (fun st => if st.spund = 0 then none else some st.spund) else none

/-- A pour is in progress: the pour engine is POURING or SETTLING (08 R146). -/
def Pour.inProgress (p : Pour) : Bool := p.state != .idle

/-- The in-band signal (06 R103). -/
def Thermal.inBand (t : Thermal) : Bool :=
  match t.probe, t.regime, t.effective, t.sample with
  | .good, .off, _, _ => false
  | .good, _, some h, some v => decide (h.target - h.band ≤ v ∧ v ≤ h.target + h.band)
  | _, _, _, _ => false

/-- The driven relief while the part runs, as the pressure controller reckons it (08 R144). -/
def State.relief (s : State) : Bool := s.pressure.tripped || s.pressure.sensor == .fault || s.staged.reliefValve

/-- The permission of a resource's shared output (04 R75). -/
def State.permitted (s : State) (x : Resource) : Bool := permission s.active (s.demand.get x)

/-- The pour engine is POURING on an outlet. -/
def State.pouringOn (s : State) (o : Outlet) : Bool :=
  s.pour.state == .pouring && (s.pour.record.map OpenPour.outlet == some o)

/-- The driven value of every output (10 R173, R174). -/
def State.driven (s : State) : Outputs :=
  if s.power ≠ .running then Outputs.closed
  else
    let hold := s.mode.mode == .starting
    let probe := s.thermal.probe == .fault
    { chillValve := s.staged.chillValve && s.permitted .chill && !hold && !probe
      heater := s.staged.heater && s.permitted .heat && !hold && !probe
      gasValve := s.staged.gasValve && s.permitted .gas && !hold && !s.pressure.leak
      reliefValve := s.relief
      frontValve := s.staged.frontValve && s.pouringOn .front && !hold
      fillValve := s.staged.fillValve && s.pouringOn .fill && !hold }

/-! ### Notices (10 R176, R177) -/

/-- The modes in which a NOTICE is queued (10 R177). -/
def Mode.sendsNotices : Mode → Bool
  | .vacant | .joining | .active | .doubtful => true
  | .starting | .muted => false

/-- The flags of a set raised, and a NOTICE asked for if one of them is enabled. -/
def State.raise (s : State) (mask : Word) : State :=
  { s with
    notice := s.notice.raised mask
    tx := if s.notice.asks mask && s.mode.mode.sendsNotices then s.tx.askNotice else s.tx }

/-- A flag set that holds a flag where a condition holds, and nothing otherwise. -/
def flagIf (b : Bool) (f : Flag) : Word := if b then f.mask else 0

/-! ### Needs (04 R58, R61) -/

/-- A controller publishes its need of a resource. -/
def State.publish (s : State) (x : Resource) (need : Option Need) : State :=
  let d := DemandTx.publish ⟨s.demand.get x, s.tx⟩ s.active x need
  { s with demand := s.demand.set x d.rcd, tx := d.tx }

/-- An operation on the demand record of one resource and the queue. -/
def State.onDemand (s : State) (x : Resource) (f : DemandTx → DemandTx) : State :=
  let d := f ⟨s.demand.get x, s.tx⟩
  { s with demand := s.demand.set x d.rcd, tx := d.tx }

/-! ### The frame in hand and the roster (01 R9, 02 R26, 05 R85) -/

/-- A roster entry for a station just heard. -/
def RosterEntry.unreported (address : Nat) : RosterEntry := ⟨address, none, 0, 0, 0, 0⟩

/-- The silence age of a sender returns to 0; a sender with no entry gains one (05 R85). -/
def refreshRoster (address : Nat) : List RosterEntry → List RosterEntry
  | [] => [RosterEntry.unreported address]
  | r :: rest =>
    if address < r.address then RosterEntry.unreported address :: r :: rest
    else if address = r.address then { r with silence := 0 } :: rest
    else r :: refreshRoster address rest

/-- The roster entry of an address. -/
def rosterOf (address : Nat) (l : List RosterEntry) : Option RosterEntry := l.find? (fun r => r.address == address)

/-- The frame in hand is finished with, and the handler takes the oldest entry of the receive queue (01 R9); the frame's sender
is handed to the roster unless it carries the own mark (02 R26) or fails a test of R25. -/
def State.popFrame (s : State) (e : RxEntry) : State :=
  { s with
    line := { s.line with rxQueue := s.line.rxQueue.tail }
    handler := { s.handler with inHand := s.line.rxQueue.head? }
    mode := { s.mode with
      roster :=
        if e.own || (classify s.line.address e).rejected then s.mode.roster else refreshRoster e.sender s.mode.roster } }

/-- The frame in hand is judged and processed; the row has its effect only if that frame is of the class the row stands for
(01 R9, 02 R25, R26, log 6). -/
def takeFrame (s : State) (ok : FrameClass → Bool) (f : RxEntry → State → State) : State :=
  match s.handler.inHand with
  | none => s
  | some e => if ok (classify s.line.address e) then f e (s.popFrame e) else s

/-! ### The announce timer (05 R86) -/

/-- An ANNOUNCE is requested and the timer returns to 0. -/
def State.announceRequest (s : State) : State :=
  { s with mode := { s.mode with announceTimer := some 0 }, tx := s.tx.askAnnounce }

end Sys2Proof.Machine
end

