-- ==== Sys2Proof/Machine/Pressure.lean ====
section
/-! DEFINITION. The pressure controller: samples, safety state, spund staging, relief openings, gas need, leak lockout
(08 R137 to R148). -/

namespace Sys2Proof.Machine

/-- A valid reading of the pressure sensor (08 R138). -/
def pressureValid (v : Int) : Bool := decide (0 ≤ v ∧ v ≤ 400)

/-- The latest sample while the pressure state is GOOD. -/
def Pressure.reading (p : Pressure) : Option Int := if p.sensor = .good then p.sample else none

/-- The safety state after an evaluation: true for TRIPPED (08 R141). -/
def Pressure.judged (p : Pressure) (limit : Nat) : Bool :=
  match p.reading with
  | some v => if (limit : Int) ≤ v then true else if v ≤ (limit : Int) - 20 then false else p.tripped
  | none => p.tripped

/-- The spund staging after an evaluation (08 R143). -/
def spundStaging (p : Pressure) (phase : Phase) (offered : Option Nat) (before : Bool) : Bool :=
  match offered, p.reading with
  | some point, some v =>
    if phase ≠ .fermenting then false
    else if (point : Int) ≤ v then true
    else if v ≤ (point : Int) - 10 then false
    else before
  | _, _ => false

/-- The gas ceiling (08 R145). -/
def gasCeiling (cfg : WorkingCopy) : Nat := cfg.safetyLimit - 30

/-- The top-up target (08 R145). -/
def topUpTarget (cfg : WorkingCopy) (keg : Keg) : Nat := min keg.carbTarget (gasCeiling cfg)

/-- The pour floor (08 R145). -/
def pourFloor (cfg : WorkingCopy) : Nat := min cfg.serveMin (gasCeiling cfg)

/-- The sample raises the gas need (08 R146). -/
def gasArises (topUp floor : Nat) (pouring : Bool) (v : Int) : Bool :=
  decide (v < (topUp : Int) - 10) || (pouring && decide (v < (floor : Int)))

/-- The sample ends the gas need (08 R146). -/
def gasEnds (topUp floor : Nat) (pouring : Bool) (v : Int) : Bool :=
  decide (((if pouring then max topUp floor else topUp : Nat) : Int) ≤ v)

/-- The gas need is allowed, with the safety state as this evaluation has judged it; before the configuration load ends the
inputs are taken as deasserted (08 R146). -/
def State.gasAllowed (s : State) (tripped : Bool) : Bool :=
  (s.keg.phase == .conditioning || s.keg.phase == .serving) && s.pressure.sensor == .good && !tripped &&
    !s.pressure.leak && s.load == .ended && s.kegReady

/-- The gas need after an evaluation: SERVE 1 while a pour is in progress, CARB 1 otherwise (08 R146, R147). -/
def State.gasNeedNow (s : State) (tripped : Bool) : Option Need :=
  match s.pressure.reading with
  | some v =>
    let topUp := topUpTarget s.cfg s.keg
    let floor := pourFloor s.cfg
    let pouring := s.pour.inProgress
    if s.gasAllowed tripped && (gasArises topUp floor pouring v ||
        (s.pressure.gasNeed.isSome && !gasEnds topUp floor pouring v)) then
      some ⟨1, if pouring then .serve else .carb⟩
    else none
  | none => none

/-- A relief opening counted by the program unit, staying at 255 (07 R133). -/
def Program.opening (p : Program) (counted : Bool) : Program :=
  { p with currentHour := if counted then bump 255 p.currentHour else p.currentHour }

/-- An evaluation, the driven relief having stood at `before` when the event began (08 R142, R144). -/
def State.pressureEvalFrom (before : Bool) (s : State) : State :=
  let tripped := s.pressure.judged s.cfg.safetyLimit
  let spund := spundStaging s.pressure s.keg.phase s.program.offeredSpund s.staged.reliefValve
  let gas := s.gasNeedNow tripped
  let opened := !before && (tripped || s.pressure.sensor == .fault || spund)
  let s1 : State := { s with
    pressure := { s.pressure with tripped := tripped, gasNeed := gas }
    staged := { s.staged with reliefValve := spund, gasValve := gas.isSome }
    program := s.program.opening (opened && s.keg.phase == .fermenting) }
  (s1.raise (flagIf (tripped && !s.pressure.tripped) .overPressure)).publish .gas gas

/-- An evaluation of the pressure controller (08 R142). -/
def State.pressureEval (s : State) : State := s.pressureEvalFrom s.relief

/-- A pressure sample with its fault or recovery and the evaluation that follows (08 R138 to R140). -/
def State.pressureSample (s : State) (v : Int) : State :=
  let state : SensorState := if pressureValid v then .good else .fault
  let s1 : State := { s with pressure := { s.pressure with sensor := state, sample := some v } }
  (s1.raise (flagIf (state == .fault && s.pressure.sensor != .fault) .sensorFault)).pressureEvalFrom s.relief

/-- The leak lockout begins (08 R148). -/
def State.leakBegin (s : State) : State :=
  (State.pressureEval { s with pressure := { s.pressure with leak := true } }).raise Flag.leak.mask

/-- The leak lockout ends (08 R148). -/
def State.leakEnd (s : State) : State := State.pressureEval { s with pressure := { s.pressure with leak := false } }

end Sys2Proof.Machine
end

