-- ==== Sys2Proof/Machine/Thermal.lean ====
section
/-! DEFINITION. The thermal controller: regime, target and band, needs, staging, drift (06 R99 to R113). -/

namespace Sys2Proof.Machine

/-- The control regime, the rows of R104 from the top. -/
def regimeOf (probe : SensorState) (mode : Mode) (phase : Phase) (p : Program) : Regime :=
  if probe ≠ .good then .off
  else if mode = .vacant then .off
  else
    match phase, p.state with
    | .serving, _ => .serve
    | .fermenting, .running | .conditioning, .running => .step
    | .fermenting, .paused | .conditioning, .paused =>
      if p.reasons.sensor || p.reasons.kegAbsent then .off
      else if p.reasons.ordered then .frozen else .off
    | _, _ => .off

/-- The target and band of the current step: a RAMP's present target, any other kind's target (06 R105). -/
def stepHold (p : Program) : Option Hold :=
  p.currentStep.map fun st =>
    match st.kind, p.ramp with
    | .ramp, some r => ⟨r.present, st.band⟩
    | _, _ => ⟨st.target, st.band⟩

/-- The effective target and band of a regime (06 R104). -/
def effectiveOf (regime : Regime) (p : Program) (frozen : Option Hold) (serveTarget : Int) : Option Hold :=
  match regime with
  | .off => none
  | .step => stepHold p
  | .frozen => frozen
  | .serve => some ⟨serveTarget, 5⟩

/-- The cooling need is present after an evaluation (06 R108). -/
def coolingPresent (h : Hold) (sample : Int) (before : Bool) : Bool :=
  decide (h.target + h.band < sample) || (before && decide (h.target < sample))

/-- The heating need is present after an evaluation (06 R110). -/
def heatingPresent (h : Hold) (sample : Int) (before : Bool) : Bool :=
  decide (sample < h.target - h.band) || (before && decide (sample < h.target))

/-- The class and amount of a cooling need (06 R109). -/
def coolingClass (regime : Regime) (kind : Option StepKind) (h : Hold) (sample : Int) (cfg : WorkingCopy) : Need :=
  if regime = .serve then (if cfg.serveMax < sample then ⟨2, .protect⟩ else ⟨1, .hold⟩)
  else if kind = some .crash then ⟨4, .crash⟩
  else if h.target + cfg.protectMargin < sample then ⟨2, .protect⟩
  else ⟨2, .ferment⟩

/-- One evaluation: regime, target and band, cooling need, heating need (06 R107 to R111). -/
def Thermal.evaluate (t : Thermal) (mode : Mode) (keg : Keg) (p : Program) (cfg : WorkingCopy) : Thermal :=
  let regime := regimeOf t.probe mode keg.phase p
  let hold := effectiveOf regime p t.frozen keg.serveTarget
  { t with
    regime := regime
    effective := hold
    cooling :=
      match hold, t.sample with
      | some h, some v =>
        if coolingPresent h v t.cooling.isSome then
          some (coolingClass regime (p.currentStep.map StepRecord.kind) h v cfg)
        else none
      | _, _ => none
    heating :=
      match hold, t.sample with
      | some h, some v =>
        if regime ≠ .serve ∧ heatingPresent h v t.heating.isSome = true then some ⟨1, .ferment⟩ else none
      | _, _ => none }

/-- The two needs published, the absent one first (06 R111, R112). -/
def State.publishThermal (s : State) : State :=
  if s.thermal.cooling.isSome then (s.publish .heat s.thermal.heating).publish .chill s.thermal.cooling
  else (s.publish .chill s.thermal.cooling).publish .heat s.thermal.heating

/-- An evaluation of the thermal controller with its staging and publication (06 R107, R112). -/
def State.thermalEval (s : State) : State :=
  let t := s.thermal.evaluate s.mode.mode s.keg s.program s.cfg
  State.publishThermal { s with
    thermal := t
    staged := { s.staged with chillValve := t.cooling.isSome, heater := t.heating.isSome } }

/-- A valid reading of the beer probe, −10.0 to 60.0 degrees (06 R100). -/
def probeValid (v : Int) : Bool := decide (-100 ≤ v ∧ v ≤ 600)

/-- One second of the drift timer, after the sample and its evaluation (06 R113). -/
def Thermal.driftTick (t : Thermal) (limit : Nat) : Thermal :=
  if t.regime = .off then t
  else if t.inBand then { t with drift := 0, driftNoticed := false }
  else { t with drift := bump limit t.drift }

end Sys2Proof.Machine
end

