-- ==== Sys2Proof/Machine/Program.lean ====
section
/-! DEFINITION. The program unit: step entry and end, the ramp, in-band time, due and end tests, pauses, the activity window
(07 R114 to R136). -/

namespace Sys2Proof.Machine

/-! ### Steps -/

/-- The ramp state set up for a step entered from a start point (07 R121). -/
def rampAt (st : StepRecord) (start : Int) : Option Ramp :=
  if st.kind = .ramp then some ⟨start, start, 0, start == st.target⟩ else none

/-- A RAMP step's reached mark; true for any other kind, whose tests it does not hold back (07 R124, R125). -/
def Program.reached (p : Program) : Bool :=
  match p.currentStep, p.ramp with
  | some st, some r => st.kind != .ramp || r.reached
  | _, _ => true

/-- The due test of an ORDER step on the state as it stands (07 R125). -/
def Program.meetsDue (p : Program) : Bool :=
  match p.currentStep with
  | some st => st.stepEnd == .order && decide (st.duration ≤ p.elapsed) && p.reached
  | none => false

/-- The current step's duration is above 0, so that becoming due raises STEP-DONE (07 R125). -/
def Program.timed (p : Program) : Bool :=
  match p.currentStep with
  | some st => decide (0 < st.duration)
  | none => false

/-- Step i entered, its ramp starting at `start`; the due test is made at entry (07 R121, R125). -/
def Program.enter (p : Program) (i : Nat) (start : Int) : Program :=
  let q : Program :=
    { p with current := some i, elapsed := 0, due := false, ramp := p.steps[i]?.bind (fun st => rampAt st start) }
  { q with due := q.meetsDue }

/-- What entering a step does to the keg record: CONDITION sets phase and carbonation target; any other kind sets FERMENTING at
START-PROGRAM only (07 R121). -/
def Keg.enter (k : Keg) (st : Option StepRecord) (fromStart : Bool) : Keg :=
  match st with
  | some r =>
    if r.kind = .condition then { k with phase := .conditioning, carbTarget := r.carb }
    else if fromStart then { k with phase := .fermenting } else k
  | none => k

/-- The current step is the last. -/
def Program.atLast (p : Program) : Bool :=
  match p.current with
  | some c => decide (p.steps.length ≤ c + 1)
  | none => true

/-- The program after the current step ends (07 R127). -/
def Program.finish (p : Program) : Program :=
  match p.atLast, p.current with
  | false, some c => p.enter (c + 1) (((p.steps[c]?).map StepRecord.target).getD 0)
  | _, _ => { p with state := .complete, current := none, elapsed := 0, ramp := none, due := false }

/-- The keg record after the current step ends (07 R127). -/
def Keg.finish (k : Keg) (p : Program) : Keg :=
  match p.atLast, p.current with
  | false, some c => k.enter p.steps[c + 1]? false
  | _, _ => { k with phase := .serving }

/-- The flags the end of the current step raises (07 R127). -/
def Program.finishFlags (p : Program) : Word :=
  if p.atLast then Flag.stepDone.mask ||| Flag.programComplete.mask else Flag.stepDone.mask

/-- The current step ends; the controllers are told once, after all changes (07 R127, R128). The thermal controller evaluates
before the pressure controller, an order the spec leaves open (log 36). -/
def State.endStep (s : State) : State :=
  let s1 : State := { s with program := s.program.finish, keg := s.keg.finish s.program }
  (s1.raise s.program.finishFlags).thermalEval.pressureEval

/-! ### Time in a step -/

/-- A ramp's present target after a number of ramp minutes: the start point moved toward the target by the whole tenths of
minutes × rate ÷ 60, never past it (07 R122). -/
def rampTarget (start target : Int) (minutes rate : Nat) : Int :=
  let moved : Int := ((minutes * rate / 60 : Nat) : Int)
  if start ≤ target then min (start + moved) target else max (start - moved) target

/-- One minute of a ramp in band (07 R122). -/
def Ramp.advance (r : Ramp) (st : StepRecord) : Ramp :=
  let minutes := bump 65535 r.minutes
  let present := rampTarget r.start st.target minutes st.rate
  { r with minutes := minutes, present := present, reached := present == st.target }

/-- The program after a minute's ramp and in-band count, while RUNNING (07 R122, R123). -/
def Program.minute (p : Program) (inBand : Bool) : Program :=
  if p.state = .running ∧ inBand = true then
    match p.currentStep, p.ramp with
    | some st, some r =>
      if st.kind = .ramp ∧ r.reached = false then { p with ramp := some (r.advance st) }
      else { p with elapsed := bump 20160 p.elapsed }
    | some _, none => { p with elapsed := bump 20160 p.elapsed }
    | none, _ => p
  else p

/-- The sum of the newest w completed hourly counts (07 R124). -/
def Program.activity (p : Program) (w : Nat) : Nat := (p.window.take w).sum

/-- The current step's own end condition holds (07 R124). -/
def Program.meetsEnd (p : Program) : Bool :=
  match p.currentStep with
  | some st =>
    match st.stepEnd with
    | .time => decide (st.duration ≤ p.elapsed) && p.reached
    | .activity => decide (st.duration ≤ p.elapsed) && p.reached && decide (p.activity st.hours ≤ st.threshold)
    | .order => false
  | none => false

/-- The current step is an ACTIVITY step. -/
def Program.isActivity (p : Program) : Bool :=
  match p.currentStep with
  | some st => st.stepEnd == .activity
  | none => false

/-- A due test met for the first time in the step sets the mark and, for a duration above 0, raises STEP-DONE (07 R125). -/
def State.dueTest (s : State) : State :=
  let first := s.program.state == .running && s.program.meetsDue && !s.program.due
  State.raise { s with program := { s.program with due := s.program.due || first } }
    (flagIf (first && s.program.timed) .stepDone)

/-- A minute event at the program unit: ramp, in-band count, due test, end test (07 R122 to R125). -/
def State.minute (s : State) : State :=
  let s1 : State := { s with program := s.program.minute s.thermal.inBand }
  let s2 := s1.dueTest
  if s2.program.state = .running ∧ s2.program.meetsEnd = true then s2.endStep
  else if s1.program.ramp.map Ramp.present ≠ s.program.ramp.map Ramp.present then s2.thermalEval
  else s2

/-- The activity window moved by one hour (07 R134). -/
def Program.hour (p : Program) : Program :=
  { p with window := p.currentHour :: p.window.take 23, currentHour := 0 }

/-- An hour event at the program unit: the window moves, and an ACTIVITY step's end is tested (07 R124, R134). -/
def State.hour (s : State) : State :=
  let s1 : State := { s with program := s.program.hour }
  if s1.program.state = .running ∧ s1.program.isActivity = true ∧ s1.program.meetsEnd = true then s1.endStep else s1

/-! ### Pausing and resuming -/

inductive PauseReason where
  | ordered | sensor | kegAbsent
  deriving DecidableEq, Repr

/-- A reason added to the set. -/
def PauseReasons.add (r : PauseReasons) : PauseReason → PauseReasons
  | .ordered => { r with ordered := true }
  | .sensor => { r with sensor := true }
  | .kegAbsent => { r with kegAbsent := true }

/-- The set of pause reasons is empty. -/
def PauseReasons.none (r : PauseReasons) : Bool := !r.ordered && !r.sensor && !r.kegAbsent

/-- A pause reason added: a RUNNING program becomes PAUSED, one PAUSED gains the reason, any other is unchanged (07 R129). -/
def Program.pause (p : Program) (r : PauseReason) : Program :=
  if p.underWay then { p with state := .paused, reasons := p.reasons.add r } else p

/-- A pause reason added at the station: a RUNNING program's step is recorded as the frozen target and band, then the thermal
controller evaluates; a reason already in the set changes nothing (06 R106, R107, 07 R129; log 27). -/
def State.pauseFor (s : State) (r : PauseReason) : State :=
  if s.program.underWay ∧ s.program.pause r ≠ s.program then
    State.thermalEval { s with
      program := s.program.pause r
      thermal := { s.thermal with frozen := if s.program.state = .running then stepHold s.program else s.thermal.frozen } }
  else s

/-- The pause reasons a RESUME-PROGRAM leaves (07 R131). -/
def State.reasonsLeft (s : State) : PauseReasons :=
  { ordered := false
    sensor := s.program.reasons.sensor && s.thermal.probe != .good
    kegAbsent := s.program.reasons.kegAbsent && !s.kegReady }

/-- The beer probe's sample with its fault or recovery and the evaluation that follows (06 R100 to R102). -/
def State.probeSample (s : State) (v : Int) : State :=
  let state : SensorState := if probeValid v then .good else .fault
  let entered := state == .fault && s.thermal.probe != .fault
  let s1 : State := { s with thermal := { s.thermal with probe := state, sample := some v } }
  let s2 := s1.raise (flagIf entered .sensorFault)
  (if entered then s2.pauseFor .sensor else s2).thermalEval

end Sys2Proof.Machine
end

