-- ==== Sys2Proof/Machine/Pour.lean ====
section
/-! DEFINITION. The pour engine: requests and the outlet arbiter, acceptance, metering, ends, settling, the pour log
(09 R154 to R168). -/

namespace Sys2Proof.Machine

/-! ### Requests (09 R155 to R158) -/

/-- A pour request; `byOrder` where a POUR-PORTION made it. -/
structure PourRequest where
  outlet  : Outlet
  kind    : PourKind
  portion : Option Nat
  byOrder : Bool
  deriving DecidableEq, Repr

/-- The first precondition of R157 that fails. -/
def State.pourRefusal (s : State) : Option PourRefusal :=
  if s.keg.phase ≠ .serving then some .notServing
  else if s.kegReady = false then some .notCoupled
  else if (match s.thermal.probe, s.thermal.sample with
      | .good, some v => decide (v ≤ s.cfg.serveMax)
      | _, _ => false) = false then some .tooWarm
  else if (match s.pressure.reading with
      | some v => decide ((s.cfg.serveMin : Int) ≤ v)
      | none => false) = false then some .lowPressure
  else if s.keg.remaining = 0 then some .noBeer
  else none

/-- A refused request: the last refusal reason, and POUR-REFUSED (09 R157). -/
def State.refusePour (s : State) (r : PourRefusal) : State :=
  State.raise { s with keg := { s.keg with lastRefusal := some r } } Flag.pourRefused.mask

/-- The staged values of the outlet valves (09 R159). -/
def Outputs.stageOutlet (o : Outputs) (open? : Option Outlet) : Outputs :=
  { o with frontValve := open? == some .front, fillValve := open? == some .fill }

/-- The pour engine as a request is accepted (09 R158). -/
def Pour.accept (p : Pour) (q : PourRequest) : Pour :=
  { p with
    state := .pouring, record := some ⟨q.outlet, q.kind, q.portion, 0, none⟩, remainder := 0, seconds := 0, dry := 0,
    foam := 0, pulses := 0 }

/-- An accepted request (09 R158). -/
def State.acceptPour (s : State) (q : PourRequest) : State :=
  State.pressureEval { s with pour := s.pour.accept q, staged := s.staged.stageOutlet (some q.outlet) }

/-- A request that won the arbiter, checked (09 R157). -/
def State.checkPour (s : State) (q : PourRequest) : State :=
  match s.pourRefusal with
  | some r => s.refusePour r
  | none => s.acceptPour q

/-- The place of a request in the arbiter's choice: FRONT before FILL, an input before an order (09 R156). -/
def PourRequest.place (q : PourRequest) : Nat :=
  (match q.outlet with
    | .front => 0
    | .fill => 2) + if q.byOrder then 1 else 0

/-- The request that wins among those presented together. -/
def winner (q : PourRequest) (others : List PourRequest) : PourRequest :=
  others.foldl (fun best r => if r.place < best.place then r else best) q

/-- The requests of one moment presented to the arbiter together: while the engine is not IDLE all are refused BUSY; else one
wins and is checked, and the others are refused BUSY, before or after that check as the free value drawn has it (09 R156, R157,
log 20). -/
def State.arbitrate (s : State) : List PourRequest → State
  | [] => s
  | q :: others =>
    if s.pour.inProgress then s.refusePour .busy
    else if others.isEmpty then s.checkPour q
    else
      let u := { s with draws := s.draws + 1 }
      if Config.displacedFirst s.draws then (u.refusePour .busy).checkPour (winner q others)
      else (u.checkPour (winner q others)).refusePour .busy

/-- The answer to a POUR-PORTION whose request is presented with others: DONE where it wins and is accepted (09 R157, R158). -/
def State.portionAccepted (s : State) (q : PourRequest) (inputs : List PourRequest) : Bool :=
  !s.pour.inProgress && winner q inputs == q && s.pourRefusal.isNone

/-! ### The end of a pour (09 R162) -/

/-- The pour engine as a pour ends. -/
def Pour.ended (p : Pour) (r : EndReason) : Pour :=
  { p with state := .settling, settle := 0, record := p.record.map (fun rec => { rec with reason := some r }) }

/-- A POURING pour ends: the reason is recorded, SETTLING begins, the outlet closes, the pressure controller evaluates; in any
other pour state nothing ends (09 R162). -/
def State.endPour (s : State) (r : EndReason) : State :=
  if s.pour.state = .pouring then
    State.pressureEval { s with pour := s.pour.ended r, staged := s.staged.stageOutlet none }
  else s

/-- The kind of the open pour record. -/
def Pour.kind (p : Pour) : Option PourKind := p.record.map OpenPour.kind

/-! ### Metering (09 R160, R161) -/

/-- The keg record after one metered millilitre (09 R160). -/
def Keg.meter (k : Keg) : Keg :=
  if k.dispensed < k.fill then { k with dispensed := k.dispensed + 1 }
  else { k with unaccounted := bump 65535 k.unaccounted }

/-- The millilitre just metered brings the remaining volume below the low mark for the first time (09 R161). -/
def Keg.goesLow (before after : Keg) (percent : Nat) : Bool :=
  decide (before.dispensed < before.fill) && !before.lowPassed &&
    decide (after.remaining < lowMarkOf after.fill percent)

/-- The end the pour volume has reached: PORTION-MET before LIMIT (09 R162). -/
def OpenPour.volumeEnd (r : OpenPour) : Option EndReason :=
  if r.portion = some r.volume then some .portionMet else if r.volume = 2000 then some .limit else none

/-- The open pour record with one more millilitre. -/
def Pour.meter (p : Pour) : Pour :=
  { p with record := p.record.map (fun rec => { rec with volume := rec.volume + 1 }) }

/-- One millilitre metered into the pour and the keg record, with the low mark and the tests that follow (09 R160 to R162). -/
def State.meterOne (s : State) : State :=
  let keg := s.keg.meter
  let low := s.keg.goesLow keg s.cfg.lowMark
  let s1 : State :=
    { s with pour := s.pour.meter, keg := { keg with lowPassed := keg.lowPassed || low } }
  let s2 := s1.raise (flagIf low .kegLow)
  match s2.pour.record.bind OpenPour.volumeEnd with
  | some r => s2.endPour r
  | none => s2

/-- Millilitres metered one after another. -/
def State.meterMany : Nat → State → State
  | 0, s => s
  | n + 1, s => State.meterMany n s.meterOne

/-- A meter pulse at the pour engine (09 R160). -/
def State.pulse (s : State) : State :=
  if s.pour.inProgress then
    let sum := s.pour.remainder + 1000
    State.meterMany (sum / s.cfg.flowK)
      { s with pour := { s.pour with pulses := s.pour.pulses + 1, remainder := sum % s.cfg.flowK } }
  else s

/-! ### Seconds of a pour (09 R163, R164, R166) -/

/-- A second event at the pour engine. -/
def Pour.second (p : Pour) (foamLimit : Nat) : Pour :=
  match p.state with
  | .idle => p
  | .pouring =>
    { p with
      seconds := p.seconds + 1
      dry := if p.seconds + 1 ≤ 2 then 0 else if p.pulses = 0 then bump 3 p.dry else 0
      foam := if foamLimit < p.pulses then bump 2 p.foam else 0
      pulses := 0 }
  | .settling => { p with settle := bump 2 p.settle, pulses := 0 }

/-! ### The pour log (09 R166 to R168) -/

/-- A pour log entry written at position 0, the ninth dropped (09 R167). -/
def pushLog (e : LogEntry) (log : List LogEntry) : List LogEntry := e :: log.take 7

/-- The entry an open pour record makes; INTERRUPTED where it holds no end reason (09 R166, R168). -/
def OpenPour.entry (r : OpenPour) (remaining : Nat) : LogEntry :=
  ⟨r.outlet, r.kind, r.volume, r.reason.getD .interrupted, remaining⟩

/-- The pour log with the open pour record, if there is one, written into it. -/
def Pour.logged (p : Pour) (remaining : Nat) : List LogEntry :=
  match p.record with
  | some r => pushLog (r.entry remaining) p.log
  | none => p.log

/-- The pour engine as SETTLING ends (09 R160, R166). -/
def Pour.settled (p : Pour) (remaining : Nat) : Pour :=
  { p with state := .idle, record := none, remainder := 0, log := p.logged remaining }

end Sys2Proof.Machine
end

