-- ==== Sys2Proof/Machine/Mode.lean ====
section
/-! DEFINITION. The mode controller: entering and leaving the modes, the sync progress, founding, the suspect mark, doubt and
conflict (05 R80 to R98), with what they do to the table, the leases, the demand records and the queue. -/

namespace Sys2Proof.Machine

/-! ### Peers -/

/-- The code of ACTIVE in a roster entry. -/
def reportsActive (r : RosterEntry) : Bool := r.reported == some 4

/-- A keg station's entry: address 1 to 8. -/
def isKeg (r : RosterEntry) : Bool := decide (1 ≤ r.address ∧ r.address ≤ 8)

/-- The station has a lower ACTIVE peer (05 R85). -/
def State.lowerActive (s : State) : Bool :=
  s.mode.roster.any (fun r => isKeg r && reportsActive r && decide (r.address < s.line.address))

/-- The station has a lower ACTIVE peer other than q (05 R88). -/
def State.lowerActiveBut (s : State) (q : Nat) : Bool :=
  s.mode.roster.any (fun r =>
    isKeg r && reportsActive r && decide (r.address < s.line.address) && r.address != q)

/-- The founding test (05 R92). -/
def State.mayFound (s : State) : Bool :=
  !s.mode.roster.any (fun r => isKeg r && reportsActive r) &&
    !s.mode.roster.any (fun r =>
      isKeg r && (r.reported == some 3 || r.reported == some 5) && decide (r.address < s.line.address))

/-! ### The table and what hangs on it -/

/-- The table discarded or cleared: every lease age dropped, every standing none (03 R37, 04 R67; log 14). -/
def State.setTable (s : State) (sh : Share) : State :=
  { s with share := sh, lease := { s.lease with ages := .all [] }, demand := s.demand.map DemandRec.leave }

/-- The station leaves ACTIVE: share, EXPIRE and SYNC-TABLE entries withdrawn, a YIELD-ALL queued for the whole share sort, the
table discarded or cleared, the expiry records ended, the demand records told (05 R82, 04 R67, R73). -/
def State.leaveActive (s : State) (sh : Share) : State :=
  State.setTable { s with
    tx := (s.tx.withdraw TxFrame.ofActive).putYieldAll
    lease := { s.lease with expiry := .all none } } sh

/-- Another mode: an ANNOUNCE is requested (05 R86). -/
def State.enterMode (s : State) (m : Mode) : State :=
  State.announceRequest { s with mode := { s.mode with mode := m } }

/-- The sync progress as a sync begins (05 R87). -/
def Sync.asking : Sync := ⟨.asking, 0, false, 0, 0⟩

/-- Entry into JOINING or DOUBTFUL: the table cleared for sync, a YIELD-ALL and a SYNC-ASK queued (05 R87). -/
def State.enterSync (s : State) (m : Mode) : State :=
  let s1 := s.setTable Share.cleared
  State.enterMode { s1 with tx := s1.tx.askYieldAll.askSync, mode := { s1.mode with sync := Sync.asking } } m

/-- From ACTIVE to DOUBTFUL (05 R96). -/
def State.enterDoubtful (s : State) : State :=
  ((s.leaveActive Share.cleared).raise Flag.lineTrouble.mask).enterSync .doubtful

/-- A sync abandoned: the SYNC-ASK withdrawn, the table discarded, no sync progress (05 R83, R97; log 13). -/
def State.abandonSync (s : State) : State :=
  let s1 := s.setTable Share.discarded
  { s1 with tx := s1.tx.withdraw (· == .syncAsk), mode := { s1.mode with sync := Sync.initial } }

/-- The table given up on the way to VACANT or MUTED: from ACTIVE by R82, from JOINING or DOUBTFUL by R83 and R97. -/
def State.giveUp (s : State) : State := if s.active then s.leaveActive Share.discarded else s.abandonSync

/-- Entry into VACANT; the thermal controller evaluates (05 R83, 06 R107). -/
def State.enterVacant (s : State) : State := (s.giveUp.enterMode .vacant).thermalEval

/-- Entry into MUTED: the NOTICE withdrawn, CONFIG-CONFLICT raised (05 R97, R98). -/
def State.enterMuted (s : State) : State :=
  let s1 := s.giveUp.enterMode .muted
  State.raise { s1 with tx := s1.tx.withdraw (· == .notice) } Flag.configConflict.mask

/-- From VACANT to JOINING; the thermal controller evaluates (05 R83, 06 R107). -/
def State.enterJoining (s : State) : State := (s.enterSync .joining).thermalEval

/-- A record's standing taken from the table, and R64 (04 R68, log 14). -/
def DemandTx.enterActive (d : DemandTx) (x : Resource) (st : Standing) : DemandTx :=
  let e := DemandTx.reconcile ⟨{ d.rcd with standing := st }, d.tx⟩ true x
  ⟨e.rcd.settle true, e.tx⟩

/-- The station becomes ACTIVE: suspect mark cleared, SYNC-ASK withdrawn, sync progress at rest, each demand record brought
into line in the order CHILL, GAS, HEAT, which the spec leaves open (log 34), an ANNOUNCE requested (05 R90, 04 R68). -/
def State.becomeActive (s : State) : State :=
  let s1 : State := { s with
    mode := { s.mode with mode := .active, suspect := false, sync := Sync.initial }
    tx := s.tx.withdraw (· == .syncAsk) }
  let own := s.line.address
  (((s1.onDemand .chill (fun d => d.enterActive .chill (s.share.standing own .chill))).onDemand .gas
    (fun d => d.enterActive .gas (s.share.standing own .gas))).onDemand .heat
    (fun d => d.enterActive .heat (s.share.standing own .heat))).announceRequest

/-- The station founds an empty table and becomes ACTIVE (05 R92). -/
def State.found (s : State) : State := (s.setTable Share.founded).becomeActive

/-! ### The suspect mark (05 R93, R94, R96) -/

/-- A LIVE section may have missed a frame: the sync begins again (05 R93). -/
def State.spoilSync (s : State) : State :=
  let s1 := s.setTable Share.cleared
  { s1 with tx := s1.tx.askSync, mode := { s1.mode with sync := Sync.asking } }

/-- An ACTIVE station with its suspect mark set and no lower ACTIVE peer doubts (05 R96). -/
def State.doubtTest (s : State) : State :=
  if s.active && s.mode.suspect && !s.lowerActive then s.enterDoubtful else s

/-- A setting of the suspect mark (05 R94). -/
def State.setSuspect (s : State) : State :=
  let s1 : State := { s with mode := { s.mode with suspect := true } }
  if s1.syncing && s1.share.anyLive then s1.spoilSync else s1.doubtTest

/-- The setting held back while the frame just processed was in hand is acted on (05 R94). -/
def State.releaseSuspect (s : State) : State :=
  if s.mode.suspectHeld then State.setSuspect { s with mode := { s.mode with suspectHeld := false } } else s

/-! ### Waiting and resting (05 R91) -/

/-- A SYNC-ASK queued and the stage ASKING. -/
def State.askAgain (s : State) (failed : Nat) : State :=
  { s with tx := s.tx.askSync, mode := { s.mode with sync := { s.mode.sync with stage := .asking, failedAsks := failed } } }

/-- A rest begins. -/
def State.beginRest (s : State) : State :=
  { s with mode := { s.mode with sync := { s.mode.sync with stage := .resting, rest := 0, slow := true, failedAsks := 3 } } }

/-- The answer wait has expired: the ask has failed (05 R91, R92). -/
def State.waitExpired (s : State) : State :=
  if s.mode.sync.slow then (if s.mayFound then s.found else s.beginRest)
  else if s.mode.sync.failedAsks + 1 < 3 then s.askAgain (s.mode.sync.failedAsks + 1)
  else if s.mayFound then s.found
  else s.beginRest.raise Flag.lineTrouble.mask

/-- A rest ends: a SYNC-ASK is queued (05 R91). -/
def State.restEnds (s : State) : State := s.askAgain s.mode.sync.failedAsks

/-- An own word that the SYNC-ASK was sent: while ASKING the answer wait starts (05 R91, log 21). -/
def Sync.askSent (y : Sync) : Sync := if y.stage = .asking then { y with stage := .listening, wait := 0 } else y

/-- A SYNC-TABLE for this station restarts the answer wait (05 R89). -/
def Sync.heard (y : Sync) : Sync := if y.stage = .listening then { y with wait := 0 } else y

/-- One second of the answer wait or the rest. -/
def Sync.second (y : Sync) : Sync :=
  match y.stage with
  | .listening => { y with wait := bump 2 y.wait }
  | .resting => { y with rest := bump 5 y.rest }
  | .noSync | .asking => y

end Sys2Proof.Machine
end

