-- ==== Sys2Proof/Machine/Compose.lean ====
section
/-! DEFINITION. The frames a station composes (01 R13, 02 R23, R27 to R30) and the data of its ANSWER frames (02 section 2.6,
11 R185). -/

namespace Sys2Proof.Machine

/-- The first character of an ANNOUNCE and of the status data: start reason × 16 + mode (05 R76). -/
def State.modeByte (s : State) : Byte := nat8 (reasonCode s.mode.startReason * 16 + modeCode s.mode.mode)

/-- The body of an ANNOUNCE; change count and table digest only while ACTIVE (02 R29). -/
def State.announceBody (s : State) : List Byte :=
  [s.modeByte, phaseCode s.keg.phase, progCode s.program.state] ++
    bytes16 (if s.active then s.share.changeCount else 0) ++ bytes16 (if s.active then s.share.digest else 0) ++
    bytes16 s.mode.configDigest ++ [s.notice.summary]

/-- The body of a CLAIM: resource, amount and class of the need as it stands; 0 and 0 where no need stands, which no rule
reaches (02 R27, log 12). -/
def State.claimBody (s : State) (x : Resource) : List Byte :=
  match (s.demand.get x).need with
  | some n => [resourceCode x, nat8 n.amount, nat8 n.cls.rank]
  | none => [resourceCode x, 0, 0]

/-- The body of a SYNC-TABLE: the section as it stands; an empty section where no table is held, which no rule reaches (02 R28,
log 12). -/
def State.tableBody (s : State) (asker : Nat) (x : Resource) : List Byte :=
  nat8 asker ::
    match s.share.table with
    | some t => sectionBody x s.share.changeCount (t.get x)
    | none => sectionBody x s.share.changeCount Section.unreceived

/-- The body a queued entry goes out with: composed at send start, or as fixed at queuing (01 R13). -/
def State.bodyOf (s : State) : TxFrame → List Byte
  | .claim x => s.claimBody x
  | .renew x => [resourceCode x]
  | .yield x => [resourceCode x]
  | .yieldAll => [codeAll]
  | .expire x target count => [nat8 target, resourceCode x, count]
  | .announce => s.announceBody
  | .notice => bytes16 s.notice.flags ++ [s.notice.summary]
  | .syncAsk => []
  | .syncTable asker x => s.tableBody asker x
  | .answer body => body

/-- A header character: urgency × 16 + sender address (02 R23). -/
def headerOf (urgency address : Nat) : Byte := nat8 (urgency * 16 + address)

/-- A frame's characters: header, kind, length, body, check (02 R23, R24). -/
def frameChars (address : Nat) (k : Kind) (body : List Byte) : List Byte :=
  let front := [headerOf k.urgency address, k.code, nat8 body.length] ++ body
  front ++ [checkChar front]

/-- The characters of a queued entry at send start. -/
def State.compose (s : State) (f : TxFrame) : List Byte := frameChars s.line.address f.kind (s.bodyOf f)

/-! ### Answers -/

/-- The body of an ANSWER (02 R30). -/
def answerBody (dest : Nat) (code : Byte) (r : Result) (data : List Byte) : List Byte := [nat8 dest, code, r.code] ++ data

/-- The beer temperature reported; −3276.8 degrees before the first sample (06 R100, 11 R185). -/
def Thermal.reported (t : Thermal) : List Byte := temp16 (t.sample.getD (-32768))

/-- The headspace pressure reported: the reading, 65534 in a fault, 65535 before the first sample (08 R138, 11 R185). -/
def Pressure.reported (p : Pressure) : List Byte :=
  match p.sensor with
  | .good => temp16 (p.sample.getD 0)
  | .fault => nat16 65534
  | .unread => nat16 65535

/-- The current step index reported: 0 while there is none (02 R30). -/
def Program.reportedStep (p : Program) : Byte := nat8 (if p.underWay then p.current.getD 0 else 0)

/-- The status data (02 section 2.6, 11 R185). -/
def State.statusData (s : State) : List Byte :=
  [s.modeByte, phaseCode s.keg.phase, progCode s.program.state, s.program.reportedStep] ++ s.thermal.reported ++
    s.pressure.reported ++ nat16 s.keg.remaining ++
    [demandCode (demandState s.active s.demand.chill), demandCode (demandState s.active s.demand.gas),
      demandCode (demandState s.active s.demand.heat), pourCode s.pour.state, s.notice.summary, nat8 s.line.broken,
      nat8 s.line.overruns, nat8 s.line.lostArbs, nat8 s.line.sendFaults, nat8 s.handler.unknownKind,
      nat8 s.handler.badHeader, nat8 s.handler.badLength, nat8 s.handler.badAddress, nat8 s.orders.dropped]

/-- The keg data (02 section 2.6, 09 R153). -/
def Keg.data (k : Keg) : List Byte :=
  nat16 k.fill ++ nat16 k.dispensed ++ nat16 k.unaccounted ++ nat16 k.remaining ++ [phaseCode k.phase] ++
    temp16 k.serveTarget ++ [nat8 k.carbTarget, refusalCode k.lastRefusal, if k.lowPassed then 1 else 0]

/-- The pour log data at a position (02 section 2.6, 09 R167). -/
def logData (log : List LogEntry) (i : Nat) : List Byte :=
  match log[i]? with
  | some e =>
    [nat8 i, outletCode e.outlet, pourKindCode e.kind] ++ nat16 e.volume ++ [endCode e.reason] ++ nat16 e.remaining
  | none => [nat8 i, 0, 0, 0, 0, 0, 0, 0]

/-- The notices data, the seen set as it stood before this read's marking (10 R178). -/
def Notice.data (n : Notice) : List Byte := bytes16 n.flags ++ bytes16 n.seen ++ bytes16 n.enabled

end Sys2Proof.Machine
end

