-- ==== Sys2Proof/Machine/Frames.lean ====
section
/-! DEFINITION. The frames the handler takes in hand but for the orders: FRAME_REJECTED, FRAME_NO_BLOCK, CLAIM, RENEW, YIELD,
YIELD_ALL, EXPIRE, SYNC_TABLE, SYNC_ASK, ANNOUNCE (02 R25, R26, 03 R41 to R56, 05 R85 to R97). -/

namespace Sys2Proof.Machine

/-! ### FRAME_REJECTED and FRAME_NO_BLOCK -/

/-- The count of the test a frame failed, raised by one (02 R25). -/
def Handler.reject (h : Handler) : FrameClass → Handler
  | .unknownKind => { h with unknownKind := bump 255 h.unknownKind }
  | .badHeader => { h with badHeader := bump 255 h.badHeader }
  | .badLength => { h with badLength := bump 255 h.badLength }
  | .badAddress => { h with badAddress := bump 255 h.badAddress }
  | _ => h

/-- FRAME_REJECTED: the frame is discarded and counted, and the suspect mark is set (02 R25). -/
def execFrameRejected (s : State) : Out :=
  whileRunning s fun s => takeFrame s FrameClass.rejected fun e s =>
    State.setSuspect { s with handler := s.handler.reject (classify s.line.address e) }

/-- FRAME_NO_BLOCK: the roster alone is refreshed (02 R26). -/
def execFrameNoBlock (s : State) : Out :=
  whileRunning s fun s => takeFrame s (· == .noBlock) fun _ s => s

/-! ### The share table unit (03) -/

/-- The sender is a keg station, address 1 to 8 (03 R41). -/
def kegAddress (n : Nat) : Bool := decide (1 ≤ n ∧ n ≤ 8)

/-- The report to the demand unit on the own entry of one resource, by what it was and is (03 R56); `expired` where the frame
is an EXPIRE. -/
def moveReport (before after : Standing) (eff : Effect) (pool : Nat) : Option Report :=
  match before, after with
  | .granted _, .waiting _ => some .bumped
  | .waiting _, .granted _ => some .promoted
  | .granted _, .absent | .waiting _, .absent => some .expired
  | _, _ => if eff.freed then some (.freed (freeOf pool eff.sec)) else none

/-- The report of an own CLAIM (03 R56). -/
def claimReport (eff : Effect) (after : Standing) : Option Report :=
  if eff.refused then some .refused
  else
    match after with
    | .granted n => some (.granted n)
    | .waiting n => some (.waiting n)
    | .absent => none

/-- The report a processed frame draws for one resource: by kind if the frame is the station's own, else by the own entry's
move (03 R56). -/
def reportOf (own : Option PendKind) (eff : Effect) (before after : Standing) (pool : Nat) : Option Report :=
  match own with
  | some .claim => claimReport eff after
  | some .renew => if eff.changed then some .renewed else none
  | some .yield => some (.yielded eff.changed)
  | none => moveReport before after eff pool

/-- One section's effect joined to the station: the section, the lease monitor, the demand record; the change count is raised
by the frame as a whole (03 R39, R41, R55, R56). -/
def State.applyEffect (s : State) (x : Resource) (own : Option PendKind) (eff : Effect) : State :=
  let before := s.share.standing s.line.address x
  let l := LeaseTx.report ⟨s.lease, s.tx⟩ x eff.lease
  let s1 : State := { s with share := s.share.setSection x eff.sec, lease := l.lease, tx := l.tx }
  let after := s1.share.standing s.line.address x
  s1.onDemand x (fun d => d.finish s.active x own (reportOf own eff before after (poolOf s.cfg x)))

/-- The change count raised if the frame changed a LIVE section (03 R39). -/
def State.countChange (s : State) (changed : Bool) : State := { s with share := s.share.count changed }

/-- The pending frame of the own kind leaves SENT where the frame had no effect on a section (04 R60); another station's frame
does nothing then. -/
def State.ownProcessed (s : State) (x : Resource) (own : Option PendKind) : State :=
  if own.isSome then s.onDemand x (fun d => d.finish s.active x own none) else s

/-- A share frame processed against the section it names: against a LIVE one by `f`, and otherwise with no effect but on the
own pending frame (03 R41). -/
def State.shareFrame (s : State) (x : Resource) (own : Option PendKind) (f : Section → Option Effect) : State :=
  match (s.share.liveSection x).bind f with
  | some eff => (s.applyEffect x own eff).countChange eff.changed
  | none => s.ownProcessed x own

/-- The kind by which a frame is the station's own; none for another station's. -/
def ownKind (e : RxEntry) (s : State) (k : PendKind) : Option PendKind :=
  if e.sender = s.line.address then some k else none

/-- A CLAIM against a section: invalid and without effect by R42, or processed. -/
def claimEffect (cfg : WorkingCopy) (x : Resource) (bay amount : Nat) (cls : Byte) (sec : Section) : Option Effect :=
  match classOf cls with
  | some c =>
    if 1 ≤ amount ∧ amount ≤ poolOf cfg x ∧ c.belongs x = true then some (claimIn (poolOf cfg x) sec bay amount c) else none
  | none => none

/-- A CLAIM handed to the share table unit (03 R41 to R48). -/
def State.claimFrame (s : State) (e : RxEntry) : State :=
  match e.body with
  | [res, amount, cls] =>
    match kegAddress e.sender, resourceOf res with
    | true, some x => s.shareFrame x (ownKind e s .claim) (claimEffect s.cfg x e.sender amount.toNat cls)
    | _, _ => s
  | _ => s

/-- CLAIM. -/
def execClaim (s : State) : Out := whileRunning s fun s => takeFrame s (· == .claim) fun e s => s.claimFrame e

/-- A RENEW handed to the share table unit (03 R41, R50). -/
def State.renewFrame (s : State) (e : RxEntry) : State :=
  match e.body with
  | [res] =>
    match kegAddress e.sender, resourceOf res with
    | true, some x =>
      s.shareFrame x (ownKind e s .renew) (fun sec => some (renewIn (poolOf s.cfg x) sec e.sender))
    | _, _ => s
  | _ => s

/-- RENEW. -/
def execRenew (s : State) : Out := whileRunning s fun s => takeFrame s (· == .renew) fun e s => s.renewFrame e

/-- A YIELD of one resource handed to the share table unit (03 R41, R51). -/
def State.yieldFrame (s : State) (e : RxEntry) : State :=
  match e.body with
  | [res] =>
    match kegAddress e.sender, resourceOf res with
    | true, some x =>
      s.shareFrame x (ownKind e s .yield) (fun sec => some (yieldIn (poolOf s.cfg x) sec e.sender))
    | _, _ => s
  | _ => s

/-- YIELD. -/
def execYield (s : State) : Out := whileRunning s fun s => takeFrame s (· == .yield) fun e s => s.yieldFrame e

/-- A YIELD-ALL against one section: an UNRECEIVED one is passed over (03 R52). -/
def State.yieldOne (s : State) (x : Resource) (e : RxEntry) : State :=
  match s.share.liveSection x with
  | some sec => s.applyEffect x (ownKind e s .yield) (yieldIn (poolOf s.cfg x) sec e.sender)
  | none => s

/-- The bay holds an entry in the LIVE section of a resource. -/
def State.bayHolds (s : State) (bay : Nat) (x : Resource) : Bool :=
  match s.share.liveSection x with
  | some sec => (entryOf bay sec).isSome
  | none => false

/-- A YIELD-ALL handed to the share table unit: the sections in the order CHILL, GAS, HEAT, and one change counted (03 R41,
R52). -/
def State.yieldAllFrame (s : State) (e : RxEntry) : State :=
  if kegAddress e.sender then
    (((s.yieldOne .chill e).yieldOne .gas e).yieldOne .heat e).countChange
      (s.bayHolds e.sender .chill || s.bayHolds e.sender .gas || s.bayHolds e.sender .heat)
  else s

/-- YIELD_ALL. -/
def execYieldAll (s : State) : Out := whileRunning s fun s => takeFrame s (· == .yieldAll) fun e s => s.yieldAllFrame e

/-- The own EXPIRE of a resource has been processed, stale or not (04 R73, log 17). -/
def State.endOwnExpire (s : State) (own : Bool) (x : Resource) : State :=
  if own then { s with lease := s.lease.endSent x } else s

/-- An EXPIRE against the section it names: the target bay must be 1 to 8 (03 R53). -/
def expireEffect (cfg : WorkingCopy) (x : Resource) (target : Nat) (count : Byte) (sec : Section) : Option Effect :=
  if kegAddress target then some (expireIn (poolOf cfg x) sec target count) else none

/-- An EXPIRE handed to the share table unit (03 R41, R53). -/
def State.expireFrame (s : State) (e : RxEntry) : State :=
  match e.body with
  | [target, res, count] =>
    match kegAddress e.sender, resourceOf res with
    | true, some x =>
      (s.shareFrame x none (expireEffect s.cfg x target.toNat count)).endOwnExpire (e.sender == s.line.address) x
    | _, _ => s
  | _ => s

/-- EXPIRE. -/
def execExpire (s : State) : Out := whileRunning s fun s => takeFrame s (· == .expire) fun e s => s.expireFrame e

/-! ### SYNC_TABLE and SYNC_ASK -/

/-- A section adopted whole: LIVE with the frame's entries, the change count carried, ages at zero, the own entry reported
(03 R54). -/
def State.adopt (s : State) (x : Resource) (sec : Section) (count : Word) : State :=
  let sh := s.share.setSection x sec
  let s1 : State := { s with
    share := { sh with changeCount := count }
    lease := { s.lease with ages := s.lease.ages.set x (adoptedAges sec) } }
  s1.onDemand x (fun d => d.finish s.active x none
    (match standingIn s.line.address sec with
      | .granted n => some (.granted n)
      | .waiting n => some (.waiting n)
      | .absent => none))

/-- The section of a resource stands UNRECEIVED in a held table. -/
def Share.unreceived (sh : Share) (x : Resource) : Bool :=
  match sh.table with
  | some t => !(t.get x).live
  | none => false

/-- The section a SYNC-TABLE carries is adopted if it is wanted and passes the checks (03 R54). -/
def State.adoptFrame (s : State) (body : List Byte) : State :=
  match (body[1]?).bind resourceOf with
  | some x =>
    if s.share.unreceived x then
      match readSection (poolOf s.cfg x) x body with
      | some (sec, count) => s.adopt x sec count
      | none => s
    else s
  | none => s

/-- A SYNC-TABLE whose asker is this station: adoption, the answer wait, and ACTIVE with the third section (03 R54, 05 R89,
R90). -/
def State.syncTableFrame (s : State) (e : RxEntry) : State :=
  if (e.body[0]?).map BitVec.toNat = some s.line.address then
    let s1 := s.adoptFrame e.body
    let s2 : State := { s1 with mode := { s1.mode with sync := if s1.syncing then s1.mode.sync.heard else s1.mode.sync } }
    if s2.syncing && s2.share.complete then s2.becomeActive else s2
  else s

/-- SYNC_TABLE, with a setting of the suspect mark that was held back for it (05 R94). -/
def execSyncTable (s : State) : Out := whileRunning s fun s => takeFrame s (· == .syncTable) fun e s =>
  (s.syncTableFrame e).releaseSuspect

/-- A SYNC-ASK is answered by the lowest ACTIVE keg station whose sync places are all free (05 R88). -/
def State.syncAskFrame (s : State) (e : RxEntry) : State :=
  if s.active && kegAddress e.sender && e.sender != s.line.address && !s.lowerActiveBut e.sender &&
      !s.tx.holds TxFrame.isSync then
    { s with tx := s.tx.answerSync e.sender }
  else s

/-- SYNC_ASK. -/
def execSyncAsk (s : State) : Out := whileRunning s fun s => takeFrame s (· == .syncAsk) fun e s => s.syncAskFrame e

/-! ### ANNOUNCE -/

/-- The roster entry an ANNOUNCE body sets; the mode code is recorded as it stands (05 R85, log 29). -/
def RosterEntry.announced (r : RosterEntry) : List Byte → RosterEntry
  | [m, _, _, k1, k0, d1, d0, c1, c0, _] =>
    { r with reported := some (m.toNat % 16), changeCount := join16 k1 k0, digest := join16 d1 d0,
             configDigest := join16 c1 c0 }
  | _ => r

/-- The roster with the sender's fields set from an ANNOUNCE (05 R85). -/
def announceRoster (sender : Nat) (body : List Byte) (l : List RosterEntry) : List RosterEntry :=
  l.map (fun r => if r.address = sender then r.announced body else r)

/-- What an ACTIVE station makes of the entry a lower ACTIVE peer's ANNOUNCE has set (05 R95). -/
def State.compare (s : State) (r : RosterEntry) : State :=
  if r.configDigest ≠ s.mode.configDigest then s.enterMuted
  else if r.changeCount ≠ s.share.changeCount ∨ r.digest ≠ s.share.digest then s.enterDoubtful
  else { s with mode := { s.mode with suspect := false } }

/-- What a JOINING or DOUBTFUL station makes of a keg station's ANNOUNCE that reports ACTIVE (05 R91, R97). -/
def State.heardActive (s : State) (r : RosterEntry) : State :=
  if r.configDigest ≠ s.mode.configDigest then s.enterMuted
  else if s.mode.sync.stage = .resting then s.restEnds
  else s

/-- An ANNOUNCE of another station once its sender's entry is set; `before` is that entry's reported mode as it stood
(05 R91, R95 to R97). -/
def State.weighAnnounce (s : State) (before : Option Nat) (r : RosterEntry) : State :=
  if s.active then
    if isKeg r && decide (r.address < s.line.address) && reportsActive r then s.compare r
    else if r.reported ≠ before then s.doubtTest
    else s
  else if s.syncing && isKeg r && reportsActive r then s.heardActive r
  else s

/-- An ANNOUNCE handed to the mode controller; the roster holds no entry for the own address (05 R85). -/
def State.announceFrame (s : State) (e : RxEntry) : State :=
  let s1 : State := { s with mode := { s.mode with roster := announceRoster e.sender e.body s.mode.roster } }
  match rosterOf e.sender s.mode.roster, rosterOf e.sender s1.mode.roster with
  | some old, some new => s1.weighAnnounce old.reported new
  | _, _ => s1

/-- ANNOUNCE, with a setting of the suspect mark that was held back for it (05 R94). -/
def execAnnounce (s : State) : Out := whileRunning s fun s => takeFrame s (· == .announce) fun e s =>
  (s.announceFrame e).releaseSuspect

end Sys2Proof.Machine
end

