-- ==== Sys2Proof/Machine/LineEvents.lean ====
section
/-! DEFINITION. The line interface's events: LINE_IDLE, BREAK, STUB, FRAME_END, FRAME_BROKEN, SLOT_BEGIN, QUIET_WINDOW,
LOST_ARBITRATION, SEND_FAULT, FRAME_COMPLETE (01 R2 to R16). The states DELIMITER and FRAME are passed inside the rows that
leave them (log 18). -/

namespace Sys2Proof.Machine

/-! ### The receiver and the round -/

/-- A round of access slots at its beginning (01 R10). -/
def Round.start : Round := ⟨0, false⟩

/-- The receiver in a state with no round running. -/
def Line.outside (l : Line) (rx : RxState) : Line := { l with rx := rx, round := none }

/-- The wire has fallen, which ends the round (01 R4, R10). -/
def Line.fell (l : Line) : Line := { l with round := none }

/-- Line idle: the receiver enters IDLE and a round begins (01 R3, R10). -/
def Line.idled (l : Line) : Line := { l with rx := .idle, round := some Round.start }

/-- The receiver takes or may take a frame: a break has been seen and no line idle since. -/
def Line.receiving (l : Line) : Bool := l.rx == .inBreak || l.rx == .delimiter || l.rx == .frame

/-- LINE_IDLE: 12 bit times of high in HUNT or after a break with no header (01 R3, R5). -/
def execLineIdle (s : State) : Out :=
  whileRunning s fun s =>
    if s.line.rx = .hunt ∨ s.line.rx = .inBreak ∨ s.line.rx = .delimiter then { s with line := s.line.idled } else s

/-- BREAK: a low of 11 bit times in HUNT or IDLE; a break inside a frame is FRAME_BROKEN (01 R3, R4, R7). -/
def execBreak (s : State) : Out :=
  whileRunning s fun s =>
    if s.line.rx = .hunt ∨ s.line.rx = .idle then { s with line := s.line.outside .inBreak } else s

/-- STUB: a short low in IDLE leads to HUNT; a break that carried no header leads to IDLE (01 R4, R5). -/
def execStub (s : State) : Out :=
  whileRunning s fun s =>
    match s.line.rx with
    | .idle => { s with line := s.line.outside .hunt }
    | .inBreak | .delimiter => { s with line := s.line.idled }
    | .hunt | .frame => s

/-! ### Judging a frame (01 R8) -/

/-- The frame a run of received characters would place in the receive queue: header, kind and body (01 R9, 02 R23). -/
def rxEntryOf (bytes : List Byte) (own : Bool) : Option RxEntry :=
  match bytes with
  | h :: k :: _ :: rest => some ⟨h.toNat / 16, h.toNat % 16, k, rest.dropLast, own⟩
  | _ => none

/-- Length character and check character are right (01 R8). -/
def checksOut (bytes : List Byte) : Bool :=
  decide (4 ≤ bytes.length) && (bytes[2]?.map BitVec.toNat == some (bytes.length - 4)) &&
    (bytes.getLast? == some (checkChar bytes.dropLast))

/-- A frame that ended at line idle is accepted (01 R8). -/
def frameAccepted (falseStart : Bool) (chars : List RxChar) : Bool :=
  !falseStart && !chars.any charNoisy && !chars.any charFraming && decide (chars.length ≤ 44) &&
    checksOut (chars.map charValue)

/-- The frame's header is clean; a false start before the header marks the frame noisy, not its header (01 R5, R8). -/
def cleanHeader (chars : List RxChar) : Bool := headerClean chars

/-- The sender address a header character names (02 R23). -/
def headerSender (chars : List RxChar) : Option Nat := chars.head?.map (fun ch => (charValue ch).toNat % 16)

/-- A frame with a clean header naming another sender clears the spent mark as it ends at line idle (01 R12). -/
def clearsSpent (own : Nat) (chars : List RxChar) : Bool :=
  cleanHeader chars && (headerSender chars != some own)

/-- The owner of a completed own frame is told that the own receiver discarded it (04 R60, R73). -/
def State.ownerLost (s : State) (f : TxFrame) : State :=
  match f with
  | .claim x => s.onDemand x (fun d => d.frameLost s.active x .claim)
  | .renew x => s.onDemand x (fun d => d.frameLost s.active x .renew)
  | .yield x => s.onDemand x (fun d => d.frameLost s.active x .yield)
  | .expire x _ _ => { s with lease := s.lease.endSent x }
  | .yieldAll | .announce | .notice | .syncAsk | .syncTable _ _ | .answer _ => s

/-- The end of the wait for the own frame's judgement, its owner told if it was discarded (01 R16). -/
def State.judgeOwn (s : State) (accepted : Bool) : State :=
  let s1 : State := { s with line := { s.line with ownAwaited := none } }
  match s.line.ownAwaited with
  | some e => if accepted then s1 else s1.ownerLost e.frame
  | none => s1

/-- Processing the frame in hand clears the suspect mark: it is the SYNC-TABLE that makes the station ACTIVE, or an ANNOUNCE that
compares equal (05 R94). -/
def State.handClears (s : State) : Bool :=
  let u : State := { s with mode := { s.mode with suspect := true } }
  match s.handler.inHand with
  | none => false
  | some e =>
    match classify s.line.address e with
    | .syncTable => !((u.popFrame e).syncTableFrame e).mode.suspect
    | .announce => !((u.popFrame e).announceFrame e).mode.suspect
    | _ => false

/-- A setting of the suspect mark by the line interface: held back where processing the frame in hand clears the mark, so that it
is acted on after that clear, and otherwise acted on at once (05 R94; log 38). -/
def State.lineSuspect (s : State) : State :=
  if s.handClears then { s with mode := { s.mode with suspectHeld := true } } else s.setSuspect

/-- A discarded frame: counted if its header was clean; suspected if its header was clean or it is the station's own completed
frame (01 R8, R16, 05 R94; log 33). -/
def State.discardFrame (s : State) (own clean : Bool) : State :=
  let s1 : State := { s with line := { s.line with broken := if clean then bump 255 s.line.broken else s.line.broken } }
  if own || clean then s1.lineSuspect else s1

/-- An accepted frame: taken in hand where the handler has none, else placed in the receive queue, or lost to overrun (01 R9). -/
def State.receive (s : State) (e : RxEntry) : State :=
  if s.line.rxQueue.length < 4 then
    match s.handler.inHand, s.line.rxQueue ++ [e] with
    | none, oldest :: rest =>
      { s with line := { s.line with rxQueue := rest }, handler := { s.handler with inHand := some oldest } }
    | _, queue => { s with line := { s.line with rxQueue := queue } }
  else State.lineSuspect { s with line := { s.line with overruns := bump 255 s.line.overruns } }

/-- A frame that ended at line idle, judged (01 R8, R9, R12, R16). The owner of a discarded own frame is told before the suspect
mark acts, an order the spec leaves open (log 39). -/
def State.judgeFrame (s : State) (falseStart : Bool) (chars : List RxChar) : State :=
  let own := s.line.ownAwaited.isSome
  let s1 : State :=
    { s with line := { s.line.idled with spent := s.line.spent && !clearsSpent s.line.address chars } }
  match frameAccepted falseStart chars, rxEntryOf (chars.map charValue) own with
  | true, some e => (s1.judgeOwn true).receive e
  | _, _ => (s1.judgeOwn false).discardFrame own (cleanHeader chars)

/-- FRAME_END: a frame ends at line idle (01 R6, R8). -/
def execFrameEnd (falseStart : Bool) (chars : List RxChar) (s : State) : Out :=
  whileRunning s fun s => if s.line.receiving then s.judgeFrame falseStart chars else s

/-- Where the receiver stands once a frame is broken (01 R6, R7). -/
def BreakCause.leadsTo : BreakCause → RxState
  | .breakInside => .inBreak
  | .framing | .tooLong => .hunt

/-- FRAME_BROKEN: a frame is broken and judged as broken (01 R6 to R8). The owner of an own frame is told before the suspect mark
acts, an order the spec leaves open (log 39). -/
def execFrameBroken (cause : BreakCause) (_falseStart : Bool) (chars : List RxChar) (s : State) : Out :=
  whileRunning s fun s =>
    if s.line.receiving then
      (State.judgeOwn { s with line := s.line.outside (BreakCause.leadsTo cause) } false).discardFrame s.line.ownAwaited.isSome
        (cleanHeader chars)
    else s

/-! ### Slots (01 R10 to R13) -/

/-- The slot of an urgency and an address (01 R10). -/
def slotOf (urgency address : Nat) : Nat := urgency * 12 + (address - 1)

/-- The station begins sending at this slot, which is the head's, the wire being high (01 R11). -/
def State.maySend (s : State) (barred : Bool) (e : TxEntry) : Bool :=
  !barred && s.line.rxQueue.isEmpty && s.handler.inHand.isNone && decide (1 ≤ s.line.address ∧ s.line.address ≤ 8) &&
    (decide (e.frame.urgency ≤ 1) || !s.line.spent)

/-- One slot of the running round begins: a wire that stands low has fallen, and so has one that the station itself has driven
since its own slot, which has ended the round. A send leaves the round running until the fall of the wire shows (01 R10, R11, R13;
log 31). -/
def State.slot (s : State) (r : Round) (wireHigh : Bool) : State :=
  if wireHigh = false ∨ s.tx.inFlight.isSome = true then { s with line := s.line.fell }
  else
  let passed : Line := { s.line with round := some { r with next := r.next + 1 } }
  match s.tx.queue with
  | e :: _ =>
    if r.next = slotOf e.frame.urgency s.line.address then
      if s.maySend r.barred e then { s with tx := s.tx.launch (s.compose e.frame), line := passed }
      else { s with line := { s.line with round := some ⟨r.next + 1, true⟩ } }
    else { s with line := passed }
  | [] => { s with line := passed }

/-- SLOT_BEGIN: the next slot of the round begins, the wire at the level given (01 R10, R11). -/
def execSlotBegin (wireHigh : Bool) (s : State) : Out :=
  whileRunning s fun s =>
    match s.line.round with
    | some r => if r.next < 48 then s.slot r wireHigh else s
    | none => s

/-- QUIET_WINDOW: all 48 slots have passed with the wire high (01 R10, R12). -/
def execQuietWindow (s : State) : Out :=
  whileRunning s fun s =>
    match s.line.round with
    | some r =>
      if r.next = 48 then { s with line := { s.line with spent := false, round := some Round.start } } else s
    | none => s

/-! ### The frame in flight (01 R14 to R16) -/

/-- The level the transmitter gives a bit of the frame in flight, counted from the first bit of the lead-in break; none
beyond its end (01 R1). -/
def InFlight.level (f : InFlight) (bit : Nat) : Option Bool := (frameLevels f.chars)[bit]?

/-- A bit in which a released wire read low is a loss of arbitration: the delimiter or the header character (01 R14). -/
def arbitrationBit (bit : Nat) : Bool := decide (14 ≤ bit ∧ bit < 26)

/-- LOST_ARBITRATION: the station released the wire in the delimiter or header and read low; the wire fell at the lead-in break
(01 R4, R14). -/
def execLostArbitration (bit : Nat) (s : State) : Out :=
  whileRunning s fun s =>
    match s.tx.inFlight with
    | some f =>
      if arbitrationBit bit ∧ f.level bit = some true then
        { s with tx := s.tx.returned, line := { s.line.fell with lostArbs := bump 255 s.line.lostArbs } }
      else s
    | none => s

/-- The bit is one whose read-back can differ as a send fault: any bit driven low, or any after the header (01 R15). -/
def faultBit (f : InFlight) (bit : Nat) : Bool :=
  match f.level bit with
  | some released => !released || decide (26 ≤ bit)
  | none => false

/-- The line interface at a send fault: the fault is counted; the wire has fallen, and so ended the round, unless the first bit
of the lead-in break itself read high (01 R10, R15; log 31). -/
def Line.faulted (l : Line) (bit : Nat) : Line :=
  { (if bit = 0 then l else l.fell) with sendFaults := bump 255 l.sendFaults }

/-- SEND_FAULT: the read-back differs after the header, or reads high where the station drove low (01 R15, log 23). -/
def execSendFault (bit : Nat) (s : State) : Out :=
  whileRunning s fun s =>
    match s.tx.inFlight with
    | some f =>
      if faultBit f bit then
        State.lineSuspect { s with tx := s.tx.returned, line := s.line.faulted bit }
      else s
    | none => s

/-- The ANSWER that carries the DONE to a RESTART-BAY (11 R186). -/
def isRestartAnswer : TxFrame → Bool
  | .answer [_, c, r] => c == OrderCode.restartBay.code && r == Result.done.code
  | _ => false

/-- The owner of a frame is told that it was sent (01 R16, 04 R60, R73, 05 R91, 11 R182, R186). -/
def State.ownerSent (s : State) (f : TxFrame) (withdrawn : Bool) : State :=
  match f with
  | .claim x => s.onDemand x (fun d => ⟨d.rcd.frameSent .claim withdrawn, d.tx⟩)
  | .renew x => s.onDemand x (fun d => ⟨d.rcd.frameSent .renew withdrawn, d.tx⟩)
  | .yield x => s.onDemand x (fun d => ⟨d.rcd.frameSent .yield withdrawn, d.tx⟩)
  | .expire x _ _ => { s with lease := s.lease.expireSent x withdrawn }
  | .syncAsk => { s with mode := { s.mode with sync := s.mode.sync.askSent } }
  | .answer _ =>
    { s with
      orders := { s.orders with pendingAnswers := s.orders.pendingAnswers - 1 }
      power := if s.orders.restartMark && isRestartAnswer f then .restarting else s.power }
  | .yieldAll | .announce | .notice | .syncTable _ _ => s

/-- FRAME_COMPLETE: the own frame went out whole, the wire having fallen at its lead-in break (01 R4, R16). -/
def execFrameComplete (s : State) : Out :=
  whileRunning s fun s =>
    match s.tx.inFlight with
    | some f =>
      State.ownerSent { s with
        tx := s.tx.completed
        line := { s.line.fell with spent := true, ownAwaited := some f.entry } } f.entry.frame f.withdrawn
    | none => s

end Sys2Proof.Machine
end

