-- ==== Sys2Proof/Machine/Pins.lean ====
section
/-! DEFINITION. The plant pins: PIN_CHANGE, INPUT_SETTLED, METER_PULSE (09 R160, 10 R169 to R172). -/

namespace Sys2Proof.Machine

/-- A pin that changes level: its settling timer starts or returns to 0 (10 R170). While the settled level is unknown the spec does
not say what a change does to the timer that runs; the model returns it to 0 (log 37). -/
def InputState.moved (i : InputState) (high : Bool) : InputState :=
  if i.pin = high then i else { i with pin := high, timer := 0 }

/-- PIN_CHANGE (10 R170); the pins move while the part does not run as well (log 10). -/
def execPinChange (x : Input) (high : Bool) (s : State) : Out :=
  .next { s with inputs := s.inputs.set x ((s.inputs.get x).moved high) }

/-- METER_PULSE (09 R160). -/
def execMeterPulse (s : State) : Out := whileRunning s State.pulse

/-! ### Settling (10 R170) -/

/-- A change taken of an input. -/
inductive Taken where
  | nothing | assertion | deassertion
  deriving DecidableEq, Repr

/-- An input whose timer reaches 20 ms takes the pin level; one whose pin stands at the settled level has no timer running. -/
def InputState.settle (i : InputState) : InputState :=
  if i.settled = some i.pin then i else { i with settled := some i.pin, timer := 0 }

/-- The inputs that settle at one moment. -/
def settleInputs (inputs : List Input) (i : Inputs) : Inputs :=
  inputs.foldl (fun i x => i.set x (i.get x).settle) i

/-- The change taken of an input as it settles, handed on only once the configuration load has ended; a first settling then
takes an assertion if it asserts the input (10 R170). -/
def takenOf (before after : State) (x : Input) : Taken :=
  if before.load ≠ .ended then .nothing
  else
    match before.asserted x, after.asserted x with
    | false, true => .assertion
    | true, false => .deassertion
    | _, _ => .nothing

/-! ### What each change does (10 R171) -/

/-- A keg lifted or uncoupled: a POURING pour ends KEG-LOST, KEG-ABSENT is added (07 R129, 09 R162). -/
def State.kegLost (s : State) : State := (s.endPour .kegLost).pauseFor .kegAbsent

/-- A taken change of KEG-PRESENT (05 R83, 10 R171). -/
def State.kegPresentTaken (s : State) : Taken → State
  | .assertion => (if s.mode.mode = .vacant then s.enterJoining else s).pressureEval
  | .deassertion =>
    let s1 := s.kegLost
    (if s1.active || s1.syncing then s1.enterVacant else s1).pressureEval
  | .nothing => s

/-- A taken change of COUPLED (10 R171). -/
def State.coupledTaken (s : State) : Taken → State
  | .assertion => s.pressureEval
  | .deassertion => s.kegLost.pressureEval
  | .nothing => s

/-- A taken change of LEAK (08 R148). -/
def State.leakTaken (s : State) : Taken → State
  | .assertion => s.leakBegin
  | .deassertion => s.leakEnd
  | .nothing => s

/-- A taken change of DRIP (10 R172). -/
def State.dripTaken (s : State) : Taken → State
  | .assertion => s.raise Flag.dripFull.mask
  | _ => s

/-- A taken deassertion of HANDLE ends a HANDLE pour RELEASE (09 R162). -/
def State.handleTaken (s : State) : Taken → State
  | .deassertion => if s.pour.kind = some .handle then s.endPour .release else s
  | _ => s

/-- The requests the settled outlets make; none in STARTING (09 R155). -/
def inputRequests (before after : State) : List PourRequest :=
  if after.mode.mode = .starting then []
  else
    (if takenOf before after .handle = .assertion then [⟨.front, .handle, none, false⟩] else []) ++
    (if takenOf before after .fillButton = .assertion then [⟨.fill, .portion, some after.cfg.portion, false⟩] else [])

/-- The changes taken at one moment handed to their consumers, all but the pour requests (10 R171, log 20). -/
def State.handOn (before : State) (s : State) : State :=
  let t := takenOf before s
  ((((s.kegPresentTaken (t .kegPresent)).coupledTaken (t .coupled)).leakTaken (t .leak)).dripTaken (t .drip)).handleTaken
    (t .handle)

/-- Inputs that settle at one moment. -/
def State.settleAll (s : State) (inputs : List Input) : State :=
  { s with inputs := settleInputs inputs s.inputs }

/-- INPUT_SETTLED: the settling timers of the inputs named reach 20 ms (10 R170, R171). -/
def execInputSettled (inputs : List Input) (s : State) : Out :=
  whileRunning s fun s =>
    let s1 := s.settleAll inputs
    (State.handOn s s1).arbitrate (inputRequests s s1)

end Sys2Proof.Machine
end

