-- ==== Sys2Proof/Machine/Orders.lean ====
section
/-! DEFINITION. The order handler and the twenty order rows (11 R182 to R186, and the owners' rules of 07, 09 and 10). -/

namespace Sys2Proof.Machine

/-! ### Taking and answering (11 R183, R184) -/

/-- What an order did: the state with its effect, the result, and the data that goes with DONE. -/
structure Reply where
  state  : State
  result : Result
  data   : List Byte

/-- An order with no effect. -/
def State.reply (s : State) (r : Result) : Reply := ⟨s, r, []⟩

/-- An order carried out with no data. -/
def State.done (s : State) : Reply := ⟨s, .done, []⟩

/-- A read: nothing changes, DONE with data. -/
def State.doneWith (s : State) (data : List Byte) : Reply := ⟨s, .done, data⟩

/-- One ANSWER queued, its body fixed, and the pending count raised (11 R184). -/
def State.answer (s : State) (e : RxEntry) (code : Byte) (r : Result) (data : List Byte) : State :=
  { s with
    tx := s.tx.enqueue (.answer (answerBody e.sender code r data))
    orders := { s.orders with pendingAnswers := s.orders.pendingAnswers + 1 } }

/-- The code character of an ORDER. -/
def orderCode (e : RxEntry) : Byte := (e.body[1]?).getD 0

/-- The argument characters of an ORDER. -/
def orderArgs (e : RxEntry) : List Byte := e.body.drop 2

/-- An order dropped for want of an answer place (11 R183). -/
def State.dropOrder (s : State) : State :=
  { s with orders := { s.orders with dropped := bump 255 s.orders.dropped } }

/-- The steps of R183 for an order of a known code: dropped, NOT-READY in STARTING unless it is READ-STATUS, BAD-VALUE for a
wrong argument count, else performed and answered. -/
def State.handleOrder (s : State) (o : OrderCode) (e : RxEntry) (perform : List Byte → State → Reply) : State :=
  if 2 ≤ s.orders.pendingAnswers then s.dropOrder
  else if s.mode.mode = .starting ∧ o ≠ .readStatus then s.answer e o.code .notReady []
  else if (orderArgs e).length ≠ o.argCount then s.answer e o.code .badValue []
  else
    let r := perform (orderArgs e) s
    r.state.answer e o.code r.result r.data

/-- The row of an order of a known code. -/
def orderRow (o : OrderCode) (perform : List Byte → State → Reply) (s : State) : Out :=
  whileRunning s fun s => takeFrame s (· == .order (some o)) fun e s => s.handleOrder o e perform

/-- UNKNOWN_ORDER: dropped, NOT-READY in STARTING, else UNKNOWN-ORDER (11 R183). -/
def execUnknownOrder (s : State) : Out :=
  whileRunning s fun s => takeFrame s (· == .order none) fun e s =>
    if 2 ≤ s.orders.pendingAnswers then s.dropOrder
    else s.answer e (orderCode e) (if s.mode.mode = .starting then .notReady else .unknownOrder) []

/-! ### Reads -/

/-- READ_STATUS (11 R185). -/
def execReadStatus (s : State) : Out := orderRow .readStatus (fun _ s => s.doneWith s.statusData) s

/-- READ_KEG (09 R153). -/
def execReadKeg (s : State) : Out := orderRow .readKeg (fun _ s => s.doneWith s.keg.data) s

/-- The reply to a READ-STEP (07 R119). -/
def State.readStep (args : List Byte) (s : State) : Reply :=
  match args.head?.bind (fun i => s.program.steps[i.toNat]?), args with
  | some st, [i] => s.doneWith (i :: st.bytes)
  | _, _ => s.reply .badState

/-- READ_STEP (07 R119). -/
def execReadStep (s : State) : Out := orderRow .readStep State.readStep s

/-- The reply to a READ-POUR-LOG (09 R167). -/
def State.readPourLog (args : List Byte) (s : State) : Reply :=
  match args with
  | [i] => if 7 < i.toNat then s.reply .badValue else s.doneWith (logData s.pour.log i.toNat)
  | _ => s.reply .badValue

/-- READ_POUR_LOG (09 R167). -/
def execReadPourLog (s : State) : Out := orderRow .readPourLog State.readPourLog s

/-- The reply to a READ-NOTICES: every set flag becomes seen (10 R178). -/
def State.readNotices (_ : List Byte) (s : State) : Reply :=
  ⟨{ s with notice := s.notice.read }, .done, s.notice.data⟩

/-- READ_NOTICES (10 R178). -/
def execReadNotices (s : State) : Out := orderRow .readNotices State.readNotices s

/-! ### Notices -/

/-- The flag set two argument characters carry, if bit 15 is 0 (10 R179, R180). -/
def flagSetOf : List Byte → Option Word
  | [hi, lo] => if (join16 hi lo).msb then none else some (join16 hi lo)
  | _ => none

/-- The reply to a CLEAR-NOTICES (10 R179). -/
def State.clearNotices (args : List Byte) (s : State) : Reply :=
  match flagSetOf args with
  | some w =>
    let n := s.notice.cleared w
    ⟨{ s with notice := n }, .done, bytes16 n.flags⟩
  | none => s.reply .badValue

/-- CLEAR_NOTICES (10 R179). -/
def execClearNotices (s : State) : Out := orderRow .clearNotices State.clearNotices s

/-- The reply to a SET-NOTICE-ENABLE (10 R180). -/
def State.setNoticeEnable (args : List Byte) (s : State) : Reply :=
  match flagSetOf args with
  | some w => ⟨{ s with notice := s.notice.enable w }, .done, bytes16 w⟩
  | none => s.reply .badValue

/-- SET_NOTICE_ENABLE (10 R180). -/
def execSetNoticeEnable (s : State) : Out := orderRow .setNoticeEnable State.setNoticeEnable s

/-- The reply to a RAISE-NOTICE (10 R180). -/
def State.raiseNotice (args : List Byte) (s : State) : Reply :=
  match flagSetOf args with
  | some w => ⟨s.raise w, .done, bytes16 (s.raise w).notice.flags⟩
  | none => s.reply .badValue

/-- RAISE_NOTICE (10 R180). -/
def execRaiseNotice (s : State) : Out := orderRow .raiseNotice State.raiseNotice s

/-! ### The keg record -/

/-- The keg record a SET-FILL leaves (09 R151). -/
def Keg.filled (k : Keg) (volume : Nat) (phase : Phase) : Keg :=
  { k with fill := volume, dispensed := 0, unaccounted := 0, phase := phase, lowPassed := false }

/-- The phase a SET-FILL may give: NONE or SERVING (09 R151). -/
def fillPhase (b : Byte) : Option Phase := if b = 0x00 then some .none else if b = 0x03 then some .serving else none

/-- The reply to a SET-FILL (09 R151). A change of the keg phase is an occasion for both controllers (06 R107, 08 R142; log 36). -/
def State.setFill (args : List Byte) (s : State) : Reply :=
  if s.program.underWay || s.pour.inProgress then s.reply .badState
  else
    match args with
    | [v1, v0, ph] =>
      match fillPhase ph with
      | some phase =>
        if 20000 < natOf16 v1 v0 then s.reply .badValue
        else
          let t : State := { s with keg := s.keg.filled (natOf16 v1 v0) phase }
          (if phase = s.keg.phase then t else t.thermalEval.pressureEval).done
      | none => s.reply .badValue
    | _ => s.reply .badValue

/-- SET_FILL (09 R151). -/
def execSetFill (s : State) : Out := orderRow .setFill State.setFill s

/-- The reply to a SET-SERVE (09 R152; log 36). -/
def State.setServe (args : List Byte) (s : State) : Reply :=
  match args with
  | [t1, t0, c] =>
    if 0 ≤ tempOf16 t1 t0 ∧ tempOf16 t1 t0 ≤ 120 ∧ 50 ≤ c.toNat ∧ c.toNat ≤ 250 then
      (State.pressureEval (State.thermalEval
        { s with keg := { s.keg with serveTarget := tempOf16 t1 t0, carbTarget := c.toNat } })).done
    else s.reply .badValue
  | _ => s.reply .badValue

/-- SET_SERVE (09 R152). -/
def execSetServe (s : State) : Out := orderRow .setServe State.setServe s

/-! ### The program -/

/-- The index a LOAD-STEP may name (07 R116). -/
def Program.acceptsIndex (p : Program) (i : Nat) : Bool :=
  decide (i ≤ p.steps.length ∧ i < 16) &&
    (!p.underWay || match p.current with
      | some c => decide (c < i)
      | none => false)

/-- The program with a record stored at an accepted index (07 R116). -/
def Program.store (p : Program) (i : Nat) (st : StepRecord) : Program :=
  { p with
    steps := if i < p.steps.length then p.steps.set i st else p.steps ++ [st]
    state := if p.state = .empty ∨ p.state = .complete then .ready else p.state }

/-- The reply to a LOAD-STEP: the index is judged first, then the record (07 R116, R117). A change of the program state is an
occasion for the thermal controller (06 R107). -/
def State.loadStep (args : List Byte) (s : State) : Reply :=
  match args with
  | i :: record =>
    if s.program.acceptsIndex i.toNat then
      match stepOf record with
      | some st =>
        let t : State := { s with program := s.program.store i.toNat st }
        (if t.program.state = s.program.state then t else t.thermalEval).done
      | none => s.reply .badValue
    else s.reply .badState
  | [] => s.reply .badValue

/-- LOAD_STEP (07 R116). -/
def execLoadStep (s : State) : Out := orderRow .loadStep State.loadStep s

/-- The program a CLEAR-PROGRAM leaves; the activity window is unchanged (07 R118). -/
def Program.clear (p : Program) : Program :=
  { p with
    steps := [], state := .empty, current := none, reasons := ⟨false, false, false⟩, elapsed := 0, ramp := none, due := false }

/-- The reply to a CLEAR-PROGRAM: nothing changes in EMPTY (07 R118); from any other state the controllers evaluate (06 R107,
08 R142; log 36). -/
def State.clearProgram (_ : List Byte) (s : State) : Reply :=
  if s.program.state = .running then s.reply .badState
  else if s.program.state = .empty then s.done
  else (State.pressureEval (State.thermalEval { s with program := s.program.clear })).done

/-- CLEAR_PROGRAM (07 R118). -/
def execClearProgram (s : State) : Out := orderRow .clearProgram State.clearProgram s

/-- The program can be started (07 R120). -/
def State.mayStart (s : State) : Bool :=
  s.program.state == .ready && s.keg.phase == .none && s.thermal.probe == .good && s.kegReady

/-- The program as it is started: the window cleared, no reasons, step 0 entered from the latest sample, RUNNING (07 R120,
R121). -/
def Program.started (p : Program) (sample : Int) : Program :=
  Program.enter
    { p with state := .running, reasons := ⟨false, false, false⟩, window := List.replicate 24 0, currentHour := 0 } 0 sample

/-- The reply to a START-PROGRAM (07 R120; log 36). -/
def State.startProgram (_ : List Byte) (s : State) : Reply :=
  if s.mayStart then
    (State.pressureEval (State.thermalEval { s with
      program := s.program.started (s.thermal.sample.getD 0)
      keg := s.keg.enter s.program.steps[0]? true })).done
  else s.reply .badState

/-- START_PROGRAM (07 R120). -/
def execStartProgram (s : State) : Out := orderRow .startProgram State.startProgram s

/-- The reply to a PAUSE-PROGRAM (07 R129). -/
def State.pauseProgram (_ : List Byte) (s : State) : Reply :=
  if s.program.underWay then (s.pauseFor .ordered).done else s.reply .badState

/-- PAUSE_PROGRAM (07 R129). -/
def execPauseProgram (s : State) : Out := orderRow .pauseProgram State.pauseProgram s

/-- The reply to a RESUME-PROGRAM: the reasons that no longer hold are removed, and the program runs if none is left
(07 R131). A change of the reasons or of the program state is an occasion for the thermal controller (06 R107). -/
def State.resumeProgram (_ : List Byte) (s : State) : Reply :=
  if s.program.state = .paused then
    let left := s.reasonsLeft
    let p : Program := { s.program with reasons := left, state := if left.none then .running else .paused }
    let s1 := if p = s.program then s else State.thermalEval { s with program := p }
    if left.none then s1.done else s1.reply .badState
  else s.reply .badState

/-- RESUME_PROGRAM (07 R131). -/
def execResumeProgram (s : State) : Out := orderRow .resumeProgram State.resumeProgram s

/-- The reply to an ADVANCE-STEP (07 R126). -/
def State.advanceStep (_ : List Byte) (s : State) : Reply :=
  if s.program.state = .running then s.endStep.done else s.reply .badState

/-- ADVANCE_STEP (07 R126). -/
def execAdvanceStep (s : State) : Out := orderRow .advanceStep State.advanceStep s

/-! ### Pours and the restart -/

/-- The request a POUR-PORTION's arguments make, if they are ones it allows (09 R155). -/
def portionRequest : List Byte → Option PourRequest
  | [o, v1, v0] =>
    match outletOf o with
    | some outlet =>
      if 50 ≤ natOf16 v1 v0 ∧ natOf16 v1 v0 ≤ 2000 then some ⟨outlet, .portion, some (natOf16 v1 v0), true⟩ else none
    | none => none
  | _ => none

/-- The pour request an ORDER in hand makes: none where the order handler drops it or answers NOT-READY, or where its arguments
are not ones it allows (09 R155, 11 R183). -/
def State.orderRequest (s : State) (e : RxEntry) : Option PourRequest :=
  if 2 ≤ s.orders.pendingAnswers ∨ s.mode.mode = .starting then none else portionRequest (orderArgs e)

/-- A POUR-PORTION handled by the steps of R183, `before` being the state before the inputs of the same moment settled: its
request is presented together with theirs, and one that makes no request leaves theirs to be presented alone (09 R155 to R158).
The order is answered after the requests have been decided: R184 has it so for its own request, and for theirs the spec gives
no order (log 41). -/
def State.pourPortionRow (s : State) (before : State) (e : RxEntry) : State :=
  let inputs := inputRequests before s
  match s.orderRequest e with
  | some q =>
    (s.arbitrate (q :: inputs)).answer e OrderCode.pourPortion.code
      (if s.portionAccepted q inputs then .done else .badState) []
  | none => (s.arbitrate inputs).handleOrder .pourPortion e (fun _ s => s.reply .badValue)

/-- POUR_PORTION, with the inputs that settle at the same moment (09 R155, R156): their changes are handed on first, and their
pour requests are presented to the arbiter together with the order's. -/
def execPourPortion (settled : List Input) (s : State) : Out :=
  whileRunning s fun s => takeFrame s (· == .order (some .pourPortion)) fun e s =>
    (State.handOn s (s.settleAll settled)).pourPortionRow s e

/-- The reply to a STOP-POUR (09 R165). -/
def State.stopPour (_ : List Byte) (s : State) : Reply :=
  if s.pour.state = .pouring then (s.endPour .stopped).done else s.reply .badState

/-- STOP_POUR (09 R165). -/
def execStopPour (s : State) : Out := orderRow .stopPour State.stopPour s

/-- The reply to a RESTART-BAY (11 R186). -/
def State.restartBay (_ : List Byte) (s : State) : Reply :=
  if s.orders.restartMark then s.reply .badState
  else State.done { s with orders := { s.orders with restartMark := true } }

/-- RESTART_BAY (11 R186). -/
def execRestartBay (s : State) : Out := orderRow .restartBay State.restartBay s

end Sys2Proof.Machine
end

