-- ==== Sys2Proof/Machine/Supply.lean ====
section
/-! DEFINITION. Supply, starts and the configuration load: COLD_START, DIP_START, SUPPLY_FALL, ORDERED_START, CONFIG_LOAD,
CONFIG_LOAD_END (05 R76 to R80, and each chapter's start rule). -/

namespace Sys2Proof.Machine

/-- A warm start: what every block keeps (06 R99, 07 R135, 09 R149, R168, 10 R181), the open pour written to the log. -/
def State.warmStart (s : State) (reason : StartReason) (strap : BitVec 4) : State :=
  State.started reason strap s.thermal.frozen s.program (s.pour.logged s.keg.remaining) s.keg s.notice.warm s.inputs
    s.draws s.pending

/-- COLD_START: every block takes its COLD values (05 R76, R77; log 10). -/
def execColdStart (strap : BitVec 4) (s : State) : Out :=
  .next (State.started .cold strap none .initial [] .initial .initial s.inputs s.draws s.pending)

/-- DIP_START: a warm start recorded as DIP (05 R76; log 10). -/
def execDipStart (strap : BitVec 4) (s : State) : Out := .next (s.warmStart .dip strap)

/-- SUPPLY_FALL: the part stops, the wire is released, the outputs go off (01 R22, 05 R76, 10 R173); the start that follows
sets all that is not retained. -/
def execSupplyFall (s : State) : Out :=
  .next { s with
    power := .off
    line := { s.line with round := none }
    tx := { s.tx with inFlight := none } }

/-- ORDERED_START: the warm start the ANSWER to RESTART-BAY has made due (11 R186, log 9). -/
def execOrderedStart (strap : BitVec 4) (s : State) : Out :=
  .next (if s.power = .restarting then s.warmStart .ordered strap else s)

/-- The start delay in milliseconds (05 R78). -/
def startDelay (address : Nat) : Nat := 250 + 100 * address

/-- CONFIG_LOAD: the start delay ends and the loader reads the record (05 R78, R79). -/
def execConfigLoad (s : State) : Out :=
  whileRunning s fun s =>
    if s.load = .delay then
      { s with load := .reading, timebase := { s.timebase with ms := max s.timebase.ms (startDelay s.line.address) } }
    else s

/-- The working copy a read gives: a usable record as read, else the defaults (05 R79). -/
def ConfigRead.usable : ConfigRead → Option WorkingCopy
  | .noResponse => none
  | .record bytes => configOf bytes

/-- The working copy, the config digest and CONFIG-DEFAULT as the load ends (05 R79, 02 R32). -/
def State.takeConfig (s : State) (read : Option WorkingCopy) : State :=
  let cfg := read.getD .defaults
  State.raise { s with cfg := cfg, load := .ended, mode := { s.mode with configDigest := configDigestOf cfg } }
    (flagIf read.isNone .configDefault)

/-- The inputs judged at the end of the load by the program unit, the pressure controller and the notice unit (07 R130,
08 R148, 10 R170, R172). -/
def State.judgeInputs (s : State) : State :=
  let s1 := if s.kegReady then s else s.pauseFor .kegAbsent
  let s2 := if s.asserted .leak then s1.leakBegin else s1
  (s2.raise (flagIf (s.asserted .drip) .dripFull)).pressureEval

/-- STARTING left for VACANT or JOINING, with the NOTICE asked for if a flag is set and enabled (05 R80, 10 R177). The SYNC-ASK
of JOINING is queued before that NOTICE of its own urgency, an order the spec leaves open (log 35). -/
def State.leaveStarting (s : State) : State :=
  if 1 ≤ s.line.address ∧ s.line.address ≤ 8 then
    let s1 := if s.asserted .kegPresent then s.enterSync .joining else (s.enterMode .vacant).thermalEval
    if s1.notice.asks s1.notice.flags then { s1 with tx := s1.tx.askNotice } else s1
  else s

/-- CONFIG_LOAD_END: the working copy is fixed, the inputs are judged, and the mode leaves STARTING (05 R79, R80). -/
def execConfigLoadEnd (read : ConfigRead) (s : State) : Out :=
  whileRunning s fun s =>
    if s.load = .reading then ((s.takeConfig (ConfigRead.usable read)).judgeInputs).leaveStarting else s

end Sys2Proof.Machine
end

