-- ==== Sys2Proof/Machine/Timers.lean ====
section
/-! DEFINITION. The threshold rows: ANSWER_WAIT_EXPIRY, REST_END, ANNOUNCE_TIMER, ROSTER_ENTRY_REMOVED, RENEW_POINT, LAPSE,
EXPIRY_POINT, STARVE_LIMIT, DRIFT_LIMIT, EMPTY_END, FOAM_END, SETTLING_END, and MINUTE_EVENT and HOUR_EVENT, which a count of
events makes due. Each acts where the state has reached its threshold and has no effect elsewhere (log 5, log 7). -/

namespace Sys2Proof.Machine

/-- The answer wait has run its two second events (05 R91). -/
def State.answerWait (s : State) : State :=
  if s.syncing ∧ s.mode.sync.stage = .listening ∧ s.mode.sync.wait = 2 then s.waitExpired else s

/-- ANSWER_WAIT_EXPIRY. -/
def execAnswerWaitExpiry (s : State) : Out := whileRunning s State.answerWait

/-- The rest has run its five second events (05 R91). -/
def State.restTimer (s : State) : State :=
  if s.syncing ∧ s.mode.sync.stage = .resting ∧ s.mode.sync.rest = 5 then s.restEnds else s

/-- REST_END. -/
def execRestEnd (s : State) : Out := whileRunning s State.restTimer

/-- The announce timer has reached 5 (05 R86). -/
def State.announceTimer (s : State) : State := if s.mode.announceTimer = some 5 then s.announceRequest else s

/-- ANNOUNCE_TIMER. -/
def execAnnounceTimer (s : State) : Out := whileRunning s State.announceTimer

/-- A roster entry's silence age has reached 15: the entry is removed, and the doubt test follows (05 R85, R96). -/
def State.removeSilent (address : Nat) (s : State) : State :=
  if s.mode.roster.any (fun r => r.address == address && r.silence == 15) then
    State.doubtTest { s with
      mode := { s.mode with roster := s.mode.roster.filter (fun r => !(r.address == address && r.silence == 15)) } }
  else s

/-- ROSTER_ENTRY_REMOVED. -/
def execRosterEntryRemoved (address : Nat) (s : State) : Out := whileRunning s (State.removeSilent address)

/-- The lease age of the own entry of a resource, none where the own table holds none. -/
def State.ownAge (s : State) (x : Resource) : Option Nat :=
  match s.share.standing s.line.address x with
  | .absent => none
  | _ => ageOf s.line.address (s.lease.ages.get x)

/-- An own entry's age has reached the renew point and not yet the lapse point: a RENEW is asked for (04 R70). -/
def State.renewDue (x : Resource) (s : State) : State :=
  match s.active, s.ownAge x with
  | true, some a =>
    if renewPointOf (leaseOf s.cfg x) ≤ a ∧ a < leaseOf s.cfg x then s.onDemand x (fun d => d.askRenew x) else s
  | _, _ => s

/-- RENEW_POINT. -/
def execRenewPoint (x : Resource) (s : State) : Out := whileRunning s (State.renewDue x)

/-- An own entry's age has reached the lapse point while the lapse mark is clear (04 R71). -/
def State.lapseDue (x : Resource) (s : State) : State :=
  match s.active, s.ownAge x with
  | true, some a =>
    if leaseOf s.cfg x ≤ a ∧ (s.demand.get x).lapse = false then s.onDemand x (fun d => d.lapse x) else s
  | _, _ => s

/-- LAPSE. -/
def execLapse (x : Resource) (s : State) : Out := whileRunning s (State.lapseDue x)

/-- A peer's entry has reached the expiry point while the expiry record is none: an EXPIRE is queued (04 R72). -/
def State.expiryDue (x : Resource) (s : State) : State :=
  match s.active, s.lease.expiry.get x, s.share.liveSection x with
  | true, none, some sec =>
    match overdue s.line.address (expiryPointOf (leaseOf s.cfg x)) (s.lease.ages.get x) sec with
    | some e =>
      let l := LeaseTx.queueExpire ⟨s.lease, s.tx⟩ x e
      { s with lease := l.lease, tx := l.tx }
    | none => s
  | _, _, _ => s

/-- EXPIRY_POINT. -/
def execExpiryPoint (x : Resource) (s : State) : Out := whileRunning s (State.expiryDue x)

/-- The starve limit in seconds (04 R74). -/
def starveSeconds (cfg : WorkingCopy) : Nat := cfg.starveLimit * 60

/-- A starve timer has reached the limit with its mark clear: STARVED (04 R74). -/
def State.starveDue (x : Resource) (s : State) : State :=
  if (s.demand.get x).unmet s.active = true ∧ starveSeconds s.cfg ≤ (s.demand.get x).starve ∧
      (s.demand.get x).starveNoticed = false then
    State.raise { s with demand := s.demand.set x { s.demand.get x with starveNoticed := true } } Flag.starved.mask
  else s

/-- STARVE_LIMIT. -/
def execStarveLimit (x : Resource) (s : State) : Out := whileRunning s (State.starveDue x)

/-- The drift limit in seconds (06 R113). -/
def driftSeconds (cfg : WorkingCopy) : Nat := cfg.driftLimit * 60

/-- The drift timer has reached the limit with its mark clear: TEMP-DRIFT (06 R113). -/
def State.driftDue (s : State) : State :=
  if driftSeconds s.cfg ≤ s.thermal.drift ∧ s.thermal.driftNoticed = false then
    State.raise { s with thermal := { s.thermal with driftNoticed := true } } Flag.tempDrift.mask
  else s

/-- DRIFT_LIMIT. -/
def execDriftLimit (s : State) : Out := whileRunning s State.driftDue

/-- The dry count has reached 3: the pour ends EMPTY, KEG-EMPTY is raised, the phase becomes SPENT (09 R163; log 36). -/
def State.emptyDue (s : State) : State :=
  if s.pour.state = .pouring ∧ s.pour.dry = 3 then
    let s1 := (s.endPour .empty).raise Flag.kegEmpty.mask
    (State.thermalEval { s1 with keg := { s1.keg with phase := .spent } }).pressureEval
  else s

/-- EMPTY_END. -/
def execEmptyEnd (s : State) : Out := whileRunning s State.emptyDue

/-- The foam count has reached 2: the pour ends FOAM (09 R164). -/
def State.foamDue (s : State) : State :=
  if s.pour.state = .pouring ∧ s.pour.foam = 2 then s.endPour .foam else s

/-- FOAM_END. -/
def execFoamEnd (s : State) : Out := whileRunning s State.foamDue

/-- The settle count has reached 2: the pour is logged and the engine is IDLE (09 R166). -/
def State.settleDue (s : State) : State :=
  if s.pour.state = .settling ∧ s.pour.settle = 2 then
    State.pressureEval { s with pour := s.pour.settled s.keg.remaining }
  else s

/-- SETTLING_END. -/
def execSettlingEnd (s : State) : Out := whileRunning s State.settleDue

/-- A minute event is due: the sixtieth second event has come (05 R78, 07 R122 to R125). -/
def State.minuteEvent (s : State) : State :=
  if s.timebase.minuteDue then State.minute { s with timebase := { s.timebase with minuteDue := false } } else s

/-- MINUTE_EVENT. -/
def execMinuteEvent (s : State) : Out := whileRunning s State.minuteEvent

/-- An hour event is due: the sixtieth minute event has come (05 R78, 07 R134). -/
def State.hourEvent (s : State) : State :=
  if s.timebase.hourDue then State.hour { s with timebase := { s.timebase with hourDue := false } } else s

/-- HOUR_EVENT. -/
def execHourEvent (s : State) : Out := whileRunning s State.hourEvent

end Sys2Proof.Machine
end

