-- ==== Sys2Proof/Machine/Timebase.lean ====
section
/-! DEFINITION. The timebase: the millisecond tick of an idle step and SECOND_EVENT with everything the blocks do at it
(05 R78, 95 SECOND_EVENT). -/

namespace Sys2Proof.Machine

/-! ### The millisecond tick (05 R78, 10 R170, log 8) -/

/-- One millisecond at one input: the timer runs while the pin differs from the settled level. -/
def InputState.tick (i : InputState) : InputState :=
  if i.settled = some i.pin then i else { i with timer := bump 20 i.timer }

/-- One millisecond: the count since the start, and the six settling timers. -/
def State.tick (s : State) : State :=
  if s.power = .running then
    { s with timebase := { s.timebase with ms := s.timebase.ms + 1 }, inputs := s.inputs.map InputState.tick }
  else s

/-! ### Thresholds left over (log 5) -/

/-- Every roster entry whose silence age has reached 15, by ascending address. -/
def State.takeSilent (s : State) : State :=
  [1, 2, 3, 4, 5, 6, 7, 8, 9, 10, 11, 12].foldl (fun s a => State.removeSilent a s) s

/-- Every threshold the state has reached and whose row has not been sent, taken in a fixed order. The lease thresholds are not
among them: a second event compares the ages after they have risen, and RENEW_POINT, LAPSE and EXPIRY_POINT, sent after it, are
that comparison (04 R69 to R72). -/
def State.takeDue (s : State) : State :=
  let s1 := s.minuteEvent.hourEvent.driftDue.emptyDue.foamDue.settleDue
  let s2 := State.starveDue .heat (State.starveDue .gas (State.starveDue .chill s1))
  s2.takeSilent.announceTimer.answerWait.restTimer

/-! ### SECOND_EVENT (05 R78) -/

/-- The counts of second and minute events; the sixtieth second event makes a minute event due, the sixtieth minute event an
hour event (05 R78). -/
def Timebase.second (t : Timebase) : Timebase :=
  if t.seconds + 1 < 60 then { t with seconds := t.seconds + 1 }
  else if t.minutes + 1 < 60 then { t with seconds := 0, minutes := t.minutes + 1, minuteDue := true }
  else { t with seconds := 0, minutes := 0, minuteDue := true, hourDue := true }

/-- The beer probe's second: sample, evaluation, drift timer (06 R100, R113). -/
def State.probeSecond (s : State) (v : Int) : State :=
  let s1 := s.probeSample v
  { s1 with thermal := s1.thermal.driftTick (driftSeconds s1.cfg) }

/-- One second on a roster entry's silence age (05 R85). -/
def RosterEntry.second (r : RosterEntry) : RosterEntry := { r with silence := bump 15 r.silence }

/-- One second on the ages and timers that only count: pour, leases, roster, starvation, announce timer, sync
(04 R69, R74, 05 R85, R86, R91, 09 R163, R164, R166). -/
def State.countSecond (s : State) : State :=
  { s with
    pour := s.pour.second s.cfg.foamLimit
    lease := { s.lease with ages := s.lease.ages.map ageTick }
    demand := s.demand.map (fun r => r.starveTick s.active (starveSeconds s.cfg))
    mode := { s.mode with
      roster := s.mode.roster.map RosterEntry.second
      announceTimer := s.mode.announceTimer.map (bump 5)
      sync := s.mode.sync.second } }

/-- Every REQUESTED frame asked for again, in the order CHILL, GAS, HEAT, which the spec leaves open (04 R66; log 34). -/
def State.retryRequested (s : State) : State :=
  ((s.onDemand .chill (fun d => d.retry .chill)).onDemand .gas (fun d => d.retry .gas)).onDemand .heat
    (fun d => d.retry .heat)

/-- A second event at every block, in one order (log 19). -/
def State.second (s : State) (probe pressure : Int) : State :=
  let s1 := s.takeDue
  let s2 : State := { s1 with timebase := s1.timebase.second }
  ((s2.probeSecond probe).pressureSample pressure).countSecond.retryRequested

/-- SECOND_EVENT: the first comes one second after the start delay has ended (05 R78). -/
def execSecondEvent (probe pressure : Int) (s : State) : Out :=
  whileRunning s fun s => if s.load = .delay then s else s.second probe pressure

end Sys2Proof.Machine
end

