-- ==== Sys2Proof/Machine/Dispatch.lean ====
section
/-! DEFINITION. One arm for each row of spec/opcode_table.json: its meaning. -/

namespace Sys2Proof.Machine

/-- The effect of a command on everything but the queue of waiting commands. -/
def exec (i : Instr) (s : State) : Host.Outcome State Fault Refusal :=
  match i with
  | .coldStart strap => Sys2Proof.Machine.execColdStart strap s
  | .dipStart strap => Sys2Proof.Machine.execDipStart strap s
  | .supplyFall => Sys2Proof.Machine.execSupplyFall s
  | .orderedStart strap => Sys2Proof.Machine.execOrderedStart strap s
  | .configLoad => Sys2Proof.Machine.execConfigLoad s
  | .configLoadEnd read => Sys2Proof.Machine.execConfigLoadEnd read s
  | .secondEvent probe pressure => Sys2Proof.Machine.execSecondEvent probe pressure s
  | .minuteEvent => Sys2Proof.Machine.execMinuteEvent s
  | .hourEvent => Sys2Proof.Machine.execHourEvent s
  | .pinChange input high => Sys2Proof.Machine.execPinChange input high s
  | .inputSettled inputs => Sys2Proof.Machine.execInputSettled inputs s
  | .meterPulse => Sys2Proof.Machine.execMeterPulse s
  | .lineIdle => Sys2Proof.Machine.execLineIdle s
  | .breakSeen => Sys2Proof.Machine.execBreak s
  | .stub => Sys2Proof.Machine.execStub s
  | .frameEnd falseStart chars => Sys2Proof.Machine.execFrameEnd falseStart chars s
  | .frameBroken cause falseStart chars => Sys2Proof.Machine.execFrameBroken cause falseStart chars s
  | .slotBegin wireHigh => Sys2Proof.Machine.execSlotBegin wireHigh s
  | .quietWindow => Sys2Proof.Machine.execQuietWindow s
  | .lostArbitration bit => Sys2Proof.Machine.execLostArbitration bit s
  | .sendFault bit => Sys2Proof.Machine.execSendFault bit s
  | .frameComplete => Sys2Proof.Machine.execFrameComplete s
  | .frameRejected => Sys2Proof.Machine.execFrameRejected s
  | .frameNoBlock => Sys2Proof.Machine.execFrameNoBlock s
  | .claim => Sys2Proof.Machine.execClaim s
  | .renew => Sys2Proof.Machine.execRenew s
  | .yield => Sys2Proof.Machine.execYield s
  | .yieldAll => Sys2Proof.Machine.execYieldAll s
  | .expire => Sys2Proof.Machine.execExpire s
  | .syncTable => Sys2Proof.Machine.execSyncTable s
  | .syncAsk => Sys2Proof.Machine.execSyncAsk s
  | .announce => Sys2Proof.Machine.execAnnounce s
  | .answerWaitExpiry => Sys2Proof.Machine.execAnswerWaitExpiry s
  | .restEnd => Sys2Proof.Machine.execRestEnd s
  | .announceTimer => Sys2Proof.Machine.execAnnounceTimer s
  | .rosterEntryRemoved address => Sys2Proof.Machine.execRosterEntryRemoved address s
  | .renewPoint x => Sys2Proof.Machine.execRenewPoint x s
  | .lapse x => Sys2Proof.Machine.execLapse x s
  | .expiryPoint x => Sys2Proof.Machine.execExpiryPoint x s
  | .starveLimit x => Sys2Proof.Machine.execStarveLimit x s
  | .driftLimit => Sys2Proof.Machine.execDriftLimit s
  | .emptyEnd => Sys2Proof.Machine.execEmptyEnd s
  | .foamEnd => Sys2Proof.Machine.execFoamEnd s
  | .settlingEnd => Sys2Proof.Machine.execSettlingEnd s
  | .readStatus => Sys2Proof.Machine.execReadStatus s
  | .readKeg => Sys2Proof.Machine.execReadKeg s
  | .readStep => Sys2Proof.Machine.execReadStep s
  | .readPourLog => Sys2Proof.Machine.execReadPourLog s
  | .readNotices => Sys2Proof.Machine.execReadNotices s
  | .clearNotices => Sys2Proof.Machine.execClearNotices s
  | .setNoticeEnable => Sys2Proof.Machine.execSetNoticeEnable s
  | .raiseNotice => Sys2Proof.Machine.execRaiseNotice s
  | .setFill => Sys2Proof.Machine.execSetFill s
  | .setServe => Sys2Proof.Machine.execSetServe s
  | .loadStep => Sys2Proof.Machine.execLoadStep s
  | .clearProgram => Sys2Proof.Machine.execClearProgram s
  | .startProgram => Sys2Proof.Machine.execStartProgram s
  | .pauseProgram => Sys2Proof.Machine.execPauseProgram s
  | .resumeProgram => Sys2Proof.Machine.execResumeProgram s
  | .advanceStep => Sys2Proof.Machine.execAdvanceStep s
  | .pourPortion settled => Sys2Proof.Machine.execPourPortion settled s
  | .stopPour => Sys2Proof.Machine.execStopPour s
  | .restartBay => Sys2Proof.Machine.execRestartBay s
  | .unknownOrder => Sys2Proof.Machine.execUnknownOrder s

end Sys2Proof.Machine
end

