-- ==== Sys2Proof/Safety.lean ====
section
/-! DEFINITION. What the spec calls laws of the device, as decidable conditions on a state, each strong enough to be kept by
every step: the table (03 R38), the frames of each mode (05 R84), the gate (04 R75), the outputs (06 R112, 08 R144, 09 R159), the
program (07 R115, R128), the keg record (09 R150), the notices (10 R175), the answers (11 R182). -/

namespace Sys2Proof.Machine

/-! ### The share table (03 R35 to R38, R49) -/

/-- Every entry names a bay of 1 to 8. -/
def baysOk (sec : Section) : Bool := (sec.grants ++ sec.waits).all (fun e => decide (1 ≤ e.bay ∧ e.bay ≤ 8))

/-- A LIVE section keeps the pool law, single appearance, order of rank, and a head that does not fit; an UNRECEIVED one is
empty (03 R37, R38, R49). -/
def sectionLaw (cfg : WorkingCopy) (x : Resource) (sec : Section) : Bool :=
  if sec.live then sectionOk (poolOf cfg x) x sec && baysOk sec else sec.grants.isEmpty && sec.waits.isEmpty

/-- The holding of the table by mode (03 R37). -/
def holdingLaw (s : State) : Bool :=
  match s.mode.mode, s.share.table with
  | .active, some t => allLive t
  | .joining, some t | .doubtful, some t => !allLive t
  | .starting, none | .vacant, none | .muted, none => true
  | _, _ => false

/-- The configuration load is still to end only in STARTING (05 R80). -/
def loadLaw (s : State) : Bool := s.load == .ended || s.mode.mode == .starting

/-- The laws of the share table at a station (03 R37, R38, R49). -/
def tableLaw (s : State) : Bool :=
  loadLaw s && holdingLaw s &&
    match s.share.table with
    | some t => sectionLaw s.cfg .chill t.chill && sectionLaw s.cfg .gas t.gas && sectionLaw s.cfg .heat t.heat
    | none => true

/-! ### Frames and modes (05 R84) -/

/-- No pending frame in any demand record. -/
def noPending (s : State) : Bool :=
  s.demand.chill.pending.isNone && s.demand.gas.pending.isNone && s.demand.heat.pending.isNone

/-- Outside ACTIVE no CLAIM, RENEW, EXPIRE or SYNC-TABLE holds a place, and no demand record has a pending frame
(05 R84, 04 R67). -/
def framesLaw (s : State) : Bool := s.active || (!s.tx.holds TxFrame.ofActive && noPending s)

/-! ### The transmit queue (01 R18) -/

/-- The queued entries stand in order of urgency (01 R18). -/
def orderLaw (tx : Tx) : Bool := decide ((tx.queue.map (fun e => e.frame.urgency)).Pairwise (· ≤ ·))

/-! ### The roster (05 R85) -/

/-- The roster holds at most one entry for each address of 1 to 12 other than the own, by ascending address, and its silence
ages stay in 0 to 15 (05 R85). -/
def rosterLaw (s : State) : Bool :=
  s.mode.roster.all (fun r => decide (1 ≤ r.address ∧ r.address ≤ 12) && r.address != s.line.address &&
    decide (r.silence ≤ 15)) &&
  decide ((s.mode.roster.map RosterEntry.address).Pairwise (· < ·))

/-! ### The gate (04 R75) -/

/-- Each record's standing is what the station's own table holds for it. -/
def standingLaw (s : State) : Bool :=
  s.demand.chill.standing == s.share.standing s.line.address .chill &&
    s.demand.gas.standing == s.share.standing s.line.address .gas &&
    s.demand.heat.standing == s.share.standing s.line.address .heat

/-- The own table holds a GRANTED entry of the own bay for a resource. -/
def State.holdsGrant (s : State) (x : Resource) : Bool :=
  match s.share.standing s.line.address x with
  | .granted _ => true
  | _ => false

/-! ### Outputs -/

/-- The thermal staging follows the needs, and the two needs are never present together (06 R111, R112). -/
def thermalLaw (s : State) : Bool :=
  s.staged.chillValve == s.thermal.cooling.isSome && s.staged.heater == s.thermal.heating.isSome &&
    !(s.thermal.cooling.isSome && s.thermal.heating.isSome)

/-- A valid latest sample at or above the safety limit stands with the safety state TRIPPED (08 R141, R144). -/
def reliefLaw (s : State) : Bool :=
  match s.pressure.reading with
  | some v => s.pressure.tripped || decide (v < (s.cfg.safetyLimit : Int))
  | none => true

/-- The open pour record stands as the pour state says (09 R154). -/
def recordLaw (p : Pour) : Bool :=
  match p.state, p.record with
  | .idle, none => true
  | .pouring, some r => r.reason.isNone
  | .settling, some r => r.reason.isSome
  | _, _ => false

/-! ### Program, pour and phase -/

/-- The step table holds no record in EMPTY and at least one in READY and in COMPLETE (07 R116, R118, R127). -/
def stepsLaw (p : Program) : Bool :=
  match p.state with
  | .empty => p.steps.isEmpty
  | .ready | .complete => !p.steps.isEmpty
  | .running | .paused => true

/-- At most 16 records, in EMPTY none and in READY and COMPLETE at least one; while RUNNING or PAUSED the current step stands
below the count and the phase is FERMENTING or CONDITIONING; otherwise there is no current step (07 R114 to R118, R128). -/
def programLaw (s : State) : Bool :=
  decide (s.program.steps.length ≤ 16) && stepsLaw s.program &&
    match s.program.underWay, s.program.current with
    | true, some c =>
      decide (c < s.program.steps.length) && (s.keg.phase == .fermenting || s.keg.phase == .conditioning)
    | false, none => true
    | _, _ => false

/-- POURING only while the phase is SERVING and KEG-PRESENT and COUPLED are asserted, after the configuration load; the open
pour record and the outlet staging follow the pour state (09 R159). -/
def pourLaw (s : State) : Bool :=
  recordLaw s.pour &&
    (s.pour.state != .pouring ||
      (s.keg.phase == .serving && s.kegReady && s.load == .ended && s.mode.mode != .starting))

/-! ### Records -/

/-- Remaining and dispensed volume make up the fill volume, and the volumes keep their ranges (09 R149, R150). -/
def kegLaw (k : Keg) : Bool :=
  decide (k.dispensed ≤ k.fill) && decide (k.fill ≤ 20000) && decide (k.unaccounted ≤ 65535) &&
    decide (k.remaining + k.dispensed = k.fill)

/-- Bit 15 is 0 in every flag set, and only set flags are seen (02 R23, 10 R175, R178). -/
def noticeLaw (n : Notice) : Bool :=
  !n.flags.msb && !n.seen.msb && !n.enabled.msb && n.seen &&& ~~~n.flags == 0

/-- No ANSWER in flight is marked withdrawn: no rule withdraws one (01 R21, 11 R184). -/
def answersStand (tx : Tx) : Bool :=
  match tx.inFlight with
  | some f => !(f.withdrawn && f.entry.frame.isAnswer)
  | none => true

/-- The pending count is the number of answer places held, at most 2, unless the supply is down, whose fall has broken off the
frame in flight (11 R182). -/
def answerLaw (s : State) : Bool :=
  s.power == .off || (s.orders.pendingAnswers == s.tx.answers && decide (s.tx.answers ≤ 2) && answersStand s.tx)

/-- The receive queue holds at most four frames, and none while the handler has no frame in hand (01 R9). -/
def receiveLaw (s : State) : Bool :=
  decide (s.line.rxQueue.length ≤ 4) && (s.handler.inHand.isSome || s.line.rxQueue.isEmpty)

/-- The counts of the line interface, the frame handler and the order handler stay in 0 to 255 (01 R22, 02 section 2.3,
11 R182). -/
def countLaw (s : State) : Bool :=
  [s.line.broken, s.line.overruns, s.line.lostArbs, s.line.sendFaults, s.handler.unknownKind, s.handler.badHeader,
    s.handler.badLength, s.handler.badAddress, s.orders.dropped].all (fun n => decide (n ≤ 255))

end Sys2Proof.Machine
end

