-- ==== Sys2Proof/Certificates/Slice0/Obligations.lean ====
section
/-! DEFINITION. The statements for the provers, from the numbered rules of spec/. The vocabulary comes first: conditions on a
state and on the frame in hand, in the spec's own terms. -/

namespace Sys2Proof.Machine

/-! ### Vocabulary -/

/-- The handler of a running station has a frame in hand, of the kind and urgency given, with a sender of 1 to 12 that is not the
station itself unless the entry carries the own mark (01 R9, 02 R25). -/
abbrev FrameInHand (s : State) (e : RxEntry) (kind : Byte) (urgency : Nat) : Prop :=
  s.power = .running ∧ s.handler.inHand = some e ∧ e.kind = kind ∧ e.urgency = urgency ∧ 1 ≤ e.sender ∧ e.sender ≤ 12 ∧
    (e.sender ≠ s.line.address ∨ e.own = true)

/-- An ORDER for this station is in hand: its destination, its code, its arguments (02 section 2.6). -/
abbrev OrderInHand (s : State) (e : RxEntry) (code : Byte) (args : List Byte) : Prop :=
  FrameInHand s e 0x31 2 ∧ 1 ≤ s.line.address ∧ s.line.address ≤ 12 ∧ args.length ≤ 16 ∧
    e.body = nat8 s.line.address :: code :: args

/-- The same, and the order handler carries it out: an answer place is free, the mode is not STARTING, and the arguments are as
many as the order code table gives (11 R183). -/
abbrev OrderTaken (s : State) (e : RxEntry) (o : OrderCode) (args : List Byte) : Prop :=
  OrderInHand s e o.code args ∧ s.orders.pendingAnswers < 2 ∧ s.mode.mode ≠ .starting ∧ args.length = o.argCount

/-- The row of an order of a known code, no input settling with it. -/
def OrderCode.row : OrderCode → Instr
  | .readStatus => .readStatus
  | .readKeg => .readKeg
  | .readStep => .readStep
  | .readPourLog => .readPourLog
  | .readNotices => .readNotices
  | .clearNotices => .clearNotices
  | .setNoticeEnable => .setNoticeEnable
  | .raiseNotice => .raiseNotice
  | .setFill => .setFill
  | .setServe => .setServe
  | .loadStep => .loadStep
  | .clearProgram => .clearProgram
  | .startProgram => .startProgram
  | .pauseProgram => .pauseProgram
  | .resumeProgram => .resumeProgram
  | .advanceStep => .advanceStep
  | .pourPortion => .pourPortion []
  | .stopPour => .stopPour
  | .restartBay => .restartBay

/-- One ANSWER queued to the sender of the order, its body fixed, and the pending count raised (02 R30, 11 R184). -/
def answered (s : State) (e : RxEntry) (code result : Byte) (data : List Byte) : State :=
  { s with
    tx := s.tx.enqueue (.answer (nat8 e.sender :: code :: result :: data))
    orders := { s.orders with pendingAnswers := s.orders.pendingAnswers + 1 } }

/-- A keg station's address. -/
abbrev IsBay (n : Nat) : Prop := 1 ≤ n ∧ n ≤ 8

/-- KEG-PRESENT or another input as it will be read: its settled level under a polarity byte (10 R169). -/
def readsAsserted (i : InputState) (polarity : Byte) (bit : Nat) : Bool :=
  match i.settled with
  | some level => level == polarity.getLsbD bit
  | none => false

/-- The end of the current step c of record st, by R127: STEP-DONE, then the next step entered by R121 or the program
COMPLETE. -/
abbrev StepEnded (s t : State) (c : Nat) (st : StepRecord) : Prop :=
  t.notice.flags.getLsbD 11 = true ∧ t.program.steps = s.program.steps ∧ t.program.elapsed = 0 ∧
  (∀ nx, s.program.steps[c + 1]? = some nx →
    t.program.state = .running ∧ t.program.current = some (c + 1) ∧
    t.program.ramp = (if nx.kind = .ramp then some ⟨st.target, st.target, 0, st.target == nx.target⟩ else none) ∧
    t.keg = (if nx.kind = .condition then { s.keg with phase := .conditioning, carbTarget := nx.carb } else s.keg)) ∧
  (s.program.steps[c + 1]? = none →
    t.program.state = .complete ∧ t.program.current = none ∧ t.program.ramp = none ∧ t.program.due = false ∧
    t.keg = { s.keg with phase := .serving } ∧ t.notice.flags.getLsbD 10 = true)

/-- A minute event's effect on the ramp of a RAMP step: the minutes, the present target and the reached mark (07 R122). -/
def rampMoved (st : StepRecord) (r : Ramp) : Ramp :=
  let minutes := min (r.minutes + 1) 65535
  let tenths : Int := ((minutes * st.rate / 60 : Nat) : Int)
  let present := if r.start ≤ st.target then min (r.start + tenths) st.target else max (r.start - tenths) st.target
  ⟨r.start, present, minutes, present == st.target⟩

/-- The state with an input settled at its pin level (10 R170). -/
abbrev settledAt (s : State) (x : Input) : State :=
  { s with inputs := s.inputs.set x ⟨(s.inputs.get x).pin, some (s.inputs.get x).pin, 0⟩ }

/-- Settling now takes an assertion of the input, the load having ended (10 R170). -/
abbrev Asserts (s : State) (x : Input) : Prop :=
  s.power = .running ∧ s.load = .ended ∧ s.asserted x = false ∧ (s.inputs.get x).settled ≠ some (s.inputs.get x).pin ∧
    (s.inputs.get x).pin = s.cfg.polarity.getLsbD (inputBit x)

/-- Settling now takes a deassertion of the input, the load having ended (10 R170). -/
abbrev Deasserts (s : State) (x : Input) : Prop :=
  s.power = .running ∧ s.load = .ended ∧ s.asserted x = true ∧ (s.inputs.get x).settled ≠ some (s.inputs.get x).pin

/-- The keg was lifted or uncoupled: a POURING pour has ended KEG-LOST, a program under way is PAUSED for KEG-ABSENT, the gas need
is absent (10, the table after R171). -/
abbrev KegGone (s t : State) : Prop :=
  (s.pour.state = .pouring → t.pour = { s.pour with
    state := .settling, settle := 0, record := s.pour.record.map (fun r => { r with reason := some .kegLost }) }) ∧
  (s.pour.state ≠ .pouring → t.pour = s.pour) ∧
  (s.program.underWay = true → t.program.state = .paused ∧
    t.program.reasons = { s.program.reasons with kegAbsent := true }) ∧
  (s.program.underWay = false → t.program.state = s.program.state ∧ t.program.reasons = s.program.reasons) ∧
  t.program.current = s.program.current ∧ t.program.elapsed = s.program.elapsed ∧ t.pressure.gasNeed = none ∧
  t.driven.gasValve = false ∧ t.driven.frontValve = false ∧ t.driven.fillValve = false ∧ t.keg = s.keg ∧ t.line = s.line ∧
  t.orders = s.orders

/-- A sync has begun: the table cleared for sync, a YIELD-ALL and a SYNC-ASK in the queue, the progress ASKING (05 R87). -/
abbrev SyncBegun (t : State) : Prop :=
  t.share = ⟨some ⟨⟨false, [], []⟩, ⟨false, [], []⟩, ⟨false, [], []⟩⟩, 0⟩ ∧ t.mode.sync = ⟨.asking, 0, false, 0, 0⟩ ∧
    t.tx.holds (· == .yieldAll) = true ∧ t.tx.holds (· == .syncAsk) = true ∧ t.mode.announceTimer = some 0

/-- The pour engine as a request is accepted (09 R158). -/
abbrev pourBegun (s : State) (o : Outlet) (k : PourKind) (portion : Option Nat) : State :=
  { s with
    pour := { s.pour with
      state := .pouring, record := some ⟨o, k, portion, 0, none⟩
      remainder := 0, seconds := 0, dry := 0, foam := 0, pulses := 0 }
    staged := { s.staged with frontValve := o == .front, fillValve := o == .fill } }

/-- No threshold of a counter is left over from an earlier second event (log 5): no minute or hour event is due, and no pour count,
silence age, announce timer, answer wait or rest stands at its end. -/
abbrev NothingLeftOver (s : State) : Prop :=
  s.timebase.minuteDue = false ∧ s.timebase.hourDue = false ∧
  ¬ (s.pour.state = .pouring ∧ (s.pour.dry = 3 ∨ s.pour.foam = 2)) ∧ ¬ (s.pour.state = .settling ∧ s.pour.settle = 2) ∧
  (∀ r ∈ s.mode.roster, r.silence < 15) ∧ s.mode.announceTimer ≠ some 5 ∧
  ¬ ((s.mode.mode = .joining ∨ s.mode.mode = .doubtful) ∧
    ((s.mode.sync.stage = .listening ∧ s.mode.sync.wait = 2) ∨ (s.mode.sync.stage = .resting ∧ s.mode.sync.rest = 5)))

/-- One entry of a section as a SYNC-TABLE carries it, four characters as received (02 section 2.4). -/
structure RawEntry where
  bay    : Byte
  amount : Byte
  cls    : Byte
  count  : Byte

/-- Its four characters. -/
def RawEntry.bytes (q : RawEntry) : List Byte := [q.bay, q.amount, q.cls, q.count]

/-- The section a SYNC-TABLE carries for a resource fails a check of R54. -/
abbrev SectionRefused (pool : Nat) (x : Resource) (grants waits : List RawEntry) : Prop :=
  (∃ q ∈ grants ++ waits, ¬ IsBay q.bay.toNat ∨ q.cls &&& 0x70 ≠ 0 ∨ q.amount = 0 ∨ pool < q.amount.toNat ∨
    ∀ c : Cls, q.cls &&& 0x0F = nat8 c.rank → c.belongs x = false) ∨
  ¬ ((grants ++ waits).map RawEntry.bay).Nodup ∨ (∃ q ∈ grants, q.cls.msb = false) ∨ (∃ q ∈ waits, q.cls.msb = true) ∨
  pool < (grants.map (fun q => q.amount.toNat)).sum ∨
  ¬ (waits.map (fun q => (q.cls &&& 0x0F).toNat)).Pairwise (· ≤ ·) ∨
  (∃ q, waits.head? = some q ∧ q.amount.toNat ≤ pool - (grants.map (fun g => g.amount.toNat)).sum)

/-- Everything but what the two controllers' evaluations write is as it was (06 R107, 08 R142). -/
abbrev EvaluationsOnly (s t : State) : Prop :=
  t.power = s.power ∧ t.timebase = s.timebase ∧ t.load = s.load ∧ t.cfg = s.cfg ∧ t.line = s.line ∧ t.handler = s.handler ∧
  t.share = s.share ∧ t.lease = s.lease ∧ t.mode = s.mode ∧ t.pour = s.pour ∧ t.keg = s.keg ∧ t.inputs = s.inputs ∧
  t.orders = s.orders ∧ t.draws = s.draws ∧ t.pending = s.pending ∧ t.staged.frontValve = s.staged.frontValve ∧
  t.staged.fillValve = s.staged.fillValve ∧ t.thermal.probe = s.thermal.probe ∧ t.thermal.sample = s.thermal.sample ∧
  t.thermal.frozen = s.thermal.frozen ∧ t.thermal.drift = s.thermal.drift ∧
  t.thermal.driftNoticed = s.thermal.driftNoticed ∧ t.pressure.sensor = s.pressure.sensor ∧
  t.pressure.sample = s.pressure.sample ∧ t.pressure.leak = s.pressure.leak ∧
  { t.program with currentHour := s.program.currentHour } = s.program

/-- The frame in hand is none of the two kinds whose processing can clear the suspect mark: no SYNC-TABLE and no ANNOUNCE (05
R94). -/
abbrev NoClearInHand (s : State) : Prop := ∀ e, s.handler.inHand = some e → e.kind ≠ 0x22 ∧ e.kind ≠ 0x0A

/-- A setting of the suspect mark has been made from u: the mark is set, or the setting waits for the frame in hand, which only
a SYNC-TABLE or an ANNOUNCE makes it do (05 R94, log 38). -/
abbrev MarkSet (u t : State) : Prop :=
  (t.mode.suspect = true ∨ t.mode.suspectHeld = true) ∧ (NoClearInHand u → t.mode.suspect = true)

/-- The roster holds a lower ACTIVE peer: a keg station of a lower address that reports ACTIVE (05 R85). -/
abbrev HasLowerActive (own : Nat) (roster : List RosterEntry) : Prop :=
  ∃ r ∈ roster, IsBay r.address ∧ r.address < own ∧ r.reported = some 4

/-- The state with its suspect mark set and nothing else changed. -/
abbrev marked (s : State) : State := { s with mode := { s.mode with suspect := true } }

/-- The table cleared for sync: every section UNRECEIVED and empty, the change count 0 (03 R37). -/
abbrev clearedTable : Share := ⟨some ⟨⟨false, [], []⟩, ⟨false, [], []⟩, ⟨false, [], []⟩⟩, 0⟩

/-- ACTIVE has been left for DOUBTFUL: R82 with the table cleared for sync, LINE-TROUBLE, and the sync begun by R87. -/
abbrev Doubts (s t : State) : Prop :=
  t.mode.mode = .doubtful ∧ t.share = clearedTable ∧ t.lease = ⟨⟨[], [], []⟩, ⟨none, none, none⟩⟩ ∧
  t.mode.sync = ⟨.asking, 0, false, 0, 0⟩ ∧ t.notice.flags.getLsbD 9 = true ∧ t.notice.seen.getLsbD 9 = false ∧
  t.tx.holds TxFrame.ofActive = false ∧ t.tx.holds (· == .yieldAll) = true ∧ t.tx.holds (· == .syncAsk) = true ∧
  (∀ x, t.permitted x = false ∧ (t.demand.get x).need = (s.demand.get x).need ∧ (t.demand.get x).pending = none)

/-- A setting of the suspect mark acted on by mode, u being the state but for the setting (05 R93, R94, R96). -/
abbrev SettingActedOn (u t : State) : Prop :=
  (u.mode.mode = .starting ∨ u.mode.mode = .vacant ∨ u.mode.mode = .muted → t = marked u) ∧
  (u.mode.mode = .joining ∨ u.mode.mode = .doubtful →
    (u.share.anyLive = false → t = marked u) ∧
    (u.share.anyLive = true →
      t = { marked u with
        share := clearedTable
        lease := { u.lease with ages := ⟨[], [], []⟩ }
        demand := t.demand
        tx := if u.tx.holds (· == .syncAsk) then u.tx else u.tx.enqueue .syncAsk
        mode := { u.mode with suspect := true, sync := ⟨.asking, 0, false, 0, 0⟩ } })) ∧
  (u.mode.mode = .active →
    (HasLowerActive u.line.address u.mode.roster → t = marked u) ∧
    (¬ HasLowerActive u.line.address u.mode.roster → t.mode.suspect = true ∧ Doubts u t))

/-- A share frame of a resource has been asked for: its pending frame stands REQUESTED while a YIELD-ALL holds the share sort,
and otherwise IN-QUEUE with the frame queued in place of what held the resource's place (01 R19, R20, 04 R60, R66). -/
abbrev AskedFor (tx : Tx) (x : Resource) (k : PendKind) (d : DemandTx) : Prop :=
  (tx.holds (· == .yieldAll) = true → d.rcd.pending = some ⟨k, .requested⟩ ∧ d.tx = tx) ∧
  (tx.holds (· == .yieldAll) = false →
    d.rcd.pending = some ⟨k, .inQueue⟩ ∧ d.tx = (tx.withdraw (TxFrame.keyedTo x)).enqueue (shareFrame x k))

/-- The pending frame stands and so does the queue. -/
abbrev NothingAsked (d e : DemandTx) : Prop := e.rcd.pending = d.rcd.pending ∧ e.tx = d.tx

end Sys2Proof.Machine

open Sys2Proof Sys2Proof.Machine

/-! ### The step and the laws at reset -/

/-- A step takes the command at the front of the queue and has its effect on the rest of the state, the queue being what was
behind it. -/
def Obligations.StepRunsFrontCommand : Prop :=
  ∀ (c : Instr) (rest : List Instr) (s : State), s.pending = c :: rest → step s = exec c { s with pending := rest }

/-- The model's choice (log 8): with no command waiting, a step lets one millisecond pass. -/
def Obligations.IdleStepPassesOneMillisecond : Prop :=
  ∀ s : State, s.pending = [] →
    (s.power ≠ .running → step s = .next s) ∧
    (s.power = .running → step s = .next { s with
      timebase := { s.timebase with ms := s.timebase.ms + 1 }
      inputs := s.inputs.map (fun i => if i.settled = some i.pin then i else { i with timer := min (i.timer + 1) 20 }) })

/-- Every command, in every state, answers a next state and leaves the queue of waiting commands as it is. That none is refused
or ends in a fault is the model's reading (log 26), and that a row whose event cannot occur answers the state as it is, the
model's choice (log 7); no effect is stated here. -/
def Obligations.EveryCommandCompletes : Prop :=
  ∀ (c : Instr) (s : State), ∃ t, exec c s = .next t ∧ t.pending = s.pending

/-- Every law of Safety.lean that another statement says a step keeps holds at reset. -/
def Obligations.LawsHoldAtReset : Prop :=
  kegLaw State.reset.keg = true ∧ noticeLaw State.reset.notice = true ∧ thermalLaw State.reset = true ∧
  reliefLaw State.reset = true ∧ countLaw State.reset = true ∧ answerLaw State.reset = true ∧
  orderLaw State.reset.tx = true ∧ framesLaw State.reset = true ∧ rosterLaw State.reset = true ∧ receiveLaw State.reset = true ∧
  programLaw State.reset = true ∧ pourLaw State.reset = true ∧ tableLaw State.reset = true ∧ standingLaw State.reset = true

/-! ### Starts and the configuration load -/

/-- A COLD start sets every block to the values its chapter gives; the pins stand as they stood, and the config digest before
the load (log 4), that no frame is in hand and no own frame awaits judgement (log 40), and the count of free values, which a start
leaves (log 20), are the model's choice. Every output is driven closed. -/
def Obligations.ColdStartSetsEveryBlock : Prop :=
  ∀ (strap : BitVec 4) (s : State), ∃ t, exec (.coldStart strap) s = .next t ∧
    t.driven = ⟨false, false, false, false, false, false⟩ ∧
    t = { power := .running
          timebase := ⟨0, 0, 0, false, false⟩
          load := .delay
          cfg := .defaults
          line := ⟨.hunt, none, [], none, false, 0, 0, 0, 0, strap.toNat⟩
          tx := ⟨[], none, 0⟩
          handler := ⟨none, 0, 0, 0, 0⟩
          share := ⟨none, 0⟩
          lease := ⟨⟨[], [], []⟩, ⟨none, none, none⟩⟩
          demand := .all ⟨none, .absent, none, false, false, 0, false⟩
          mode := ⟨.starting, .cold, [], false, false, ⟨.noSync, 0, false, 0, 0⟩, none, 0⟩
          thermal := ⟨.unread, none, .off, none, none, none, none, 0, false⟩
          program := ⟨[], .empty, none, ⟨false, false, false⟩, 0, none, false, List.replicate 24 0, 0⟩
          pressure := ⟨.unread, none, false, none, false⟩
          pour := ⟨.idle, none, 0, 0, 0, 0, 0, 0, []⟩
          keg := ⟨0, 0, 0, .none, 30, 100, false, none⟩
          inputs := s.inputs.map (fun i => ⟨i.pin, none, 0⟩)
          staged := ⟨false, false, false, false, false, false⟩
          notice := ⟨0, 0, 0x67FF⟩
          orders := ⟨0, 0, false⟩
          draws := s.draws
          pending := s.pending }

/-- A DIP start, and an ORDERED start where one is due, keep the frozen target and band, the program, the keg record, the pour
log, the flags and their enables; write the open pour into the log; raise RESTARTED; clear the seen marks; and set every other
block as a COLD start does (the model's choices of logs 4, 20 and 40 among it) but for the start record. -/
def Obligations.WarmStartsKeepTheRecords : Prop :=
  ∀ (strap : BitVec 4) (s : State) (c : Instr) (reason : StartReason),
    ((c = .dipStart strap ∧ reason = .dip) ∨ (c = .orderedStart strap ∧ reason = .ordered ∧ s.power = .restarting)) →
    ∃ t u, exec c s = .next t ∧ exec (.coldStart strap) s = .next u ∧
      t.driven = ⟨false, false, false, false, false, false⟩ ∧
      t = { u with
        mode := { u.mode with startReason := reason }
        thermal := { u.thermal with frozen := s.thermal.frozen }
        program := s.program
        keg := s.keg
        notice := ⟨s.notice.flags ||| 0x2000, 0, s.notice.enabled⟩
        pour := { u.pour with
          log := match s.pour.record with
            | none => s.pour.log
            | some r =>
              ⟨r.outlet, r.kind, r.volume, r.reason.getD .interrupted, s.keg.fill - s.keg.dispensed⟩ ::
                s.pour.log.take 7 } }

/-- A fall of the supply stops the part: every output is off, the wire is released and no round runs; the rest stands until the
start that follows sets it. The start delay of 250 ms plus 100 ms for each unit of the strap address ends, and the record is
read; the count of milliseconds stands at the delay or above it (log 8). -/
def Obligations.SupplyFallAndEndOfStartDelay : Prop :=
  (∀ s : State, ∃ t, exec .supplyFall s = .next t ∧ t.driven = ⟨false, false, false, false, false, false⟩ ∧
     t = { s with power := .off, line := { s.line with round := none }, tx := { s.tx with inFlight := none } }) ∧
  (∀ s : State, s.power = .running → s.load = .delay →
     exec .configLoad s = .next { s with
       load := .reading
       timebase := { s.timebase with ms := max s.timebase.ms (250 + 100 * s.line.address) } })

/-- The load ends: a usable record becomes the working copy, otherwise the defaults stand and CONFIG-DEFAULT is raised; the
config digest is the check of the plant part; and the mode leaves STARTING by the strap address and KEG-PRESENT. The inputs are
judged under the loaded polarity: a keg not in place or not coupled pauses a program under way for KEG-ABSENT, LEAK begins the
lockout, DRIP raises DRIP-FULL, and the safety state is judged against the loaded limit. On leaving STARTING a NOTICE is asked for
if any flag is set and enabled, and JOINING begins its sync. -/
def Obligations.ConfigLoadEndLeavesStarting : Prop :=
  ∀ (read : ConfigRead) (usable : Option WorkingCopy) (s : State),
    s.power = .running → s.load = .reading → s.mode.mode = .starting →
    usable = (match read with
      | .noResponse => none
      | .record bytes => configOf bytes) →
    ∃ t, exec (.configLoadEnd read) s = .next t ∧ t.load = .ended ∧ t.cfg = usable.getD .defaults ∧
      t.mode.configDigest = check16 (plantPart t.cfg) ∧
      t.notice.flags.getLsbD 14 = (s.notice.flags.getLsbD 14 || usable.isNone) ∧
      t.mode.mode =
        (if ¬ IsBay s.line.address then .starting
         else if readsAsserted s.inputs.kegPresent t.cfg.polarity 0 then .joining else .vacant) ∧
      t.mode.announceTimer = (if IsBay s.line.address then some 0 else s.mode.announceTimer) ∧
      t.line = s.line ∧ t.keg = s.keg ∧ t.inputs = s.inputs ∧ t.orders = s.orders ∧ t.timebase = s.timebase ∧
      (let inPlace : Bool := readsAsserted s.inputs.kegPresent t.cfg.polarity 0 && readsAsserted s.inputs.coupled t.cfg.polarity 1
       let leak := readsAsserted s.inputs.leak t.cfg.polarity 2
       let drip := readsAsserted s.inputs.drip t.cfg.polarity 3
       (inPlace = false ∧ s.program.underWay = true → t.program.state = .paused ∧
         t.program.reasons = { s.program.reasons with kegAbsent := true }) ∧
       (inPlace = true ∨ s.program.underWay = false →
         t.program.state = s.program.state ∧ t.program.reasons = s.program.reasons) ∧
       t.pressure.leak = (s.pressure.leak || leak) ∧
       t.notice.flags.getLsbD 0 = (s.notice.flags.getLsbD 0 || leak) ∧
       (leak = true → t.notice.seen.getLsbD 0 = false ∧ t.pressure.gasNeed = none ∧ t.driven.gasValve = false) ∧
       t.notice.flags.getLsbD 5 = (s.notice.flags.getLsbD 5 || drip) ∧ (drip = true → t.notice.seen.getLsbD 5 = false) ∧
       (∀ v, s.pressure.sensor = .good → s.pressure.sample = some v →
         t.pressure.tripped = (if (t.cfg.safetyLimit : Int) ≤ v then true
           else if v ≤ (t.cfg.safetyLimit : Int) - 20 then false else s.pressure.tripped))) ∧
      t.tx.holds (· == .notice) =
        (s.tx.holds (· == .notice) || (decide (IsBay s.line.address) && t.notice.enabled &&& t.notice.flags != 0)) ∧
      (t.mode.mode = .joining → SyncBegun t)

/-! ### The timebase -/

/-- A second event takes one reading of the beer probe and one of the pressure sensor, each judged by its valid range, and
counts towards the minute and the hour. Before the load begins no second event comes, and that the row then changes nothing is the
model's choice (log 7). With nothing left over (log 5) it counts: the pour seconds, the dry, foam and settle counts, with the
pulses of the second returned to 0; the drift timer by regime and in-band signal, as they stand after the sample; the silence ages;
the announce timer; the answer wait and the rest; and the starve timer of a record whose need is unmet and stands as it stood, while
one whose need is absent or met stands at 0. -/
def Obligations.SecondEventTakesSamples : Prop :=
  (∀ (probe pressure : Int) (s : State), s.power = .running →
    (s.load = .delay → exec (.secondEvent probe pressure) s = .next s) ∧
    (s.load ≠ .delay → ∃ t, exec (.secondEvent probe pressure) s = .next t ∧
      t.thermal.sample = some probe ∧
      t.thermal.probe = (if -100 ≤ probe ∧ probe ≤ 600 then .good else .fault) ∧
      t.pressure.sample = some pressure ∧
      t.pressure.sensor = (if 0 ≤ pressure ∧ pressure ≤ 400 then .good else .fault) ∧
      t.timebase = (if s.timebase.seconds < 59 then
          { s.timebase with seconds := s.timebase.seconds + 1, minuteDue := false, hourDue := false }
        else if s.timebase.minutes < 59 then
          { s.timebase with seconds := 0, minutes := s.timebase.minutes + 1, minuteDue := true, hourDue := false }
        else { s.timebase with seconds := 0, minutes := 0, minuteDue := true, hourDue := true }))) ∧
  (∀ (probe pressure : Int) (s : State), s.power = .running → s.load ≠ .delay → NothingLeftOver s →
    ∃ t, exec (.secondEvent probe pressure) s = .next t ∧
      t.pour = (match s.pour.state with
        | .idle => s.pour
        | .pouring => { s.pour with
            seconds := s.pour.seconds + 1
            dry := if s.pour.seconds + 1 ≤ 2 ∨ 0 < s.pour.pulses then 0 else min (s.pour.dry + 1) 3
            foam := if s.cfg.foamLimit < s.pour.pulses then min (s.pour.foam + 1) 2 else 0
            pulses := 0 }
        | .settling => { s.pour with settle := min (s.pour.settle + 1) 2, pulses := 0 }) ∧
      (t.thermal.regime ≠ .off → t.thermal.inBand = true → t.thermal.drift = 0 ∧ t.thermal.driftNoticed = false) ∧
      (t.thermal.regime ≠ .off → t.thermal.inBand = false →
        t.thermal.drift = min (s.thermal.drift + 1) (s.cfg.driftLimit * 60)) ∧
      (t.thermal.regime = .off → t.thermal.drift = s.thermal.drift) ∧
      t.mode = { s.mode with
        roster := s.mode.roster.map (fun r => { r with silence := min (r.silence + 1) 15 })
        announceTimer := s.mode.announceTimer.map (fun n => min (n + 1) 5)
        sync := match s.mode.sync.stage with
          | .listening => { s.mode.sync with wait := min (s.mode.sync.wait + 1) 2 }
          | .resting => { s.mode.sync with rest := min (s.mode.sync.rest + 1) 5 }
          | .noSync | .asking => s.mode.sync } ∧
      (∀ x, (let d := t.demand.get x
        let kind := d.pending.map Pending.kind
        (∀ n, d.need = some n → ¬ (s.mode.mode = .active ∧ d.standing = .granted n ∧ kind ≠ some .yield) →
          d.need = (s.demand.get x).need → kind = (s.demand.get x).pending.map Pending.kind →
          d.starve = min ((s.demand.get x).starve + 1) (s.cfg.starveLimit * 60)) ∧
        (d.need = none ∨ (s.mode.mode = .active ∧ kind ≠ some .yield ∧ kind ≠ some .claim ∧
            ∃ n, d.need = some n ∧ d.standing = .granted n) →
          d.starve = 0 ∧ d.starveNoticed = false))))

/-- A minute event at the program unit: outside RUNNING nothing counts; in band the elapsed of a step that is no RAMP rises; a
RAMP not yet reached moves its present target; a TIME step that has met its duration ends by R127; an ORDER step that has met its
duration for the first time becomes due, with STEP-DONE where the duration is above 0. Out of band neither elapsed nor ramp moves; a
RAMP counts elapsed from the minute after the one that reaches its target; the end condition, the ACTIVITY one among them, is tested
at every minute event while RUNNING, and in a RAMP once it is reached. An hour event moves the activity window by one hour; the
ACTIVITY end test that follows uses the moved window. -/
def Obligations.MinuteAndHourEventsAtTheProgram : Prop :=
  (∀ s : State, s.power = .running → s.timebase.minuteDue = true →
     (s.program.state ≠ .running →
       exec .minuteEvent s = .next { s with timebase := { s.timebase with minuteDue := false } }) ∧
     (∀ st, s.program.state = .running → s.program.currentStep = some st → s.thermal.inBand = true → st.kind ≠ .ramp →
       st.stepEnd = .time → min (s.program.elapsed + 1) 20160 < st.duration →
       exec .minuteEvent s = .next { s with
         timebase := { s.timebase with minuteDue := false }
         program := { s.program with elapsed := min (s.program.elapsed + 1) 20160 } }) ∧
     (∀ st r, s.program.state = .running → s.program.currentStep = some st → s.thermal.inBand = true → st.kind = .ramp →
       s.program.ramp = some r → r.reached = false →
       (let minutes := min (r.minutes + 1) 65535
        let tenths : Int := ((minutes * st.rate / 60 : Nat) : Int)
        let present := if r.start ≤ st.target then min (r.start + tenths) st.target else max (r.start - tenths) st.target
        present ≠ st.target →
        ∃ t, exec .minuteEvent s = .next t ∧ t.keg = s.keg ∧ t.notice = s.notice ∧
          t.program = { s.program with ramp := some ⟨r.start, present, minutes, false⟩ })) ∧
     (∀ st c, s.program.state = .running → s.program.currentStep = some st → s.program.current = some c →
       s.thermal.inBand = true → st.kind ≠ .ramp → st.stepEnd = .time → st.duration ≤ min (s.program.elapsed + 1) 20160 →
       ∃ t, exec .minuteEvent s = .next t ∧ StepEnded s t c st) ∧
     (∀ st, s.program.state = .running → s.program.currentStep = some st → s.thermal.inBand = true → st.kind ≠ .ramp →
       st.stepEnd = .order → st.duration ≤ min (s.program.elapsed + 1) 20160 →
       ∃ t, exec .minuteEvent s = .next t ∧
         t = { s with
           timebase := { s.timebase with minuteDue := false }
           program := { s.program with elapsed := min (s.program.elapsed + 1) 20160, due := true }
           notice := if s.program.due = false ∧ 0 < st.duration then s.notice.raised 0x0800 else s.notice
           tx := t.tx } ∧
         (s.program.due = true ∨ st.duration = 0 → t.tx = s.tx))) ∧
  (∀ (s : State) (st : StepRecord) (c : Nat), s.power = .running → s.timebase.minuteDue = true → s.program.state = .running →
     s.program.current = some c → s.program.currentStep = some st → (st.kind = .ramp → s.program.ramp.isSome = true) →
     (let moves : Bool := s.thermal.inBand && st.kind == .ramp && !s.program.ramp.any Ramp.reached
      let ramp : Option Ramp := if moves then s.program.ramp.map (rampMoved st) else s.program.ramp
      let elapsed := if s.thermal.inBand && !moves then min (s.program.elapsed + 1) 20160 else s.program.elapsed
      let met : Bool := (st.kind != .ramp || ramp.any Ramp.reached) && decide (st.duration ≤ elapsed)
      let ends := met = true ∧ (st.stepEnd = .time ∨
        (st.stepEnd = .activity ∧ (s.program.window.take st.hours).sum ≤ st.threshold))
      let due : Bool := met && st.stepEnd == .order
      let raised : Bool := due && !s.program.due && decide (0 < st.duration)
      (ends → ∃ t, exec .minuteEvent s = .next t ∧ StepEnded s t c st) ∧
      (¬ ends → ∃ tx : Tx,
        (let u : State := { s with
           timebase := { s.timebase with minuteDue := false }
           program := { s.program with ramp := ramp, elapsed := elapsed, due := s.program.due || due }
           notice := if raised then s.notice.raised 0x0800 else s.notice
           tx := tx }
         exec .minuteEvent s =
           .next (if ramp.map Ramp.present = s.program.ramp.map Ramp.present then u else u.thermalEval)) ∧
        (raised = false → tx = s.tx)))) ∧
  (∀ s : State, s.power = .running → s.timebase.hourDue = true →
     ∃ t, exec .hourEvent s = .next t ∧ t.timebase = { s.timebase with hourDue := false } ∧
       t.program.window = s.program.currentHour :: s.program.window.take 23 ∧
       (s.program.state ≠ .running → t = { s with
         timebase := { s.timebase with hourDue := false }
         program := { s.program with window := s.program.currentHour :: s.program.window.take 23, currentHour := 0 } }) ∧
       (∀ st c, s.program.state = .running → s.program.currentStep = some st → s.program.current = some c →
         st.stepEnd = .activity → st.kind ≠ .ramp → st.duration ≤ s.program.elapsed →
         (if ((s.program.currentHour :: s.program.window.take 23).take st.hours).sum ≤ st.threshold then StepEnded s t c st
          else t.program.current = some c ∧ t.program.currentHour = 0 ∧ t.keg = s.keg ∧ t.notice = s.notice)))

/-! ### The pins -/

/-- A pin that changes level starts its settling timer afresh, whether the part runs or not (log 10; with the settled level unknown,
log 37). An input whose timer reaches 20 ms takes the pin level; before the end of the load, or where the asserted value does not
change, that is all. INPUT_SETTLED says that the timer has reached 20 ms, and acts whatever the count reads (log 8). -/
def Obligations.PinsSettle : Prop :=
  (∀ (x : Input) (high : Bool) (s : State),
     exec (.pinChange x high) s = .next { s with
       inputs := s.inputs.set x
         (if (s.inputs.get x).pin = high then s.inputs.get x else ⟨high, (s.inputs.get x).settled, 0⟩) }) ∧
  (∀ (x : Input) (s : State), s.power = .running → (s.inputs.get x).settled ≠ some (s.inputs.get x).pin →
     (s.load ≠ .ended ∨ s.asserted x = ((s.inputs.get x).pin == s.cfg.polarity.getLsbD (inputBit x))) →
     exec (.inputSettled [x]) s = .next { s with
       inputs := s.inputs.set x ⟨(s.inputs.get x).pin, some (s.inputs.get x).pin, 0⟩ })

/-- A taken assertion of DRIP raises DRIP-FULL; a taken change of LEAK begins or ends the leak lockout, which raises LEAK, ends
the gas need and drives GAS-VALVE closed, and ends no pour. Where HANDLE and FILL-BUTTON are asserted together and the
preconditions hold, FRONT wins, and the displaced request is refused BUSY, whatever the free value of log 20 is. A request alone, of
HANDLE or of FILL-BUTTON, is accepted by R158, refused for the first precondition of R157 that fails, or refused BUSY while a pour is
in progress; in STARTING it is none. A deassertion of HANDLE ends a POURING pour of kind HANDLE RELEASE, and nothing else; those of
DRIP and FILL-BUTTON do nothing. COUPLED asserted has the pressure controller evaluate; deasserted, it ends the pour, pauses the
program and ends the gas need, and leaves the mode. -/
def Obligations.TakenInputsReachTheirOwners : Prop :=
  (∀ s : State, s.power = .running → s.load = .ended →
     (s.asserted .drip = false → s.inputs.drip.settled ≠ some s.inputs.drip.pin →
       s.inputs.drip.pin = s.cfg.polarity.getLsbD 3 →
       ∃ t, exec (.inputSettled [.drip]) s = .next t ∧ t.notice = s.notice.raised 0x0020 ∧
         t = { s with
           inputs := s.inputs.set .drip ⟨s.inputs.drip.pin, some s.inputs.drip.pin, 0⟩
           notice := t.notice
           tx := t.tx }) ∧
     (s.asserted .leak = false → s.inputs.leak.settled ≠ some s.inputs.leak.pin →
       s.inputs.leak.pin = s.cfg.polarity.getLsbD 2 →
       ∃ t, exec (.inputSettled [.leak]) s = .next t ∧ t.pressure.leak = true ∧ t.pressure.gasNeed = none ∧
         t.staged.gasValve = false ∧ t.driven.gasValve = false ∧ t.notice.flags.getLsbD 0 = true ∧
         t.notice.seen.getLsbD 0 = false ∧ t.pour = s.pour ∧ t.mode = s.mode ∧ t.thermal = s.thermal ∧ t.keg = s.keg) ∧
     (s.asserted .leak = true → s.inputs.leak.settled ≠ some s.inputs.leak.pin →
       ∃ t, exec (.inputSettled [.leak]) s = .next t ∧ t.pressure.leak = false ∧ t.pour = s.pour ∧ t.mode = s.mode ∧
         t.thermal = s.thermal ∧ t.keg = s.keg)) ∧
  (∀ s : State, s.power = .running → s.load = .ended → s.mode.mode ≠ .starting → s.pour.state = .idle →
     s.asserted .handle = false → s.inputs.handle.settled ≠ some s.inputs.handle.pin →
     s.inputs.handle.pin = s.cfg.polarity.getLsbD 4 →
     s.asserted .fillButton = false → s.inputs.fillButton.settled ≠ some s.inputs.fillButton.pin →
     s.inputs.fillButton.pin = s.cfg.polarity.getLsbD 5 → s.pourRefusal = none →
     ∃ t, exec (.inputSettled [.handle, .fillButton]) s = .next t ∧ t.pour.state = .pouring ∧
       t.pour.record = some ⟨.front, .handle, none, 0, none⟩ ∧ t.driven.frontValve = true ∧ t.driven.fillValve = false ∧
       t.keg = { s.keg with lastRefusal := some .busy } ∧ t.notice.flags.getLsbD 12 = true) ∧
  (∀ s : State,
     (let alone (x : Input) (o : Outlet) (k : PourKind) (portion : Option Nat) : Prop :=
        (let refused (r : PourRefusal) : Prop :=
           ∃ tx : Tx, exec (.inputSettled [x]) s = .next { settledAt s x with
             keg := { s.keg with lastRefusal := some r }, notice := s.notice.raised 0x1000, tx := tx }
         Asserts s x →
         (s.mode.mode = .starting → exec (.inputSettled [x]) s = .next (settledAt s x)) ∧
         (s.mode.mode ≠ .starting →
           (s.pour.state ≠ .idle → refused .busy) ∧
           (∀ r, s.pour.state = .idle → s.pourRefusal = some r → refused r) ∧
           (s.pour.state = .idle → s.pourRefusal = none →
             exec (.inputSettled [x]) s = .next (State.pressureEval (pourBegun (settledAt s x) o k portion)))))
      let cool := s.thermal.probe = .good ∧ ∃ v, s.thermal.sample = some v ∧ v ≤ s.cfg.serveMax
      let firm := s.pressure.sensor = .good ∧ ∃ v, s.pressure.sample = some v ∧ (s.cfg.serveMin : Int) ≤ v
      let inPlace := s.asserted .kegPresent = true ∧ s.asserted .coupled = true
      alone .handle .front .handle none ∧ alone .fillButton .fill .portion (some s.cfg.portion) ∧
      (s.keg.phase ≠ .serving → s.pourRefusal = some .notServing) ∧
      (s.keg.phase = .serving → ¬ inPlace → s.pourRefusal = some .notCoupled) ∧
      (s.keg.phase = .serving → inPlace → ¬ cool → s.pourRefusal = some .tooWarm) ∧
      (s.keg.phase = .serving → inPlace → cool → ¬ firm → s.pourRefusal = some .lowPressure) ∧
      (s.keg.phase = .serving → inPlace → cool → firm →
        s.pourRefusal = if s.keg.fill ≤ s.keg.dispensed then some .noBeer else none))) ∧
  (∀ s : State,
     (Deasserts s .handle →
       (s.pour.state = .pouring → s.pour.record.map OpenPour.kind = some .handle →
         exec (.inputSettled [.handle]) s = .next (State.pressureEval { settledAt s .handle with
           pour := { s.pour with
             state := .settling, settle := 0, record := s.pour.record.map (fun r => { r with reason := some .release }) }
           staged := { s.staged with frontValve := false, fillValve := false } })) ∧
       (s.pour.state ≠ .pouring ∨ s.pour.record.map OpenPour.kind ≠ some .handle →
         exec (.inputSettled [.handle]) s = .next (settledAt s .handle))) ∧
     (∀ x, x = .fillButton ∨ x = .drip → Deasserts s x → exec (.inputSettled [x]) s = .next (settledAt s x)) ∧
     (Asserts s .coupled → exec (.inputSettled [.coupled]) s = .next (settledAt s .coupled).pressureEval) ∧
     (Deasserts s .coupled → ∃ t, exec (.inputSettled [.coupled]) s = .next t ∧ KegGone s t ∧ t.mode = s.mode ∧
       t.share = s.share ∧ t.lease = s.lease))

/-- A keg lifted from an ACTIVE bay: the station goes VACANT with no table and no lease ages, a YIELD-ALL holds the share sort,
a POURING pour ends KEG-LOST, a program under way is PAUSED for KEG-ABSENT, and chill valve, heater, gas valve and both outlets
are driven closed. Lifted from a JOINING or DOUBTFUL bay it abandons the sync: VACANT, no table, the SYNC-ASK withdrawn, queued
or in flight (log 13), a YIELD-ALL left as it stood. In every other mode the lift leaves mode and table. A keg put into a VACANT
bay begins a sync, JOINING; in every other mode the pressure controller alone evaluates. -/
def Obligations.KegLiftLeavesThePlant : Prop :=
  (∀ s : State, s.power = .running → s.load = .ended → s.mode.mode = .active → s.asserted .kegPresent = true →
    s.inputs.kegPresent.settled ≠ some s.inputs.kegPresent.pin →
    ∃ t, exec (.inputSettled [.kegPresent]) s = .next t ∧ t.mode.mode = .vacant ∧ t.share = ⟨none, 0⟩ ∧
      t.lease = ⟨⟨[], [], []⟩, ⟨none, none, none⟩⟩ ∧ t.tx.holds (· == .yieldAll) = true ∧
      t.tx.holds TxFrame.ofActive = false ∧ t.pressure.gasNeed = none ∧
      t.driven.chillValve = false ∧ t.driven.heater = false ∧ t.driven.gasValve = false ∧
      (s.pour.state = .pouring → t.pour.state = .settling ∧ t.driven.frontValve = false ∧ t.driven.fillValve = false ∧
        t.pour.record = s.pour.record.map (fun r => { r with reason := some .kegLost })) ∧
      (s.pour.state ≠ .pouring → t.pour = s.pour) ∧
      (s.program.underWay = true → t.program.state = .paused ∧ t.program.reasons.kegAbsent = true ∧
        t.program.current = s.program.current ∧ t.program.elapsed = s.program.elapsed) ∧
      (s.program.underWay = false → t.program.state = s.program.state) ∧
      t.keg = s.keg ∧ t.line = s.line ∧ t.orders = s.orders) ∧
  (∀ s : State,
     (Deasserts s .kegPresent → s.mode.mode = .joining ∨ s.mode.mode = .doubtful →
       ∃ t, exec (.inputSettled [.kegPresent]) s = .next t ∧ KegGone s t ∧ t.mode.mode = .vacant ∧ t.share = ⟨none, 0⟩ ∧
         t.lease.ages = ⟨[], [], []⟩ ∧ t.mode.sync = ⟨.noSync, 0, false, 0, 0⟩ ∧ t.mode.announceTimer = some 0 ∧
         t.tx.holds (· == .syncAsk) = false ∧ t.tx.holds (· == .yieldAll) = s.tx.holds (· == .yieldAll) ∧
         t.driven.chillValve = false ∧ t.driven.heater = false) ∧
     (Deasserts s .kegPresent → s.mode.mode = .starting ∨ s.mode.mode = .vacant ∨ s.mode.mode = .muted →
       ∃ t, exec (.inputSettled [.kegPresent]) s = .next t ∧ KegGone s t ∧ t.mode = s.mode ∧ t.share = s.share ∧
         t.lease = s.lease) ∧
     (Asserts s .kegPresent → s.mode.mode = .vacant →
       ∃ t, exec (.inputSettled [.kegPresent]) s = .next t ∧ t.mode.mode = .joining ∧ SyncBegun t ∧
         t.lease.ages = ⟨[], [], []⟩ ∧ t.pour = s.pour ∧ t.keg = s.keg ∧ t.program.state = s.program.state ∧
         t.program.reasons = s.program.reasons ∧ t.line = s.line ∧ t.orders = s.orders) ∧
     (Asserts s .kegPresent → s.mode.mode ≠ .vacant →
       exec (.inputSettled [.kegPresent]) s = .next (settledAt s .kegPresent).pressureEval))

/-- A meter pulse in IDLE is discarded; in POURING or SETTLING it adds one to the pulses of the second and 1000 to the
remainder, and each k of the remainder meters one millilitre into the pour and the keg record. Metering that raises the dispensed
volume and leaves the remaining volume below the low mark, for the first time, sets the low mark passed and raises KEG-LOW; no other
flag is raised where the relief law of EveryStepKeepsTheThermalAndReliefLaws holds. -/
def Obligations.MeterPulseMetersMillilitres : Prop :=
  ∀ s : State, s.power = .running →
    (s.pour.state = .idle → exec .meterPulse s = .next s) ∧
    (s.pour.state ≠ .idle → s.pour.remainder + 1000 < s.cfg.flowK →
      exec .meterPulse s = .next { s with
        pour := { s.pour with pulses := s.pour.pulses + 1, remainder := s.pour.remainder + 1000 } }) ∧
    (∀ r, s.pour.state ≠ .idle → s.pour.record = some r → s.cfg.flowK ≤ s.pour.remainder + 1000 →
      s.pour.remainder + 1000 < 2 * s.cfg.flowK →
      ∃ t, exec .meterPulse s = .next t ∧ t.pour.remainder = s.pour.remainder + 1000 - s.cfg.flowK ∧
        t.pour.pulses = s.pour.pulses + 1 ∧ t.pour.record.map OpenPour.volume = some (r.volume + 1) ∧
        t.keg.fill = s.keg.fill ∧
        (let low := s.keg.dispensed < s.keg.fill ∧
           s.keg.fill - (s.keg.dispensed + 1) < s.keg.fill * s.cfg.lowMark / 100 ∧ s.keg.lowPassed = false
         (low → t.keg.lowPassed = true ∧ t.notice.flags.getLsbD 8 = true ∧ t.notice.seen.getLsbD 8 = false) ∧
         (¬ low → t.keg.lowPassed = s.keg.lowPassed ∧ t.notice.flags.getLsbD 8 = s.notice.flags.getLsbD 8 ∧
           t.notice.seen.getLsbD 8 = s.notice.seen.getLsbD 8) ∧
         (reliefLaw s = true → t.notice = if low then s.notice.raised 0x0100 else s.notice)) ∧
        EvaluationsOnly { s with pour := t.pour, keg := t.keg, staged := t.staged } t ∧
        (s.keg.dispensed < s.keg.fill → t.keg.dispensed = s.keg.dispensed + 1 ∧ t.keg.unaccounted = s.keg.unaccounted) ∧
        (s.keg.fill ≤ s.keg.dispensed →
          t.keg.dispensed = s.keg.dispensed ∧ t.keg.unaccounted = min (s.keg.unaccounted + 1) 65535) ∧
        (s.pour.state = .settling → t.pour.state = .settling ∧ t.staged = s.staged) ∧
        (s.pour.state = .pouring → r.portion = some (r.volume + 1) →
          t.pour.state = .settling ∧ t.pour.record.bind OpenPour.reason = some .portionMet ∧
            t.driven.frontValve = false ∧ t.driven.fillValve = false) ∧
        (s.pour.state = .pouring → r.portion ≠ some (r.volume + 1) → r.volume + 1 = 2000 →
          t.pour.state = .settling ∧ t.pour.record.bind OpenPour.reason = some .limit) ∧
        (s.pour.state = .pouring → r.portion ≠ some (r.volume + 1) → r.volume + 1 ≠ 2000 →
          t.pour.state = .pouring ∧ t.staged = s.staged))

/-! ### The line -/

/-- Line idle and a break with no header lead to IDLE and a new round; a low of 11 bit times leads from HUNT or IDLE to BREAK and
ends the round; a shorter low in IDLE leads to HUNT. Nothing is counted. -/
def Obligations.ReceiverFollowsIdleBreakAndStub : Prop :=
  ∀ s : State, s.power = .running →
    (s.line.rx = .hunt ∨ s.line.rx = .inBreak →
      exec .lineIdle s = .next { s with line := { s.line with rx := .idle, round := some ⟨0, false⟩ } }) ∧
    (s.line.rx = .hunt ∨ s.line.rx = .idle →
      exec .breakSeen s = .next { s with line := { s.line with rx := .inBreak, round := none } }) ∧
    (s.line.rx = .idle → exec .stub s = .next { s with line := { s.line with rx := .hunt, round := none } }) ∧
    (s.line.rx = .inBreak →
      exec .stub s = .next { s with line := { s.line with rx := .idle, round := some ⟨0, false⟩ } }) ∧
    (s.line.rx = .hunt → exec .stub s = .next s)

/-- A frame that ends at line idle with no noisy character, no false start, no framing error, the right length character and the
right check character is taken in hand where the handler has no frame, else enters the receive queue of four, with the own mark
if it is the own completed frame; where four frames stand there, it is lost: the overrun is counted and the suspect mark set, at
once or after the frame in hand (R94, log 38), the queue unchanged. A clean header of another sender clears the spent mark; a new
round begins. -/
def Obligations.FrameThatChecksOutIsQueued : Prop :=
  ∀ (s : State) (chars : List RxChar) (h k l c : Byte) (body : List Byte), s.power = .running → s.line.rx = .inBreak →
    (∀ ch ∈ chars, charNoisy ch = false ∧ charFraming ch = false) →
    chars.map charValue = h :: k :: l :: (body ++ [c]) → body.length ≤ 40 → l.toNat = body.length →
    c = checkChar (h :: k :: l :: body) →
    (let line : Line := { s.line with
       rx := .idle, round := some ⟨0, false⟩, ownAwaited := none
       spent := s.line.spent && (h.toNat % 16 == s.line.address) }
     let e : RxEntry := ⟨h.toNat / 16, h.toNat % 16, k, body, s.line.ownAwaited.isSome⟩
     (s.handler.inHand = none → s.line.rxQueue = [] →
       exec (.frameEnd false chars) s = .next { s with line := line, handler := { s.handler with inHand := some e } }) ∧
     (∀ q, s.handler.inHand = some q → s.line.rxQueue.length < 4 →
       exec (.frameEnd false chars) s = .next { s with line := { line with rxQueue := s.line.rxQueue ++ [e] } }) ∧
     (∀ q, s.handler.inHand = some q → 4 ≤ s.line.rxQueue.length →
       (let u : State := { s with line := { line with overruns := min (s.line.overruns + 1) 255 } }
        ∃ t, exec (.frameEnd false chars) s = .next t ∧ t.line = u.line ∧ t.handler = s.handler ∧ MarkSet u t ∧
          (NoClearInHand u → SettingActedOn u t))))

/-- A broken frame of another station, or one that fails a test at line idle, is discarded: counted and suspected if its header was
clean, and passed over if it was not. A break inside it leads to BREAK, a framing error or a 45th character to HUNT, line idle to
IDLE. -/
def Obligations.DiscardedFramesAreCountedIfClean : Prop :=
  ∀ (s : State) (chars : List RxChar), s.power = .running → s.line.rx = .inBreak → s.line.ownAwaited = none →
    (∀ (cause : BreakCause) (falseStart : Bool),
      (let line : Line := { s.line with rx := if cause = .breakInside then .inBreak else .hunt, round := none }
       let u : State := { s with line := { line with broken := min (s.line.broken + 1) 255 } }
       (headerClean chars = false → exec (.frameBroken cause falseStart chars) s = .next { s with line := line }) ∧
       (headerClean chars = true →
         ∃ t, exec (.frameBroken cause falseStart chars) s = .next t ∧ t.line = u.line ∧ MarkSet u t ∧
           (NoClearInHand u → SettingActedOn u t)))) ∧
    (∀ falseStart : Bool,
      (falseStart = true ∨ (∃ ch ∈ chars, charNoisy ch = true) ∨ chars.length < 4 ∨
        (chars.map charValue)[2]?.map BitVec.toNat ≠ some (chars.length - 4) ∨
        (chars.map charValue).getLast? ≠ some (checkChar (chars.map charValue).dropLast)) →
      (headerClean chars = false → exec (.frameEnd falseStart chars) s = .next { s with
        line := { s.line with rx := .idle, round := some ⟨0, false⟩ } }) ∧
      (headerClean chars = true →
        (let u : State := { s with
           line := { s.line with
             rx := .idle, round := some ⟨0, false⟩, broken := min (s.line.broken + 1) 255
             spent := s.line.spent && (chars.head?.map (fun ch => (charValue ch).toNat % 16) == some s.line.address) } }
         ∃ t, exec (.frameEnd falseStart chars) s = .next t ∧ t.line = u.line ∧ MarkSet u t ∧
           (NoClearInHand u → SettingActedOn u t))))

/-- The own completed frame that the own receiver discards, its header clean or not (log 33): the broken frame is counted only if
the header was clean, the suspect mark is set, and the owner is told. A SENT share frame of that kind leaves its demand record
and, in ACTIVE, is asked for again where need and standing still call for it (R64); the expiry record of a SENT EXPIRE ends; the
owner of a frame of any other kind is told nothing. The clauses on the owner are stated where the mark moves no mode. -/
def Obligations.OwnFrameDiscardedByItsOwnReceiver : Prop :=
  ∀ (s : State) (q : TxEntry) (chars : List RxChar) (cause : BreakCause) (falseStart : Bool), s.power = .running →
    s.line.rx = .inBreak → s.line.ownAwaited = some q →
    (let line : Line := { s.line with
       rx := if cause = .breakInside then .inBreak else .hunt, round := none, ownAwaited := none
       broken := if headerClean chars then min (s.line.broken + 1) 255 else s.line.broken }
     (∃ t, exec (.frameBroken cause falseStart chars) s = .next t ∧ t.line = line ∧ MarkSet s t) ∧
     (falseStart = true ∨ (∃ ch ∈ chars, charNoisy ch = true) ∨ chars.length < 4 →
       ∃ t, exec (.frameEnd falseStart chars) s = .next t ∧ MarkSet s t ∧ t.line.ownAwaited = none ∧ t.line.rx = .idle ∧
         t.line.broken = line.broken ∧ t.line.rxQueue = s.line.rxQueue) ∧
     (NoClearInHand s → s.mode.mode = .active → HasLowerActive s.line.address s.mode.roster →
       ∃ t, exec (.frameBroken cause falseStart chars) s = .next t ∧
         t = { marked s with line := line, demand := t.demand, lease := t.lease, tx := t.tx } ∧
         (q.frame = .announce ∨ q.frame = .notice ∨ q.frame = .yieldAll ∨ q.frame = .syncAsk ∨
             (∃ asker x, q.frame = .syncTable asker x) ∨ (∃ body, q.frame = .answer body) →
           t.demand = s.demand ∧ t.lease = s.lease ∧ t.tx = s.tx) ∧
         (∀ x target count r, q.frame = .expire x target count → s.lease.expiry.get x = some r → r.sent = true →
           t.demand = s.demand ∧ t.tx = s.tx ∧ t.lease = { s.lease with expiry := s.lease.expiry.set x none }) ∧
         (∀ x k n, q.frame = shareFrame x k → (s.demand.get x).pending = some ⟨k, .sent⟩ → (s.demand.get x).need = some n →
           (s.demand.get x).standing = .absent →
           t.lease = s.lease ∧ AskedFor s.tx x .claim ⟨t.demand.get x, t.tx⟩) ∧
         (∀ x k, q.frame = shareFrame x k → (s.demand.get x).pending = some ⟨k, .sent⟩ → (s.demand.get x).need = none →
           (s.demand.get x).standing ≠ .absent →
           t.lease = s.lease ∧ AskedFor s.tx x .yield ⟨t.demand.get x, t.tx⟩) ∧
         (∀ x k, q.frame = shareFrame x k → (s.demand.get x).pending = some ⟨k, .sent⟩ → (s.demand.get x).need = none →
           (s.demand.get x).standing = .absent →
           t.lease = s.lease ∧ (t.demand.get x).pending = none ∧ t.tx = s.tx)))

/-- At the beginning of a slot with the wire high the station sends the head of its transmit queue where the slot is the head's
and every condition of R11 holds; where the slot is the head's and a condition fails it gives up the round; otherwise the slot
passes. A wire found low has fallen, and so has one that the station has driven since its own slot, which ends the round for
every station (R10, log 31); a send leaves the round to that fall. The frame in flight is header, kind, length, body and check.
The bodies are those of R27 to R29, composed from the state as it stands, or as fixed at queuing; the table digest is the check
over the digest form. -/
def Obligations.SlotBeginSendsTheHead : Prop :=
  (∀ (s : State) (r : Round), s.power = .running → s.line.round = some r → r.next < 48 →
    exec (.slotBegin false) s = .next { s with line := { s.line with round := none } } ∧
    (s.tx.inFlight ≠ none → exec (.slotBegin true) s = .next { s with line := { s.line with round := none } }) ∧
    (s.tx.inFlight = none → s.tx.queue = [] → exec (.slotBegin true) s = .next { s with
      line := { s.line with round := some { r with next := r.next + 1 } } }) ∧
    (∀ e rest, s.tx.inFlight = none → s.tx.queue = e :: rest →
      (r.next ≠ e.frame.urgency * 12 + (s.line.address - 1) → exec (.slotBegin true) s = .next { s with
        line := { s.line with round := some { r with next := r.next + 1 } } }) ∧
      (r.next = e.frame.urgency * 12 + (s.line.address - 1) →
        (r.barred = false ∧ s.line.rxQueue = [] ∧ s.handler.inHand = none ∧ IsBay s.line.address ∧
          (e.frame.urgency ≤ 1 ∨ s.line.spent = false) →
          (let front := [nat8 (e.frame.urgency * 16 + s.line.address), e.frame.kind.code, nat8 (s.bodyOf e.frame).length] ++
             s.bodyOf e.frame
           exec (.slotBegin true) s = .next { s with
             tx := { s.tx with queue := rest, inFlight := some ⟨e, false, front ++ [checkChar front]⟩ }
             line := { s.line with round := some { r with next := r.next + 1 } } })) ∧
        (r.barred = true ∨ s.line.rxQueue ≠ [] ∨ s.handler.inHand ≠ none ∨ ¬ IsBay s.line.address ∨
          (2 ≤ e.frame.urgency ∧ s.line.spent = true) →
          exec (.slotBegin true) s = .next { s with line := { s.line with round := some ⟨r.next + 1, true⟩ } })))) ∧
  (∀ s : State,
    (let code : Resource → Byte := fun x => match x with
       | .chill => 0x01
       | .gas => 0x02
       | .heat => 0x03
     let entry (state : Nat) (g : Entry) : List Byte := [nat8 g.bay, nat8 g.amount, nat8 (g.cls.rank + 128 * state), g.renewCount]
     let digested (state : Byte) (g : Entry) : List Byte := [nat8 g.bay, nat8 g.amount, nat8 g.cls.rank, state, g.renewCount]
     (∀ x, s.bodyOf (.renew x) = [code x] ∧ s.bodyOf (.yield x) = [code x] ∧
       (∀ n, (s.demand.get x).need = some n → s.bodyOf (.claim x) = [code x, nat8 n.amount, nat8 n.cls.rank]) ∧
       (∀ target count, s.bodyOf (.expire x target count) = [nat8 target, code x, count]) ∧
       (∀ asker t, s.share.table = some t → s.bodyOf (.syncTable asker x) =
         [nat8 asker, code x] ++ bytes16 s.share.changeCount ++
           [nat8 (t.get x).grants.length, nat8 (t.get x).waits.length] ++
           ((t.get x).grants.flatMap (entry 1) ++ (t.get x).waits.flatMap (entry 0)))) ∧
     s.bodyOf .yieldAll = [0x0F] ∧ s.bodyOf .syncAsk = [] ∧ (∀ body, s.bodyOf (.answer body) = body) ∧
     (∃ summary : Byte,
       s.bodyOf .announce =
         [nat8 (reasonCode s.mode.startReason * 16 + modeCode s.mode.mode), phaseCode s.keg.phase, progCode s.program.state] ++
         (if s.mode.mode = .active then bytes16 s.share.changeCount ++ bytes16 s.share.digest else [0, 0, 0, 0]) ++
         bytes16 s.mode.configDigest ++ [summary] ∧
       s.bodyOf .notice = bytes16 s.notice.flags ++ [summary] ∧
       ((∀ i, i < 15 → (s.notice.flags &&& s.notice.enabled).getLsbD i = false) → summary = 0) ∧
       (∀ i, i < 15 → (s.notice.flags &&& s.notice.enabled).getLsbD i = true →
         (∀ j, j < i → (s.notice.flags &&& s.notice.enabled).getLsbD j = false) → summary = nat8 (i + 1))) ∧
     (∀ t, s.share.table = some t → s.share.digest = check16
       ([Resource.chill, .gas, .heat].flatMap (fun x =>
         code x :: ((t.get x).grants.flatMap (digested 1) ++ (t.get x).waits.flatMap (digested 0)))))))

/-- A quiet window clears the spent mark and begins a new round. A loss of arbitration, a released bit of the delimiter or the
header that read low, counts, ends the flight and gives the entry the first place among those of its urgency unless it was
withdrawn. A send fault, a bit after the header read other than sent or a driven low read high anywhere, ends the flight,
counts and returns the entry in the same way, and then sets the suspect mark, which acts by mode on the queue with the entry back
in it (log 23), at once or after the frame in hand (R94, log 38). Both end the round, which the fall of the lead-in break has ended;
a send fault in the first bit, whose wire has not fallen, leaves the round running (R10, log 31). -/
def Obligations.QuietWindowLostArbitrationSendFault : Prop :=
  (∀ s : State, s.power = .running →
     (∀ barred, s.line.round = some ⟨48, barred⟩ →
       exec .quietWindow s = .next { s with line := { s.line with spent := false, round := some ⟨0, false⟩ } }) ∧
     (∀ (f : InFlight) (bit : Nat), s.tx.inFlight = some f → 14 ≤ bit → bit < 26 →
       (frameLevels f.chars)[bit]? = some true →
       exec (.lostArbitration bit) s = .next { s with
         line := { s.line with round := none, lostArbs := min (s.line.lostArbs + 1) 255 }
         tx := { s.tx with
           inFlight := none
           queue := if f.withdrawn then s.tx.queue else
             s.tx.queue.takeWhile (fun q => decide (q.frame.urgency < f.entry.frame.urgency)) ++
               f.entry :: s.tx.queue.dropWhile (fun q => decide (q.frame.urgency < f.entry.frame.urgency)) } })) ∧
  (∀ (s : State) (f : InFlight) (bit : Nat) (level : Bool), s.power = .running → s.tx.inFlight = some f →
     (frameLevels f.chars)[bit]? = some level → (level = false ∨ 26 ≤ bit) →
     (let u : State := { s with
        line := { s.line with round := if bit = 0 then s.line.round else none, sendFaults := min (s.line.sendFaults + 1) 255 }
        tx := { s.tx with
          inFlight := none
          queue := if f.withdrawn then s.tx.queue else
            s.tx.queue.takeWhile (fun q => decide (q.frame.urgency < f.entry.frame.urgency)) ++
              f.entry :: s.tx.queue.dropWhile (fun q => decide (q.frame.urgency < f.entry.frame.urgency)) } }
      ∃ t, exec (.sendFault bit) s = .next t ∧ t.tx.inFlight = none ∧ MarkSet u t ∧ t.line = u.line ∧ t.handler = s.handler ∧
        t.keg = s.keg ∧ t.orders = s.orders ∧ (NoClearInHand u → SettingActedOn u t)))

/-- An own frame that goes out whole leaves the transmit queue, sets the spent mark and awaits the own receiver, the round
having ended at the fall of its lead-in break (log 31); its owner is told. A CLAIM, RENEW or YIELD that is the record's pending
frame IN-QUEUE moves it to SENT; word of any other one, of one that was withdrawn or that is no longer the pending frame, moves
nothing. An EXPIRE's record reaches SENT unless it was withdrawn. A SYNC-ASK, withdrawn or not (log 21), starts the answer wait
while ASKING and moves nothing at any other stage. An ANSWER lowers the pending count and, after the DONE to RESTART-BAY, makes
the ORDERED start due (log 9). The owners of an ANNOUNCE, a NOTICE, a YIELD-ALL and a SYNC-TABLE act on no word of it. -/
def Obligations.FrameCompleteTellsTheOwner : Prop :=
  ∀ (s : State) (f : InFlight), s.power = .running → s.tx.inFlight = some f →
    (let u : State := { s with
       tx := { s.tx with inFlight := none }
       line := { s.line with round := none, spent := true, ownAwaited := some f.entry } }
     (f.entry.frame = .announce ∨ f.entry.frame = .notice ∨ f.entry.frame = .yieldAll ∨
         (∃ asker x, f.entry.frame = .syncTable asker x) →
       exec .frameComplete s = .next u) ∧
     (∀ x k, f.entry.frame = shareFrame x k →
       (f.withdrawn = false → (s.demand.get x).pending = some ⟨k, .inQueue⟩ →
         exec .frameComplete s = .next { u with
           demand := s.demand.set x { s.demand.get x with pending := some ⟨k, .sent⟩ } }) ∧
       (f.withdrawn = true ∨ (s.demand.get x).pending ≠ some ⟨k, .inQueue⟩ → exec .frameComplete s = .next u)) ∧
     (∀ x target count, f.entry.frame = .expire x target count →
       (∀ r, f.withdrawn = false → s.lease.expiry.get x = some r →
         exec .frameComplete s = .next { u with
           lease := { s.lease with expiry := s.lease.expiry.set x (some { r with sent := true }) } }) ∧
       (f.withdrawn = true ∨ s.lease.expiry.get x = none → exec .frameComplete s = .next u)) ∧
     (f.entry.frame = .syncAsk →
       (s.mode.sync.stage = .asking →
         exec .frameComplete s = .next { u with
           mode := { s.mode with sync := { s.mode.sync with stage := .listening, wait := 0 } } }) ∧
       (s.mode.sync.stage ≠ .asking → exec .frameComplete s = .next u)) ∧
     (∀ body, f.entry.frame = .answer body → (s.orders.restartMark = false ∨ ∀ d, body ≠ [d, 0x3F, 0x00]) →
       exec .frameComplete s = .next { u with
         orders := { s.orders with pendingAnswers := s.orders.pendingAnswers - 1 } }) ∧
     (∀ d, f.entry.frame = .answer [d, 0x3F, 0x00] → s.orders.restartMark = true →
       exec .frameComplete s = .next { u with
         orders := { s.orders with pendingAnswers := s.orders.pendingAnswers - 1 }, power := .restarting }))

/-! ### The frame in hand -/

/-- A frame that fails a test of R25 is discarded and counted by the first test it fails; the suspect mark is set and acted on, the
roster is not refreshed. A NOTICE, an ANSWER or an ORDER for another station is handed to no block: it refreshes its sender's
roster entry and does nothing else. The handler then takes the oldest frame of the receive queue. -/
def Obligations.FramesNoBlockTakes : Prop :=
  (∀ (s : State) (e : RxEntry), s.power = .running → s.handler.inHand = some e →
     (let counted (h : Handler) : Prop :=
        (let u : State := { s with
           line := { s.line with rxQueue := s.line.rxQueue.tail }, handler := { h with inHand := s.line.rxQueue.head? } }
         ∃ t, exec .frameRejected s = .next t ∧ t.handler = u.handler ∧ t.line = u.line ∧ t.mode.suspect = true ∧
           t.mode.roster = s.mode.roster ∧ SettingActedOn u t)
      let badSender := e.sender = 0 ∨ 13 ≤ e.sender ∨ (e.sender = s.line.address ∧ e.own = false)
      (kindOf e.kind = none → counted { s.handler with unknownKind := min (s.handler.unknownKind + 1) 255 }) ∧
      (∀ k, kindOf e.kind = some k → (e.urgency ≠ k.urgency ∨ badSender) →
        counted { s.handler with badHeader := min (s.handler.badHeader + 1) 255 }) ∧
      (∀ k, kindOf e.kind = some k → e.urgency = k.urgency → ¬ badSender → k.lengthOk e.body = false →
        counted { s.handler with badLength := min (s.handler.badLength + 1) 255 }) ∧
      (∀ k, kindOf e.kind = some k → e.urgency = k.urgency → ¬ badSender → k.lengthOk e.body = true →
        k.addressOk e.body = false → counted { s.handler with badAddress := min (s.handler.badAddress + 1) 255 }))) ∧
  (∀ (s : State) (e : RxEntry) (d : Byte) (rest : List Byte), rosterLaw s = true → e.own = false →
     e.sender ≠ s.line.address → d.toNat ≠ s.line.address → 1 ≤ d.toNat → d.toNat ≤ 12 →
     ((FrameInHand s e 0x3A 2 ∧ e.body.length = 3) ∨
       (FrameInHand s e 0x32 1 ∧ e.body = d :: rest ∧ 3 ≤ e.body.length ∧ e.body.length ≤ 27) ∨
       (FrameInHand s e 0x31 2 ∧ e.body = d :: rest ∧ 2 ≤ e.body.length ∧ e.body.length ≤ 18)) →
     ∃ t, exec .frameNoBlock s = .next t ∧
       t = { s with
         line := { s.line with rxQueue := s.line.rxQueue.tail }
         handler := { s.handler with inHand := s.line.rxQueue.head? }
         mode := { s.mode with roster := t.mode.roster } } ∧
       (∀ r, rosterOf e.sender s.mode.roster = some r → rosterOf e.sender t.mode.roster = some { r with silence := 0 }) ∧
       (rosterOf e.sender s.mode.roster = none →
         rosterOf e.sender t.mode.roster = some ⟨e.sender, none, 0, 0, 0, 0⟩) ∧
       (∀ a, a ≠ e.sender → rosterOf a t.mode.roster = rosterOf a s.mode.roster))

/-- A valid CLAIM, a RENEW, a YIELD and an EXPIRE act on the LIVE section they name by the rule of their kind, with the reports
to lease monitor and demand record (which ShareReportsReachTheRecords and LeaseAgesAndExpiryRecords spell out), count one change
if they changed it, and leave the other two sections as they were; the own EXPIRE ends its SENT expiry record (log 17). They
have no effect on the table where none is held or the section is UNRECEIVED, the own one leaving stage SENT all the same, nor
does an invalid CLAIM or an EXPIRE whose target is no bay; none at all where the sender is no keg station. A YIELD-ALL of a keg
station acts as a YIELD on each LIVE section in the order CHILL, GAS, HEAT, passes over an UNRECEIVED one, and counts one change
if it removed any entry. -/
def Obligations.ShareFramesActOnTheNamedSections : Prop :=
  (∀ (s : State) (e : RxEntry) (x : Resource),
    (let acts (c : Instr) (kind : Option PendKind) (eff : Section → Effect) : Prop :=
       (let own := e.sender = s.line.address
        let ended (l : Lease) : Lease :=
          match l.expiry.get x with
          | some r => if own ∧ kind = none ∧ r.sent = true then { l with expiry := l.expiry.set x none } else l
          | none => l
        (IsBay e.sender → ∀ t sec, s.share.table = some t → t.get x = sec → sec.live = true →
          (let v := State.applyEffect (s.popFrame e) x (if own then kind else none) (eff sec)
           exec c s = .next { v with
             share := ⟨some (t.set x (eff sec).sec), if (eff sec).changed then s.share.changeCount + 1 else s.share.changeCount⟩
             lease := ended v.lease })) ∧
        (IsBay e.sender → (s.share.table = none ∨ ∃ t, s.share.table = some t ∧ (t.get x).live = false) →
          (own → ∃ u, exec c s = .next u ∧ u.share = s.share ∧ u.lease = ended s.lease ∧
            (∀ k, kind = some k → (u.demand.get x).pending ≠ some ⟨k, .sent⟩)) ∧
          (¬ own → exec c s = .next (s.popFrame e))) ∧
        (¬ IsBay e.sender → exec c s = .next (s.popFrame e)))
     (∀ (amount : Byte) (cls : Cls), FrameInHand s e 0x11 1 →
       e.body = [resourceCode x, amount, nat8 cls.rank] → 1 ≤ amount.toNat → amount.toNat ≤ poolOf s.cfg x →
       cls.belongs x = true →
       acts .claim (some .claim) (fun sec => claimIn (poolOf s.cfg x) sec e.sender amount.toNat cls)) ∧
     (∀ amount cls : Byte, FrameInHand s e 0x11 1 → e.body = [resourceCode x, amount, cls] →
       (amount = 0 ∨ poolOf s.cfg x < amount.toNat ∨ ∀ c : Cls, cls = nat8 c.rank → c.belongs x = false) →
       ∃ u, exec .claim s = .next u ∧ u.share = s.share ∧ u.lease = s.lease) ∧
     (FrameInHand s e 0x12 0 → e.body = [resourceCode x] →
       acts .renew (some .renew) (fun sec => renewIn (poolOf s.cfg x) sec e.sender)) ∧
     (FrameInHand s e 0x13 0 → e.body = [resourceCode x] →
       acts .yield (some .yield) (fun sec => yieldIn (poolOf s.cfg x) sec e.sender)) ∧
     (∀ target count : Byte, FrameInHand s e 0x14 0 → e.body = [target, resourceCode x, count] → IsBay target.toNat →
       acts .expire none (fun sec => expireIn (poolOf s.cfg x) sec target.toNat count)) ∧
     (∀ target count : Byte, FrameInHand s e 0x14 0 → e.body = [target, resourceCode x, count] → ¬ IsBay target.toNat →
       IsBay e.sender →
       exec .expire s = .next { s.popFrame e with
         lease := match s.lease.expiry.get x with
           | some r =>
             if e.sender = s.line.address ∧ r.sent = true then { s.lease with expiry := s.lease.expiry.set x none } else s.lease
           | none => s.lease }))) ∧
  (∀ (s : State) (e : RxEntry) (t : PerRes Section), FrameInHand s e 0x13 0 → e.body = [0x0F] → IsBay e.sender →
    s.share.table = some t →
    (let held (sec : Section) : Bool := sec.live && (sec.grants ++ sec.waits).any (fun g => g.bay == e.sender)
     let after (x : Resource) : Section :=
       if held (t.get x) then
         promote (poolOf s.cfg x) { t.get x with
           grants := (t.get x).grants.filter (fun g => g.bay != e.sender)
           waits := (t.get x).waits.filter (fun g => g.bay != e.sender) }
       else t.get x
     let one (x : Resource) (v : State) : State :=
       if (t.get x).live then
         v.applyEffect x (if e.sender = s.line.address then some .yield else none)
           (yieldIn (poolOf s.cfg x) (t.get x) e.sender)
       else v
     exec .yieldAll s = .next { one .heat (one .gas (one .chill (s.popFrame e))) with
       share := ⟨some ⟨after .chill, after .gas, after .heat⟩,
         if held t.chill || held t.gas || held t.heat then s.share.changeCount + 1 else s.share.changeCount⟩ }))

/-- What a share frame's effect on one section brings to the station (R55, R56): the section itself; the report to the lease
monitor; and one report to the demand record of that resource, by the own frame's kind or by the own entry's move, whose
application R62, R63 and R65 give, with R64 after it. A report sets standing and marks; R64 then asks, only in ACTIVE and with no
frame or a RENEW pending, for the frame its first matching case names. EXPIRED also withdraws a RENEW or YIELD that is QUEUED or
REQUESTED; FREED has a refused change claimed again once the free amount makes up the difference. -/
def Obligations.ShareReportsReachTheRecords : Prop :=
  (∀ (s : State) (x : Resource) (own : Option PendKind) (eff : Effect),
    (let v := s.applyEffect x own eff
     let l := LeaseTx.report ⟨s.lease, s.tx⟩ x eff.lease
     let share : Share := { s.share with table := s.share.table.map (fun t => t.set x eff.sec) }
     let before := s.share.standing s.line.address x
     let after := share.standing s.line.address x
     let report : Option Report :=
       match own, before, after with
       | some .claim, _, .granted n => some (if eff.refused then .refused else .granted n)
       | some .claim, _, .waiting n => some (if eff.refused then .refused else .waiting n)
       | some .claim, _, .absent => if eff.refused then some .refused else none
       | some .renew, _, _ => if eff.changed then some .renewed else none
       | some .yield, _, _ => some (.yielded eff.changed)
       | none, .granted _, .waiting _ => some .bumped
       | none, .waiting _, .granted _ => some .promoted
       | none, .granted _, .absent => some .expired
       | none, .waiting _, .absent => some .expired
       | none, _, _ =>
         if eff.freed then some (.freed (poolOf s.cfg x - (eff.sec.grants.map Entry.amount).sum)) else none
     let d := DemandTx.finish ⟨s.demand.get x, l.tx⟩ (s.mode.mode == .active) x own report
     v = { s with share := share, lease := l.lease, demand := s.demand.set x d.rcd, tx := d.tx })) ∧
  (∀ (r : DemandRec) (tx : Tx) (active : Bool) (x : Resource) (own : Option PendKind) (rep : Report),
    (let d := DemandTx.finish ⟨r, tx⟩ active x own (some rep)
     let pending := if own.any (fun k => r.pending == some ⟨k, .sent⟩) then none else r.pending
     d.rcd.need = r.need ∧
     (match rep with
      | .granted n => d.rcd.standing = .granted n ∧ d.rcd.resend = false ∧ d.rcd.lapse = r.lapse
      | .waiting n => d.rcd.standing = .waiting n ∧ d.rcd.resend = r.resend ∧ d.rcd.lapse = r.lapse
      | .refused => d.rcd.standing = r.standing ∧ d.rcd.resend = true ∧ d.rcd.lapse = r.lapse
      | .renewed => d.rcd.standing = r.standing ∧ d.rcd.resend = r.resend ∧ d.rcd.lapse = r.lapse
      | .yielded _ => d.rcd.standing = .absent ∧ d.rcd.resend = r.resend ∧ d.rcd.lapse = false
      | .bumped => (∀ n, r.standing = .granted n → d.rcd.standing = .waiting n) ∧ d.rcd.resend = false ∧ d.rcd.lapse = r.lapse
      | .promoted =>
        (∀ n, r.standing = .waiting n → d.rcd.standing = .granted n) ∧ d.rcd.resend = r.resend ∧ d.rcd.lapse = r.lapse
      | .expired => d.rcd.standing = .absent ∧ d.rcd.resend = r.resend ∧ d.rcd.lapse = false
      | .freed _ => d.rcd.standing = r.standing ∧ d.rcd.lapse = r.lapse) ∧
     (let wanted : Option PendKind :=
        if (d.rcd.lapse = true ∨ r.need = none) ∧ d.rcd.standing ≠ .absent then some .yield
        else
          match r.need, d.rcd.standing with
          | some _, .absent => some .claim
          | some n, .waiting m => if m = n then none else some .claim
          | some n, .granted m => if m = n ∨ d.rcd.resend = true then none else some .claim
          | none, _ => none
      let reconciled (pending : Option Pending) (tx : Tx) : Prop :=
        (active = true ∧ (pending = none ∨ pending.map Pending.kind = some .renew) →
          (∀ k, wanted = some k → AskedFor tx x k d) ∧ (wanted = none → d.rcd.pending = pending ∧ d.tx = tx)) ∧
        (¬ (active = true ∧ (pending = none ∨ pending.map Pending.kind = some .renew)) → d.rcd.pending = pending ∧ d.tx = tx)
      (∀ free n g, rep = .freed free → active = true → r.need = some n → r.standing = .granted g → pending = none →
        r.resend = true → n.amount ≤ free + g.amount → AskedFor tx x .claim d ∧ d.rcd.resend = false) ∧
      (∀ free, rep = .freed free →
        ¬ (active = true ∧ r.resend = true ∧ pending = none ∧
          ∃ n g, r.need = some n ∧ r.standing = .granted g ∧ n.amount ≤ free + g.amount) →
        d.rcd.resend = r.resend ∧ reconciled pending tx) ∧
      (rep = .expired →
        (∀ k, k ≠ .claim → pending = some ⟨k, .requested⟩ → reconciled none tx) ∧
        (∀ k, k ≠ .claim → pending = some ⟨k, .inQueue⟩ → tx.queues (TxFrame.keyedTo x) = true →
          reconciled none (tx.withdraw (TxFrame.keyedTo x))) ∧
        (pending = none ∨ pending.map Pending.kind = some .claim ∨ pending.map Pending.stage = some .sent →
          reconciled pending tx)) ∧
      ((∀ free, rep ≠ .freed free) → rep ≠ .expired → reconciled pending tx))))

/-- The lease ages (R55, R69): CREATED and RENEWED start an age at zero, REMOVED drops it, nothing else touches one, and each second
event adds one to every age, up to 750. The expiry record (R73): a RENEWED report of its target with another renew count
withdraws the EXPIRE and ends the record; a REMOVED report of its target withdraws one still QUEUED and ends it; any other
report leaves it. The second event is stated where no table is given up at it: the suspect mark is clear in ACTIVE, and no answer
wait ends in a sync. -/
def Obligations.LeaseAgesAndExpiryRecords : Prop :=
  (∀ (l : LeaseTx) (x : Resource) (rep : LeaseReport),
    (let u := l.report x rep
     let ages := u.lease.ages.get x
     let was := l.lease.ages.get x
     (∀ y, y ≠ x → u.lease.ages.get y = l.lease.ages.get y ∧ u.lease.expiry.get y = l.lease.expiry.get y) ∧
     (∀ b, (rep = .created b ∨ ∃ n, rep = .renewed b n) →
       ageOf b ages = some 0 ∧ ∀ a, a ≠ b → ageOf a ages = ageOf a was) ∧
     (∀ b, rep = .removed b → ageOf b ages = none ∧ ∀ a, a ≠ b → ageOf a ages = ageOf a was) ∧
     (rep = .unaffected → u = l) ∧
     (∀ b n r, rep = .renewed b n → l.lease.expiry.get x = some r → r.target = b → r.count ≠ n →
       u.lease.expiry.get x = none ∧ u.tx = l.tx.withdraw (TxFrame.isExpire x)) ∧
     (∀ b r, rep = .removed b → l.lease.expiry.get x = some r → r.target = b →
       u.lease.expiry.get x = none ∧
         u.tx = { l.tx with queue := l.tx.queue.filter (fun q => !TxFrame.isExpire x q.frame) }) ∧
     (¬ (∃ b n r, rep = .renewed b n ∧ l.lease.expiry.get x = some r ∧ r.target = b ∧ r.count ≠ n) →
       ¬ (∃ b r, rep = .removed b ∧ l.lease.expiry.get x = some r ∧ r.target = b) →
       u.lease.expiry = l.lease.expiry ∧ u.tx = l.tx))) ∧
  (∀ (s : State) (probe pressure : Int), s.power = .running → s.load ≠ .delay →
    (s.mode.mode = .active → s.mode.suspect = false) →
    (s.mode.mode = .joining ∨ s.mode.mode = .doubtful → s.mode.sync.stage ≠ .listening ∨ s.mode.sync.wait ≠ 2) →
    ∃ t, exec (.secondEvent probe pressure) s = .next t ∧ t.share = s.share ∧
      t.lease = { s.lease with ages := s.lease.ages.map (fun l => l.map (fun p => (p.1, min (p.2 + 1) 750))) })

/-- A publication that differs from the need held, by the demand state (R61): the frame asked for, replaced, updated in place or
withdrawn. A CLAIM updated while QUEUED, REQUESTED or SENT stands, one in flight is replaced; a frame that is QUEUED or
REQUESTED can be withdrawn. A change of amount or class clears the resend mark in every demand state (log 16). Outside ACTIVE
the need alone changes. Every REQUESTED frame is asked for again at a second event (R66): after it, one stands REQUESTED only
while a YIELD-ALL holds the sort. -/
def Obligations.ChangesOfNeedAndRetries : Prop :=
  (∀ (r : DemandRec) (tx : Tx) (active : Bool) (x : Resource) (need : Option Need),
    (let d := DemandTx.publish ⟨r, tx⟩ active x need
     let e : DemandTx := ⟨r, tx⟩
     let state := demandState true r
     let claimed := r.pending.map Pending.kind = some .claim
     let recalled := r.pending.map Pending.stage = some .requested ∨
       (r.pending.map Pending.stage = some .inQueue ∧ tx.queues (TxFrame.keyedTo x) = true)
     let withdrawn : Prop := d.rcd.pending = none ∧
       d.tx = if r.pending.map Pending.stage = some .inQueue then tx.withdraw (TxFrame.keyedTo x) else tx
     let updated : Prop := d.rcd.pending = r.pending ∧
       d.tx = if r.pending.map Pending.stage = some .inQueue ∧ tx.queues (TxFrame.keyedTo x) = false ∧
           tx.holds (TxFrame.keyedTo x) = true then (tx.withdraw (TxFrame.keyedTo x)).enqueue (.claim x) else tx
     let equals (n : Need) : Prop := r.standing = .waiting n ∨ r.standing = .granted n
     d.rcd.need = need ∧ d.rcd.standing = r.standing ∧ d.rcd.lapse = r.lapse ∧
     (r.need = need ∨ active = false → NothingAsked e d ∧ d.rcd.resend = r.resend) ∧
     (∀ n, active = true → r.need = none → need = some n →
       (state = .idle → AskedFor tx x .claim d) ∧
       (state = .yielding → recalled → r.lapse = false → withdrawn) ∧
       (state = .yielding → ¬ recalled ∨ r.lapse = true → NothingAsked e d) ∧
       (state ≠ .idle → state ≠ .yielding → NothingAsked e d)) ∧
     (∀ n, active = true → r.need = some n → need = none →
       (state = .sending → claimed → recalled → withdrawn) ∧
       (state = .sending → claimed → ¬ recalled → AskedFor tx x .yield d) ∧
       (state = .waiting ∨ state = .held ∨ state = .changing → AskedFor tx x .yield d) ∧
       (state = .yielding → NothingAsked e d)) ∧
     (∀ m n, active = true → r.need = some m → need = some n → m ≠ n →
       d.rcd.resend = false ∧
       (state = .sending → claimed → updated) ∧
       (state = .waiting → equals n → claimed → withdrawn) ∧
       (state = .waiting → equals n → ¬ claimed → NothingAsked e d) ∧
       (state = .waiting → ¬ equals n → claimed → updated) ∧
       (state = .waiting → ¬ equals n → ¬ claimed → AskedFor tx x .claim d) ∧
       (state = .held → d.rcd.resend = false ∧ (equals n → NothingAsked e d) ∧ (¬ equals n → AskedFor tx x .claim d)) ∧
       (state = .changing → (equals n → withdrawn) ∧ (¬ equals n → updated)) ∧
       (state = .yielding → NothingAsked e d)))) ∧
  (∀ (s : State) (probe pressure : Int), s.power = .running → s.load ≠ .delay →
    ∃ t, exec (.secondEvent probe pressure) s = .next t ∧
      ∀ x k, (t.demand.get x).pending = some ⟨k, .requested⟩ → t.tx.holds (· == .yieldAll) = true)

/-- A JOINING or DOUBTFUL station adopts a section that a SYNC-TABLE for it carries, as R28 lays it out, where its own section
stands UNRECEIVED and the section keeps every check of R54; with the third section it becomes ACTIVE, its suspect mark clear. A
setting of the mark held back for that frame (R94, log 38) is then acted on in the mode the station holds. A section that fails a
check, one already LIVE and a frame that names no section change no section; in LISTENING every SYNC-TABLE for the station, whatever
its outcome, restarts the answer wait. One for another asker does nothing, nor does one outside JOINING and DOUBTFUL. A SYNC-ASK is
answered with three SYNC-TABLE entries by an ACTIVE station with no lower ACTIVE peer and a free sync sort, and otherwise not. -/
def Obligations.SectionsAreAdoptedAndAsksAnswered : Prop :=
  (∀ (s : State) (e : RxEntry) (x : Resource) (t : PerRes Section) (sec : Section) (count : Word),
    FrameInHand s e 0x22 2 → IsBay s.line.address → (s.mode.mode = .joining ∨ s.mode.mode = .doubtful) →
    s.share.table = some t → (t.get x).live = false → poolOf s.cfg x ≤ 255 → sec.live = true →
    sectionLaw s.cfg x sec = true → (sec.grants ++ sec.waits).length ≤ 8 →
    e.body = nat8 s.line.address :: sectionBody x count sec →
    (s.mode.suspectHeld = false →
      ∃ u, exec .syncTable s = .next u ∧ u.share = ⟨some (t.set x sec), count⟩ ∧
        (sec.grants ++ sec.waits).all (fun g => ageOf g.bay (u.lease.ages.get x) == some 0) = true ∧
        (if allLive (t.set x sec) then
           u.mode.mode = .active ∧ u.mode.suspect = false ∧ u.mode.sync = ⟨.noSync, 0, false, 0, 0⟩
         else u.mode.mode = s.mode.mode ∧ u.mode.suspect = s.mode.suspect ∧
           u.mode.sync = if s.mode.sync.stage = .listening then { s.mode.sync with wait := 0 } else s.mode.sync)) ∧
    (s.mode.suspectHeld = true →
      ∃ v u, exec .syncTable { s with mode := { s.mode with suspectHeld := false } } = .next v ∧
        exec .syncTable s = .next u ∧ u.mode.suspect = true ∧ u.mode.suspectHeld = false ∧ SettingActedOn v u)) ∧
  (∀ (s : State) (e : RxEntry), FrameInHand s e 0x21 2 → e.body = [] → s.mode.mode = .active → IsBay e.sender →
    e.sender ≠ s.line.address → s.tx.holds TxFrame.isSync = false →
    (∀ r ∈ (s.popFrame e).mode.roster, IsBay r.address → r.reported = some 4 → r.address ≠ e.sender →
      s.line.address ≤ r.address) →
    exec .syncAsk s = .next { s.popFrame e with
      tx := ((s.tx.enqueue (.syncTable e.sender .chill)).enqueue (.syncTable e.sender .gas)).enqueue
        (.syncTable e.sender .heat) }) ∧
  (∀ (s : State) (e : RxEntry) (asker res k1 k0 : Byte) (grants waits : List RawEntry),
    FrameInHand s e 0x22 2 → s.mode.suspectHeld = false → 1 ≤ asker.toNat → asker.toNat ≤ 12 →
    grants.length + waits.length ≤ 8 →
    e.body = [asker, res, k1, k0, nat8 grants.length, nat8 waits.length] ++
      (grants.flatMap RawEntry.bytes ++ waits.flatMap RawEntry.bytes) →
    (∀ t, asker.toNat = s.line.address → (s.mode.mode = .joining ∨ s.mode.mode = .doubtful) → s.share.table = some t →
      allLive t = false →
      ((∀ x, res ≠ resourceCode x) ∨
        ∃ x, res = resourceCode x ∧ ((t.get x).live = true ∨ SectionRefused (poolOf s.cfg x) x grants waits)) →
      exec .syncTable s = .next { s.popFrame e with
        mode := { (s.popFrame e).mode with
          sync := if s.mode.sync.stage = .listening then { s.mode.sync with wait := 0 } else s.mode.sync } }) ∧
    (asker.toNat ≠ s.line.address → exec .syncTable s = .next (s.popFrame e)) ∧
    (s.mode.mode ≠ .joining → s.mode.mode ≠ .doubtful → holdingLaw s = true →
      exec .syncTable s = .next (s.popFrame e))) ∧
  (∀ (s : State) (e : RxEntry), FrameInHand s e 0x21 2 → e.body = [] →
    (s.mode.mode ≠ .active ∨ ¬ IsBay e.sender ∨ e.sender = s.line.address ∨ s.tx.holds TxFrame.isSync = true ∨
      ∃ r ∈ (s.popFrame e).mode.roster, IsBay r.address ∧ r.reported = some 4 ∧ r.address ≠ e.sender ∧
        r.address < s.line.address) →
    exec .syncAsk s = .next (s.popFrame e))

/-- An ACTIVE station compares the ANNOUNCE of a lower ACTIVE peer: another config digest makes it MUTED, else another change
count or table digest makes it DOUBTFUL, else its suspect mark is cleared, and set again at once by a setting that was held back
for this frame (R94, log 38). A JOINING or DOUBTFUL station that processes the ANNOUNCE of any ACTIVE keg station of another
config digest becomes MUTED, and one of the same config digest ends a rest: a SYNC-ASK is queued and the stage is ASKING; at any
other stage the roster alone changes. Entering MUTED the station withdraws its NOTICE, queued or in flight (log 13), and from a
sync its SYNC-ASK in the same way. -/
def Obligations.AnnounceOfActivePeerIsWeighed : Prop :=
  ∀ (s : State) (e : RxEntry) (m p g k1 k0 d1 d0 c1 c0 n : Byte), FrameInHand s e 0x0A 3 →
    e.body = [m, p, g, k1, k0, d1, d0, c1, c0, n] → IsBay s.line.address → IsBay e.sender → e.sender ≠ s.line.address →
    m.toNat % 16 = 4 → e.own = false →
    (let muted (t : State) : Prop :=
       t.mode.mode = .muted ∧ t.share = ⟨none, 0⟩ ∧ t.notice.flags.getLsbD 3 = true ∧ t.tx.holds (· == .notice) = false ∧
         t.driven.chillValve = false ∧ t.driven.heater = false ∧ t.driven.gasValve = false
     (s.mode.mode = .active → e.sender < s.line.address →
       ∃ t, exec .announce s = .next t ∧
         (∃ r, rosterOf e.sender t.mode.roster = some r ∧ r.reported = some 4 ∧ r.changeCount = join16 k1 k0 ∧
           r.digest = join16 d1 d0 ∧ r.configDigest = join16 c1 c0 ∧ r.silence = 0) ∧
         (if join16 c1 c0 ≠ s.mode.configDigest then muted t ∧ t.tx.holds (· == .yieldAll) = true
          else if join16 k1 k0 ≠ s.share.changeCount ∨ join16 d1 d0 ≠ s.share.digest then Doubts s t
          else t = { s with
            line := { s.line with rxQueue := s.line.rxQueue.tail }
            handler := { s.handler with inHand := s.line.rxQueue.head? }
            mode := { s.mode with suspect := s.mode.suspectHeld, suspectHeld := false, roster := t.mode.roster } })) ∧
     (s.mode.mode = .joining ∨ s.mode.mode = .doubtful → join16 c1 c0 ≠ s.mode.configDigest →
       ∃ t, exec .announce s = .next t ∧ muted t ∧ t.mode.sync = ⟨.noSync, 0, false, 0, 0⟩ ∧
         t.tx.holds (· == .syncAsk) = false ∧
         t.tx.holds (· == .yieldAll) = s.tx.holds (· == .yieldAll)) ∧
     (s.mode.mode = .joining ∨ s.mode.mode = .doubtful → join16 c1 c0 = s.mode.configDigest → s.mode.suspectHeld = false →
       (let resting := s.mode.sync.stage = .resting
        ∃ t, exec .announce s = .next t ∧ t = { s with
          line := { s.line with rxQueue := s.line.rxQueue.tail }
          handler := { s.handler with inHand := s.line.rxQueue.head? }
          mode := { s.mode with
            roster := t.mode.roster, sync := if resting then { s.mode.sync with stage := .asking } else s.mode.sync }
          tx := if resting ∧ s.tx.holds (· == .syncAsk) = false then s.tx.enqueue .syncAsk else s.tx })))

/-- A suspect mark that stands while the last lower ACTIVE peer leaves the roster, or reports another mode, makes an ACTIVE
station DOUBTFUL; with the mark clear or another lower ACTIVE peer it changes nothing more. A setting that the line interface
makes while an ANNOUNCE that compares equal is in hand waits for it (R94): the mark stands as it was and the setting is held
(log 38). -/
def Obligations.SuspectMarkSettlesWithTheRoster : Prop :=
  (∀ (s : State) (a : Nat) (r : RosterEntry), s.power = .running → r ∈ s.mode.roster → r.address = a → r.silence = 15 →
     s.mode.mode = .active →
     (let left := s.mode.roster.filter (fun q => !(q.address == a && q.silence == 15))
      let u : State := { s with mode := { s.mode with roster := left } }
      (s.mode.suspect = true → ¬ HasLowerActive s.line.address left →
        ∃ t, exec (.rosterEntryRemoved a) s = .next t ∧ t.mode.suspect = true ∧ t.mode.roster = left ∧ Doubts s t) ∧
      (s.mode.suspect = false ∨ HasLowerActive s.line.address left → exec (.rosterEntryRemoved a) s = .next u))) ∧
  (∀ (s : State) (e : RxEntry) (m p g k1 k0 d1 d0 c1 c0 n : Byte) (r : RosterEntry), FrameInHand s e 0x0A 3 →
     e.body = [m, p, g, k1, k0, d1, d0, c1, c0, n] → e.own = false → e.sender ≠ s.line.address → rosterLaw s = true →
     s.mode.mode = .active → s.mode.suspect = true → rosterOf e.sender s.mode.roster = some r →
     r.reported ≠ some (m.toNat % 16) → m.toNat % 16 ≠ 4 →
     (¬ HasLowerActive s.line.address (s.mode.roster.filter (fun q => q.address != e.sender)) →
       ∃ t, exec .announce s = .next t ∧ t.mode.suspect = true ∧ Doubts s t) ∧
     (HasLowerActive s.line.address (s.mode.roster.filter (fun q => q.address != e.sender)) →
       ∃ t, exec .announce s = .next t ∧ t.mode.mode = .active ∧ t.mode.suspect = true ∧ t.share = s.share)) ∧
  (∀ (s : State) (e : RxEntry) (m p g k1 k0 d1 d0 c1 c0 n : Byte) (f : InFlight) (bit : Nat), FrameInHand s e 0x0A 3 →
     e.body = [m, p, g, k1, k0, d1, d0, c1, c0, n] → e.own = false → IsBay e.sender → e.sender < s.line.address →
     IsBay s.line.address → m.toNat % 16 = 4 → s.mode.mode = .active → join16 c1 c0 = s.mode.configDigest →
     join16 k1 k0 = s.share.changeCount → join16 d1 d0 = s.share.digest →
     s.tx.inFlight = some f → f.withdrawn = true → (frameLevels f.chars)[bit]? = some false →
     exec (.sendFault bit) s = .next { s with
       line := { s.line with
         round := if bit = 0 then s.line.round else none, sendFaults := min (s.line.sendFaults + 1) 255 }
       tx := { s.tx with inFlight := none }
       mode := { s.mode with suspectHeld := true } })

/-! ### One section of the share table -/

/-- The outcomes of a claim by a bay with no GRANTED entry, fresh or in place of its WAITING entry (R46), which then has left the
queue: it waits where a waiter of equal or better rank stands, is granted where it fits, waits where bumping every worse grant
would not make it fit, and otherwise is granted after the fewest victims have been bumped. Victims are taken from the grants of
strictly worse rank, the worst rank first and within a rank the newest grant first, and each is placed ahead of the waiters of its
own rank. Promotion follows. A replacement carries the renew count raised by one and draws FREED where the entry ends GRANTED or
WAITING at a worse rank. -/
def Obligations.FreshClaimOutcomes : Prop :=
  ∀ (pool : Nat) (sec0 : Section) (bay amount : Nat) (c : Cls), findBay bay sec0.grants = none →
    (let old := findBay bay sec0.waits
     let sec : Section := if old.isSome then { sec0 with waits := sec0.waits.filter (fun w => w.bay != bay) } else sec0
     let count : Byte := match old with
       | some w => w.renewCount + 1
       | none => 0
     let new : Entry := ⟨bay, amount, c, count⟩
     let effect := claimIn pool sec0 bay amount c
     let outcome := effect.sec
     let free := pool - (sec.grants.map Entry.amount).sum
     let barred := sec.waits.any (fun w => decide (w.cls.rank ≤ c.rank))
     let placed := sec.waits.takeWhile (fun w => decide (w.cls.rank ≤ c.rank)) ++
       new :: sec.waits.dropWhile (fun w => decide (w.cls.rank ≤ c.rank))
     let worse := [5, 4, 3, 2, 1, 0].flatMap (fun rank =>
       (sec.grants.filter (fun g => decide (g.cls.rank = rank ∧ c.rank < rank))).reverse)
     effect.changed = true ∧ effect.refused = false ∧
     effect.lease = (if old.isSome then .renewed bay count else .created bay) ∧
     effect.freed = (match old, findBay bay outcome.grants, findBay bay outcome.waits with
       | none, _, _ => false
       | some _, some _, _ => true
       | some w, none, some v => decide (w.cls.rank < v.cls.rank)
       | some _, none, none => false) ∧
     (barred = true → outcome = promote pool { sec with waits := placed }) ∧
     (barred = false → amount ≤ free → outcome = promote pool { sec with grants := sec.grants ++ [new] }) ∧
     (barred = false → free < amount → free + (worse.map Entry.amount).sum < amount →
       outcome = promote pool { sec with waits := placed }) ∧
     (barred = false → free < amount → amount ≤ free + (worse.map Entry.amount).sum →
       ∃ k, k ≤ worse.length ∧ amount ≤ free + ((worse.take k).map Entry.amount).sum ∧
         (∀ j, j < k → free + ((worse.take j).map Entry.amount).sum < amount) ∧
         outcome = promote pool { sec with
           grants := sec.grants.filter (fun g => !(worse.take k).any (fun v => v.bay == g.bay)) ++ [new]
           waits := (worse.take k).foldl (fun ws v =>
             ws.takeWhile (fun w => decide (w.cls.rank < v.cls.rank)) ++
               v :: ws.dropWhile (fun w => decide (w.cls.rank < v.cls.rank))) sec.waits }))

/-- A claim by a bay with a GRANTED entry is a change. It fails, because a waiter of equal or better rank stands or because
bumping every worse grant of another bay would not make it fit, and then leaves the section and the change count as they were and
the lease age running, and is reported REFUSED. One that fits in the free amount and the grant it gives up, or in these and what
the fewest victims free, keeps its state and its place, takes the new amount and class and counts a renewal; the victims, taken
worst rank first and newest first, are placed as a bump places them; promotion follows; a smaller amount draws FREED. -/
def Obligations.ChangeClaimFailsOrKeepsItsPlace : Prop :=
  ∀ (pool : Nat) (sec : Section) (old : Entry) (bay amount : Nat) (c : Cls), findBay bay sec.grants = some old →
    (let available := pool - (sec.grants.map Entry.amount).sum + old.amount
     let barred := sec.waits.any (fun w => decide (w.cls.rank ≤ c.rank))
     let new : Entry := ⟨bay, amount, c, old.renewCount + 1⟩
     let worse := [5, 4, 3, 2, 1, 0].flatMap (fun rank =>
       (sec.grants.filter (fun g => decide (g.bay ≠ bay ∧ g.cls.rank = rank ∧ c.rank < rank))).reverse)
     (barred = true ∨ available + (worse.map Entry.amount).sum < amount →
       claimIn pool sec bay amount c = ⟨sec, false, .unaffected, false, true⟩) ∧
     (barred = false → amount ≤ available →
       claimIn pool sec bay amount c =
         ⟨promote pool { sec with grants := sec.grants.map (fun g => if g.bay = bay then new else g) }, true,
           .renewed bay (old.renewCount + 1), decide (amount < old.amount), false⟩) ∧
     (barred = false → available < amount → amount ≤ available + (worse.map Entry.amount).sum →
       ∃ k, k ≤ worse.length ∧ amount ≤ available + ((worse.take k).map Entry.amount).sum ∧
         (∀ j, j < k → available + ((worse.take j).map Entry.amount).sum < amount) ∧
         claimIn pool sec bay amount c =
           ⟨promote pool { sec with
               grants := (sec.grants.filter (fun g => !(worse.take k).any (fun v => v.bay == g.bay))).map
                 (fun g => if g.bay = bay then new else g)
               waits := (worse.take k).foldl (fun ws v =>
                 ws.takeWhile (fun w => decide (w.cls.rank < v.cls.rank)) ++
                   v :: ws.dropWhile (fun w => decide (w.cls.rank < v.cls.rank))) sec.waits },
             true, .renewed bay (old.renewCount + 1), decide (amount < old.amount), false⟩))

/-- Promotion grants a first part of the wait queue, in order, and stops at the first head that does not fit. The laws of a LIVE
section, the pool law, single appearance, order of rank and a head that does not fit, are kept by every share frame. A RENEW raises
the renew count of the sender's entry by one, modulo 256, in its place; a YIELD removes the sender's entry; an EXPIRE removes the
target's entry if its renew count is the one named, and is stale otherwise; each that changed the section is followed by promotion,
and one that finds no entry has no effect. -/
def Obligations.PromotionAndShareFramesKeepTheSectionLaws : Prop :=
  (∀ (pool : Nat) (sec : Section) (bay : Nat) (count : Byte),
    (let held := (sec.grants ++ sec.waits).find? (fun g => g.bay == bay)
     let nothing : Effect := ⟨sec, false, .unaffected, false, false⟩
     let removed : Effect :=
       ⟨promote pool { sec with
           grants := sec.grants.filter (fun g => g.bay != bay), waits := sec.waits.filter (fun g => g.bay != bay) },
         true, .removed bay, true, false⟩
     let renewed (g : Entry) : Entry := if g.bay = bay then { g with renewCount := g.renewCount + 1 } else g
     (held = none → renewIn pool sec bay = nothing ∧ yieldIn pool sec bay = nothing ∧
       expireIn pool sec bay count = nothing) ∧
     (∀ g, held = some g →
       renewIn pool sec bay =
         ⟨promote pool { sec with grants := sec.grants.map renewed, waits := sec.waits.map renewed }, true,
           .renewed bay (g.renewCount + 1), false, false⟩ ∧
       yieldIn pool sec bay = removed ∧
       expireIn pool sec bay count = if g.renewCount = count then removed else nothing))) ∧
  (∀ (pool : Nat) (sec : Section), ∃ k,
    (promote pool sec).grants = sec.grants ++ sec.waits.take k ∧ (promote pool sec).waits = sec.waits.drop k ∧
    (promote pool sec).live = sec.live ∧
    (∀ j, j < k → ∀ w, sec.waits[j]? = some w →
      ((sec.grants ++ sec.waits.take j).map Entry.amount).sum + w.amount ≤ pool) ∧
    (∀ w, (promote pool sec).waits.head? = some w → pool < ((promote pool sec).grants.map Entry.amount).sum + w.amount)) ∧
  (∀ (cfg : WorkingCopy) (x : Resource) (sec : Section), sec.live = true → sectionLaw cfg x sec = true →
    (∀ (bay amount : Nat) (c : Cls), IsBay bay → 1 ≤ amount → amount ≤ poolOf cfg x → c.belongs x = true →
      (claimIn (poolOf cfg x) sec bay amount c).sec.live = true ∧
        sectionLaw cfg x (claimIn (poolOf cfg x) sec bay amount c).sec = true) ∧
    (∀ bay, (renewIn (poolOf cfg x) sec bay).sec.live = true ∧ sectionLaw cfg x (renewIn (poolOf cfg x) sec bay).sec = true) ∧
    (∀ bay, (yieldIn (poolOf cfg x) sec bay).sec.live = true ∧ sectionLaw cfg x (yieldIn (poolOf cfg x) sec bay).sec = true) ∧
    (∀ bay count, (expireIn (poolOf cfg x) sec bay count).sec.live = true ∧
      sectionLaw cfg x (expireIn (poolOf cfg x) sec bay count).sec = true))

/-! ### Thresholds -/

/-- The answer wait, the rest, the announce timer and the silence age at their ends: the first two failed asks ask again, a rest
asks again, the announce timer asks for an ANNOUNCE, a silent station leaves the roster. -/
def Obligations.SyncTimersAtTheirEnds : Prop :=
  ∀ s : State, s.power = .running →
    ((s.mode.mode = .joining ∨ s.mode.mode = .doubtful) → s.mode.sync.stage = .listening → s.mode.sync.wait = 2 →
      s.mode.sync.slow = false → s.mode.sync.failedAsks < 2 →
      exec .answerWaitExpiry s = .next { s with
        mode := { s.mode with sync := { s.mode.sync with stage := .asking, failedAsks := s.mode.sync.failedAsks + 1 } }
        tx := s.tx.askSync }) ∧
    ((s.mode.mode = .joining ∨ s.mode.mode = .doubtful) → s.mode.sync.stage = .listening → s.mode.sync.wait = 2 →
      (s.mode.sync.slow = true ∨ s.mode.sync.failedAsks = 2) →
      (let test := s.mode.roster.all (fun r => !(decide (IsBay r.address) && (r.reported == some 4 ||
           ((r.reported == some 3 || r.reported == some 5) && decide (r.address < s.line.address)))))
       ∃ t, exec .answerWaitExpiry s = .next t ∧
         (test = true → t.mode.mode = .active ∧
           t.share = ⟨some ⟨⟨true, [], []⟩, ⟨true, [], []⟩, ⟨true, [], []⟩⟩, 0⟩ ∧ t.mode.suspect = false) ∧
         (test = false → t.mode.mode = s.mode.mode ∧ t.share = s.share ∧ t.mode.sync = ⟨.resting, 3, true, 2, 0⟩ ∧
           (s.mode.sync.slow = false → t.notice = s.notice.raised 0x0200) ∧
           (s.mode.sync.slow = true → t.notice = s.notice)))) ∧
    ((s.mode.mode = .joining ∨ s.mode.mode = .doubtful) → s.mode.sync.stage = .resting → s.mode.sync.rest = 5 →
      exec .restEnd s = .next { s with
        mode := { s.mode with sync := { s.mode.sync with stage := .asking } }, tx := s.tx.askSync }) ∧
    (s.mode.announceTimer = some 5 →
      exec .announceTimer s = .next { s with
        mode := { s.mode with announceTimer := some 0 }
        tx := if s.tx.holds (· == .announce) then s.tx else s.tx.enqueue .announce }) ∧
    (∀ a r, r ∈ s.mode.roster → r.address = a → r.silence = 15 →
      (s.mode.mode ≠ .active ∨ s.mode.suspect = false →
        exec (.rosterEntryRemoved a) s = .next { s with
          mode := { s.mode with roster := s.mode.roster.filter (fun q => !(q.address == a && q.silence == 15)) } }))

/-- The lease thresholds of an ACTIVE station: at the renew point a RENEW is asked for where no frame is pending; at the lapse
point the lapse mark is set, a YIELD is asked for and the permission closes; at the expiry point of a peer's entry an EXPIRE
naming it and its renew count is queued and recorded. A starve timer at its limit while the need is unmet, and the drift timer at
its limit, raise STARVED and TEMP-DRIFT once: the noticed mark is set. -/
def Obligations.LeaseStarveAndDriftThresholds : Prop :=
  (∀ (s : State) (x : Resource) (t : PerRes Section) (a : Nat), s.power = .running → s.mode.mode = .active →
     s.share.table = some t → (t.get x).live = true →
     (standingIn s.line.address (t.get x) ≠ .absent → ageOf s.line.address (s.lease.ages.get x) = some a →
       (leaseOf s.cfg x / 2 ≤ a → a < leaseOf s.cfg x → (s.demand.get x).pending = none →
         s.tx.holds (TxFrame.holdsShare x) = false →
         exec (.renewPoint x) s = .next { s with
           demand := s.demand.set x { s.demand.get x with pending := some ⟨.renew, .inQueue⟩ }
           tx := s.tx.enqueue (.renew x) }) ∧
       (leaseOf s.cfg x ≤ a → (s.demand.get x).lapse = false →
         ∃ u, exec (.lapse x) s = .next u ∧ (u.demand.get x).lapse = true ∧
           (u.demand.get x).pending.map Pending.kind = some .yield ∧ u.permitted x = false ∧
           u = { s with demand := s.demand.set x (u.demand.get x), tx := u.tx })) ∧
     (∀ e, s.lease.expiry.get x = none →
       ((t.get x).grants ++ (t.get x).waits).find? (fun g => g.bay != s.line.address &&
         (ageOf g.bay (s.lease.ages.get x)).any (fun age => decide (leaseOf s.cfg x + leaseOf s.cfg x / 4 ≤ age))) = some e →
       s.tx.holds (TxFrame.isExpire x) = false →
       exec (.expiryPoint x) s = .next { s with
         lease := { s.lease with expiry := s.lease.expiry.set x (some ⟨e.bay, e.renewCount, false⟩) }
         tx := s.tx.enqueue (.expire x e.bay e.renewCount) })) ∧
  (∀ s : State, s.power = .running →
     (∀ x n, (s.demand.get x).need = some n → s.cfg.starveLimit * 60 ≤ (s.demand.get x).starve →
       ¬ (s.mode.mode = .active ∧ (s.demand.get x).standing = .granted n ∧
         (s.demand.get x).pending.map Pending.kind ≠ some .yield) →
       ((s.demand.get x).starveNoticed = false → ∃ t, exec (.starveLimit x) s = .next t ∧
         t = { s with
           demand := s.demand.set x { s.demand.get x with starveNoticed := true }
           notice := s.notice.raised 0x0080, tx := t.tx }) ∧
       ((s.demand.get x).starveNoticed = true → exec (.starveLimit x) s = .next s)) ∧
     (s.cfg.driftLimit * 60 ≤ s.thermal.drift →
       (s.thermal.driftNoticed = false → ∃ t, exec .driftLimit s = .next t ∧
         t = { s with
           thermal := { s.thermal with driftNoticed := true }, notice := s.notice.raised 0x0040, tx := t.tx }) ∧
       (s.thermal.driftNoticed = true → exec .driftLimit s = .next s)))

/-- The dry count at 3 ends a pour EMPTY, raises KEG-EMPTY and makes the keg SPENT; the foam count at 2 ends it FOAM; the settle
count at 2 writes the pour into the log at position 0, keeps at most eight entries, and leaves the engine IDLE. -/
def Obligations.PourThresholdsEndAndLog : Prop :=
  ∀ (s : State) (r : OpenPour), s.power = .running → s.pour.record = some r →
    (s.pour.state = .pouring → s.pour.dry = 3 →
      ∃ t, exec .emptyEnd s = .next t ∧ t.keg = { s.keg with phase := .spent } ∧ t.notice.flags.getLsbD 4 = true ∧
        t.pour = { s.pour with state := .settling, settle := 0, record := some { r with reason := some .empty } } ∧
        t.thermal.regime = .off ∧ t.pressure.gasNeed = none ∧ t.driven.frontValve = false ∧ t.driven.fillValve = false) ∧
    (s.pour.state = .pouring → s.pour.foam = 2 →
      ∃ t, exec .foamEnd s = .next t ∧ EvaluationsOnly { s with pour := t.pour, staged := t.staged } t ∧
        t.pour = { s.pour with state := .settling, settle := 0, record := some { r with reason := some .foam } } ∧
        t.staged.frontValve = false ∧ t.staged.fillValve = false) ∧
    (∀ reason, s.pour.state = .settling → s.pour.settle = 2 → r.reason = some reason →
      ∃ t, exec .settlingEnd s = .next t ∧ EvaluationsOnly { s with pour := t.pour } t ∧
        t.pour = { s.pour with
          state := .idle, record := none, remainder := 0
          log := ⟨r.outlet, r.kind, r.volume, reason, s.keg.fill - s.keg.dispensed⟩ :: s.pour.log.take 7 })

/-- The evaluations of the two controllers write their own needs, stagings, regime, target and safety state, publish the needs,
count relief openings, and leave everything else; the stagings follow the needs. The safety state is judged on a valid sample
only: TRIPPED at or above the limit, with OVER-PRESSURE raised as it trips; CLEAR at or below the limit less 20 kPa; and
otherwise as it was. -/
def Obligations.ControllerEvaluations : Prop :=
  (∀ s : State,
     EvaluationsOnly s s.thermalEval ∧ EvaluationsOnly s s.pressureEval ∧
     s.thermalEval.program = s.program ∧ s.thermalEval.pressure = s.pressure ∧ s.thermalEval.notice = s.notice ∧
     s.pressureEval.thermal = s.thermal ∧
     s.thermalEval.staged.chillValve = s.thermalEval.thermal.cooling.isSome ∧
     s.thermalEval.staged.heater = s.thermalEval.thermal.heating.isSome ∧
     s.pressureEval.staged.gasValve = s.pressureEval.pressure.gasNeed.isSome ∧
     (s.thermalEval.demand.get .chill).need = s.thermalEval.thermal.cooling ∧
     (s.thermalEval.demand.get .heat).need = s.thermalEval.thermal.heating ∧
     (s.pressureEval.demand.get .gas).need = s.pressureEval.pressure.gasNeed) ∧
  (∀ (s : State) (v : Int), s.pressure.sample = some v →
     (s.pressure.sensor = .good → (s.cfg.safetyLimit : Int) ≤ v →
       s.pressureEval.pressure.tripped = true ∧
         s.pressureEval.notice = (if s.pressure.tripped then s.notice else s.notice.raised 0x0002)) ∧
     (s.pressure.sensor = .good → v < (s.cfg.safetyLimit : Int) →
       s.pressureEval.pressure.tripped = (s.pressure.tripped && decide ((s.cfg.safetyLimit : Int) - 20 < v)) ∧
         s.pressureEval.notice = s.notice) ∧
     (s.pressure.sensor ≠ .good →
       s.pressureEval.pressure.tripped = s.pressure.tripped ∧ s.pressureEval.notice = s.notice))

/-- One evaluation of the thermal controller: the regime by the first row of R104 that matches; the effective target and band by
it, in STEP the current step's, a RAMP's present target; the cooling need, which arises above target + band, ends at the target
and stands between, of class HOLD 1, FERMENT 2, CRASH 4 or PROTECT 2 by R109; the heating need, which arises below target − band,
ends at the target and stands between, FERMENT 1 and never in SERVE; neither in OFF; never both. -/
def Obligations.ThermalEvaluation : Prop :=
  ∀ s : State,
    (let t := s.thermalEval.thermal
     let underStep := s.keg.phase = .fermenting ∨ s.keg.phase = .conditioning
     t.regime =
       (if s.thermal.probe ≠ .good then .off
        else if s.mode.mode = .vacant then .off
        else if s.keg.phase = .serving then .serve
        else if underStep ∧ s.program.state = .running then .step
        else if underStep ∧ s.program.state = .paused ∧ (s.program.reasons.sensor = true ∨ s.program.reasons.kegAbsent = true) then
          .off
        else if underStep ∧ s.program.state = .paused ∧ s.program.reasons.ordered = true then .frozen
        else .off) ∧
     (t.regime = .off → t.effective = none ∧ t.cooling = none ∧ t.heating = none) ∧
     (t.regime = .serve → t.effective = some ⟨s.keg.serveTarget, 5⟩ ∧ t.heating = none) ∧
     (t.regime = .frozen → t.effective = s.thermal.frozen) ∧
     (∀ st, t.regime = .step → s.program.currentStep = some st →
       (st.kind ≠ .ramp → t.effective = some ⟨st.target, st.band⟩) ∧
       (∀ r, st.kind = .ramp → s.program.ramp = some r → t.effective = some ⟨r.present, st.band⟩)) ∧
     (∀ h v, t.effective = some h → s.thermal.sample = some v →
       (h.target + h.band < v → t.cooling.isSome = true) ∧
       (v ≤ h.target → t.cooling = none) ∧
       (h.target < v → v ≤ h.target + h.band → t.cooling.isSome = s.thermal.cooling.isSome) ∧
       (∀ n, t.cooling = some n →
         n = if t.regime = .serve then (if v ≤ s.cfg.serveMax then ⟨1, .hold⟩ else ⟨2, .protect⟩)
           else if s.program.currentStep.map StepRecord.kind = some .crash then ⟨4, .crash⟩
           else if v ≤ h.target + s.cfg.protectMargin then ⟨2, .ferment⟩ else ⟨2, .protect⟩) ∧
       (t.regime ≠ .serve →
         (v < h.target - h.band → t.heating.isSome = true) ∧
         (h.target ≤ v → t.heating = none) ∧
         (h.target - h.band ≤ v → v < h.target → t.heating.isSome = s.thermal.heating.isSome)) ∧
       (∀ n, t.heating = some n → n = ⟨1, .ferment⟩)) ∧
     ¬ (t.cooling.isSome = true ∧ t.heating.isSome = true))

/-- One evaluation of the pressure controller. The spund staging: in force while FERMENTING with a spund point of the current step
and the pressure GOOD, it opens at the point, closes 10 kPa below it and stands between; else it is closed. The gas need: allowed
by R146, it arises 10 kPa below the top-up target and during a pour also below the pour floor, ends at the top-up target, during a
pour at the higher of the two, and stands between; not allowed, it is absent; of class SERVE during a pour and CARB otherwise. -/
def Obligations.SpundStagingAndGasNeed : Prop :=
  ∀ s : State,
    (let t := s.pressureEval
     let point := (s.program.currentStep.map StepRecord.spund).getD 0
     let inForce := s.keg.phase = .fermenting ∧ (s.program.state = .running ∨ s.program.state = .paused) ∧ point ≠ 0 ∧
       s.pressure.sensor = .good
     let ceiling := s.cfg.safetyLimit - 30
     let topUp : Int := ((min s.keg.carbTarget ceiling : Nat) : Int)
     let floor : Int := ((min s.cfg.serveMin ceiling : Nat) : Int)
     let pour := s.pour.state ≠ .idle
     let allowed := (s.keg.phase = .conditioning ∨ s.keg.phase = .serving) ∧ s.pressure.sensor = .good ∧
       t.pressure.tripped = false ∧ s.pressure.leak = false ∧ s.load = .ended ∧ s.asserted .kegPresent = true ∧
       s.asserted .coupled = true
     (¬ inForce → t.staged.reliefValve = false) ∧
     (¬ allowed → t.pressure.gasNeed = none) ∧
     (∀ n, t.pressure.gasNeed = some n → n = ⟨1, if s.pour.state = .idle then .carb else .serve⟩) ∧
     (∀ v, s.pressure.sample = some v →
       (inForce →
         ((point : Int) ≤ v → t.staged.reliefValve = true) ∧
         (v ≤ (point : Int) - 10 → t.staged.reliefValve = false) ∧
         ((point : Int) - 10 < v → v < (point : Int) → t.staged.reliefValve = s.staged.reliefValve)) ∧
       (allowed →
         (v < topUp - 10 ∨ (pour ∧ v < floor) → t.pressure.gasNeed.isSome = true) ∧
         (topUp ≤ v ∧ (pour → floor ≤ v) → t.pressure.gasNeed = none) ∧
         (topUp - 10 ≤ v → (pour → floor ≤ v) → v < topUp → t.pressure.gasNeed.isSome = s.pressure.gasNeed.isSome))) ∧
     t.staged.gasValve = t.pressure.gasNeed.isSome)

/-- A probe fault begins at a reading outside its range: SENSOR-FAULT, regime OFF, both needs absent, both outputs staged and driven
closed, and SENSOR among the reasons of a program under way. A pressure fault begins: SENSOR-FAULT, the relief driven open with
its spund staging closed, the gas need absent; the program is not paused and the safety state stands; a relief that was driven
closed counts as one opening while FERMENTING. Within a fault SENSOR-FAULT is not raised again. At a recovery the forcing ends,
the pause reason and the flag stand, and the evaluation judges the new sample. Stated for a second event with no minute, hour or
pour left over (log 5). -/
def Obligations.SensorFaultsAndRecovery : Prop :=
  ∀ (s : State) (probe pressure : Int), s.power = .running → s.load ≠ .delay → s.timebase.minuteDue = false →
    s.timebase.hourDue = false → s.pour.state = .idle →
    (let probeFault := ¬ (-100 ≤ probe ∧ probe ≤ 600)
     let pressureFault := ¬ (0 ≤ pressure ∧ pressure ≤ 400)
     let begins := (probeFault ∧ s.thermal.probe ≠ .fault) ∨ (pressureFault ∧ s.pressure.sensor ≠ .fault)
     ∃ t, exec (.secondEvent probe pressure) s = .next t ∧
       (begins → t.notice.flags.getLsbD 2 = true ∧ t.notice.seen.getLsbD 2 = false) ∧
       (¬ begins → t.notice.flags.getLsbD 2 = s.notice.flags.getLsbD 2 ∧
         t.notice.seen.getLsbD 2 = s.notice.seen.getLsbD 2) ∧
       (probeFault → t.thermal.probe = .fault ∧ t.thermal.regime = .off ∧ t.thermal.effective = none ∧
         t.thermal.cooling = none ∧ t.thermal.heating = none ∧ t.staged.chillValve = false ∧ t.staged.heater = false ∧
         t.driven.chillValve = false ∧ t.driven.heater = false) ∧
       (probeFault → s.thermal.probe ≠ .fault → s.program.underWay = true →
         t.program.state = .paused ∧ t.program.reasons = { s.program.reasons with sensor := true } ∧
           t.program.elapsed = s.program.elapsed ∧ t.program.current = s.program.current ∧
           (s.program.state = .paused → t.thermal.frozen = s.thermal.frozen)) ∧
       (¬ (probeFault ∧ s.thermal.probe ≠ .fault) →
         t.program.state = s.program.state ∧ t.program.reasons = s.program.reasons) ∧
       (¬ probeFault → t.thermal.probe = .good ∧ t.thermal.sample = some probe ∧
         (s.keg.phase = .serving → t.mode.mode ≠ .vacant → t.thermal.regime = .serve) ∧
         (s.program.state = .paused → s.program.reasons.sensor = true → s.keg.phase ≠ .serving → t.thermal.regime = .off)) ∧
       (pressureFault → t.pressure.sensor = .fault ∧ t.driven.reliefValve = true ∧ t.staged.reliefValve = false ∧
         t.pressure.gasNeed = none ∧ t.staged.gasValve = false ∧ t.driven.gasValve = false ∧
         t.pressure.tripped = s.pressure.tripped) ∧
       (¬ pressureFault → t.pressure.sensor = .good ∧
         t.pressure.tripped = (if (s.cfg.safetyLimit : Int) ≤ pressure then true
           else if pressure ≤ (s.cfg.safetyLimit : Int) - 20 then false else s.pressure.tripped) ∧
         t.driven.reliefValve = (t.pressure.tripped || t.staged.reliefValve)) ∧
       t.program.currentHour =
         (if s.driven.reliefValve = false ∧ t.driven.reliefValve = true ∧ s.keg.phase = .fermenting then
           min (s.program.currentHour + 1) 255 else s.program.currentHour))

/-! ### Orders -/

/-- The steps of R183 that decide an order of a known code before its owner: dropped where two answers are pending, NOT-READY in
STARTING unless it is READ-STATUS, BAD-VALUE for a wrong argument count. An unknown code is dropped, NOT-READY or UNKNOWN-ORDER. -/
def Obligations.OrdersAreDecidedStepByStep : Prop :=
  (∀ (s : State) (e : RxEntry) (o : OrderCode) (args : List Byte), OrderInHand s e o.code args →
    (2 ≤ s.orders.pendingAnswers → exec o.row s = .next { s.popFrame e with
      orders := { s.orders with dropped := min (s.orders.dropped + 1) 255 } }) ∧
    (s.orders.pendingAnswers < 2 → s.mode.mode = .starting → o ≠ .readStatus →
      exec o.row s = .next (answered (s.popFrame e) e o.code 0x01 [])) ∧
    (s.orders.pendingAnswers < 2 → (s.mode.mode ≠ .starting ∨ o = .readStatus) → args.length ≠ o.argCount →
      exec o.row s = .next (answered (s.popFrame e) e o.code 0x03 []))) ∧
  (∀ (s : State) (e : RxEntry) (code : Byte) (args : List Byte), OrderInHand s e code args → Machine.orderOf code = none →
    (2 ≤ s.orders.pendingAnswers → exec .unknownOrder s = .next { s.popFrame e with
      orders := { s.orders with dropped := min (s.orders.dropped + 1) 255 } }) ∧
    (s.orders.pendingAnswers < 2 → exec .unknownOrder s =
      .next (answered (s.popFrame e) e code (if s.mode.mode = .starting then 0x01 else 0x04) [])))

/-- READ-STATUS and READ-KEG are answered DONE with the data laid out in 02 section 2.6, and change nothing else. READ-POUR-LOG:
BAD-VALUE above index 7; DONE with the entry at the index, or with every field 0 after it where the position holds none; nothing
else changes. -/
def Obligations.StatusKegAndLogAreReadAsTheyStand : Prop :=
  ((∀ (s : State) (e : RxEntry), OrderInHand s e 0x01 [] → s.orders.pendingAnswers < 2 →
     exec .readStatus s = .next (answered (s.popFrame e) e 0x01 0x00
       ([nat8 (reasonCode s.mode.startReason * 16 + modeCode s.mode.mode), phaseCode s.keg.phase, progCode s.program.state,
           nat8 (if s.program.state = .running ∨ s.program.state = .paused then s.program.current.getD 0 else 0)] ++
         bytes16 (BitVec.ofInt 16 (s.thermal.sample.getD (-32768))) ++
         bytes16 (match s.pressure.sensor with
           | .good => BitVec.ofInt 16 (s.pressure.sample.getD 0)
           | .fault => 0xFFFE
           | .unread => 0xFFFF) ++
         bytes16 (BitVec.ofNat 16 (s.keg.fill - s.keg.dispensed)) ++
         [demandCode (demandState (s.mode.mode == .active) s.demand.chill),
           demandCode (demandState (s.mode.mode == .active) s.demand.gas),
           demandCode (demandState (s.mode.mode == .active) s.demand.heat), pourCode s.pour.state, s.notice.summary,
           nat8 s.line.broken, nat8 s.line.overruns, nat8 s.line.lostArbs, nat8 s.line.sendFaults,
           nat8 s.handler.unknownKind, nat8 s.handler.badHeader, nat8 s.handler.badLength, nat8 s.handler.badAddress,
           nat8 s.orders.dropped]))) ∧
   (∀ (s : State) (e : RxEntry), OrderTaken s e .readKeg [] →
     exec .readKeg s = .next (answered (s.popFrame e) e 0x02 0x00
       (bytes16 (BitVec.ofNat 16 s.keg.fill) ++ bytes16 (BitVec.ofNat 16 s.keg.dispensed) ++
         bytes16 (BitVec.ofNat 16 s.keg.unaccounted) ++ bytes16 (BitVec.ofNat 16 (s.keg.fill - s.keg.dispensed)) ++
         [phaseCode s.keg.phase] ++ bytes16 (BitVec.ofInt 16 s.keg.serveTarget) ++
         [nat8 s.keg.carbTarget, refusalCode s.keg.lastRefusal, if s.keg.lowPassed then 1 else 0])))) ∧
  (∀ (s : State) (e : RxEntry) (i : Byte), OrderTaken s e .readPourLog [i] →
     (7 < i.toNat → exec .readPourLog s = .next (answered (s.popFrame e) e 0x04 0x03 [])) ∧
     (i.toNat ≤ 7 → s.pour.log[i.toNat]? = none →
       exec .readPourLog s = .next (answered (s.popFrame e) e 0x04 0x00 [i, 0, 0, 0, 0, 0, 0, 0])) ∧
     (∀ p, i.toNat ≤ 7 → s.pour.log[i.toNat]? = some p →
       exec .readPourLog s = .next (answered (s.popFrame e) e 0x04 0x00
         ([i, outletCode p.outlet, pourKindCode p.kind] ++ bytes16 (BitVec.ofNat 16 p.volume) ++ [endCode p.reason] ++
           bytes16 (BitVec.ofNat 16 p.remaining)))))

/-- READ-STEP: DONE with the index and the stored record in the layout of 02 section 2.7 for an index below the count, BAD-STATE
for any other; nothing else changes, in every program state. A valid step record is read back from its twelve characters as it was
stored, every field at every value R31 allows. -/
def Obligations.StepRecordsAreAnsweredAndReadBack : Prop :=
  (∀ (s : State) (e : RxEntry) (i : Byte), OrderTaken s e .readStep [i] →
    (∀ st, s.program.steps[i.toNat]? = some st →
      exec .readStep s = .next (answered (s.popFrame e) e 0x03 0x00
        ([i, stepKindCode st.kind, stepEndCode st.stepEnd] ++ bytes16 (BitVec.ofInt 16 st.target) ++ [nat8 st.band] ++
          bytes16 (BitVec.ofNat 16 st.duration) ++
          [nat8 st.threshold, nat8 st.hours, nat8 st.rate, nat8 st.spund, nat8 st.carb]))) ∧
    (s.program.steps.length ≤ i.toNat → exec .readStep s = .next (answered (s.popFrame e) e 0x03 0x02 []))) ∧
  (∀ st : StepRecord, st.valid = true → stepOf st.bytes = some st)

/-- READ-NOTICES answers the three sets, the seen set as it stood, and marks every set flag seen; one that is dropped or refused in
STARTING marks nothing. CLEAR-NOTICES takes each named
flag that is set and seen, with its seen mark, and answers the flags as they stand afterwards. SET-NOTICE-ENABLE gives every flag
the enable of the set. RAISE-NOTICE raises each named flag, which loses its seen mark, and asks for a NOTICE where one of them is
enabled. The last three answer BAD-VALUE, with no effect, where bit 15 is 1. -/
def Obligations.NoticeOrders : Prop :=
  (∀ (s : State) (e : RxEntry), OrderTaken s e .readNotices [] →
     exec .readNotices s = .next (answered { s.popFrame e with notice := { s.notice with seen := s.notice.flags } } e 0x05 0x00
       (bytes16 s.notice.flags ++ bytes16 s.notice.seen ++ bytes16 s.notice.enabled))) ∧
  (∀ (s : State) (e : RxEntry), OrderInHand s e 0x05 [] → (2 ≤ s.orders.pendingAnswers ∨ s.mode.mode = .starting) →
     ∃ t, exec .readNotices s = .next t ∧ t.notice = s.notice) ∧
  (∀ (s : State) (e : RxEntry) (hi lo : Byte), OrderTaken s e .clearNotices [hi, lo] → noticeLaw s.notice = true →
     ((join16 hi lo).getLsbD 15 = true → exec .clearNotices s = .next (answered (s.popFrame e) e 0x06 0x03 [])) ∧
     ((join16 hi lo).getLsbD 15 = false →
       ∃ n : Notice, exec .clearNotices s = .next (answered { s.popFrame e with notice := n } e 0x06 0x00 (bytes16 n.flags)) ∧
         n.enabled = s.notice.enabled ∧
         ∀ i, i < 15 →
           n.flags.getLsbD i =
             (s.notice.flags.getLsbD i && !((join16 hi lo).getLsbD i && s.notice.seen.getLsbD i)) ∧
           n.seen.getLsbD i = (s.notice.seen.getLsbD i && !(join16 hi lo).getLsbD i))) ∧
  (∀ (s : State) (e : RxEntry) (hi lo : Byte),
     (OrderTaken s e .setNoticeEnable [hi, lo] →
       ((join16 hi lo).getLsbD 15 = true → exec .setNoticeEnable s = .next (answered (s.popFrame e) e 0x07 0x03 [])) ∧
       ((join16 hi lo).getLsbD 15 = false → exec .setNoticeEnable s =
         .next (answered { s.popFrame e with notice := { s.notice with enabled := join16 hi lo } } e 0x07 0x00
           (bytes16 (join16 hi lo))))) ∧
     (OrderTaken s e .raiseNotice [hi, lo] →
       ((join16 hi lo).getLsbD 15 = true → exec .raiseNotice s = .next (answered (s.popFrame e) e 0x08 0x03 [])) ∧
       ((join16 hi lo).getLsbD 15 = false →
         ∃ tx : Tx, exec .raiseNotice s = .next (answered { s.popFrame e with
             notice := ⟨s.notice.flags ||| join16 hi lo, s.notice.seen &&& ~~~join16 hi lo, s.notice.enabled⟩, tx := tx }
             e 0x08 0x00 (bytes16 (s.notice.flags ||| join16 hi lo))) ∧
           (s.notice.enabled &&& join16 hi lo ≠ 0 → s.mode.mode ≠ .muted → tx.holds (· == .notice) = true) ∧
           (s.notice.enabled &&& join16 hi lo = 0 ∨ s.mode.mode = .muted → tx = s.tx))))

/-- SET-FILL and SET-SERVE: refused by state or value with no effect but the answer, and otherwise the keg record takes the
values given and the order is answered DONE. The two controllers evaluate a changed phase, and SET-SERVE's targets, the thermal
controller first (log 36). -/
def Obligations.SetFillAndSetServe : Prop :=
  ∀ (s : State) (e : RxEntry) (b1 b0 b : Byte),
    (OrderTaken s e .setFill [b1, b0, b] →
      (s.program.state = .running ∨ s.program.state = .paused ∨ s.pour.state ≠ .idle →
        exec .setFill s = .next (answered (s.popFrame e) e 0x10 0x02 [])) ∧
      (s.program.state ≠ .running → s.program.state ≠ .paused → s.pour.state = .idle →
        (20000 < b1.toNat * 256 + b0.toNat ∨ (b ≠ 0x00 ∧ b ≠ 0x03) →
          exec .setFill s = .next (answered (s.popFrame e) e 0x10 0x03 [])) ∧
        (b1.toNat * 256 + b0.toNat ≤ 20000 → (b = 0x00 ∨ b = 0x03) →
          (let phase : Phase := if b = 0x00 then .none else .serving
           let filled : State := { s.popFrame e with
             keg := { s.keg with
               fill := b1.toNat * 256 + b0.toNat, dispensed := 0, unaccounted := 0, phase := phase, lowPassed := false } }
           exec .setFill s = .next (answered
             (if phase = s.keg.phase then filled else State.pressureEval (State.thermalEval filled)) e 0x10 0x00 []))))) ∧
    (OrderTaken s e .setServe [b1, b0, b] →
      (let target := (BitVec.ofNat 16 (b1.toNat * 256 + b0.toNat)).toInt
       (0 ≤ target ∧ target ≤ 120 ∧ 50 ≤ b.toNat ∧ b.toNat ≤ 250 →
         exec .setServe s = .next (answered (State.pressureEval (State.thermalEval { s.popFrame e with
           keg := { s.keg with serveTarget := target, carbTarget := b.toNat } })) e 0x11 0x00 [])) ∧
       (target < 0 ∨ 120 < target ∨ b.toNat < 50 ∨ 250 < b.toNat →
         exec .setServe s = .next (answered (s.popFrame e) e 0x11 0x03 []))))

/-- LOAD-STEP: the index is judged against the program state first (BAD-STATE), then the record (BAD-VALUE); an accepted record
replaces the one at its position or is appended, EMPTY and COMPLETE become READY, which the thermal controller evaluates, and the
order is answered DONE. -/
def Obligations.LoadStepStoresAValidRecord : Prop :=
  ∀ (s : State) (e : RxEntry) (i : Byte) (record : List Byte), OrderTaken s e .loadStep (i :: record) →
    (let accepted := i.toNat ≤ s.program.steps.length ∧ i.toNat < 16 ∧
       (s.program.state = .running ∨ s.program.state = .paused → ∃ c, s.program.current = some c ∧ c < i.toNat)
     (¬ accepted → exec .loadStep s = .next (answered (s.popFrame e) e 0x20 0x02 [])) ∧
     (accepted → stepOf record = none → exec .loadStep s = .next (answered (s.popFrame e) e 0x20 0x03 [])) ∧
     (∀ st, accepted → stepOf record = some st →
       (let steps := if i.toNat = s.program.steps.length then s.program.steps ++ [st] else s.program.steps.set i.toNat st
        (s.program.state = .empty ∨ s.program.state = .complete →
          exec .loadStep s = .next (answered (State.thermalEval { s.popFrame e with
            program := { s.program with steps := steps, state := .ready } }) e 0x20 0x00 [])) ∧
        (s.program.state ≠ .empty → s.program.state ≠ .complete →
          exec .loadStep s = .next (answered { s.popFrame e with program := { s.program with steps := steps } } e 0x20 0x00 [])))))

/-- CLEAR-PROGRAM: BAD-STATE while RUNNING; in EMPTY nothing changes; in every other state the step table, state, current step,
reasons, elapsed, ramp and due mark are cleared, the keg phase and the activity window stand; the answer is DONE.
START-PROGRAM: accepted where the program is READY, the phase NONE, the probe GOOD and the keg in place and coupled; step 0 is
entered by R121, its ramp from the latest sample, with the activity window cleared; otherwise BAD-STATE with no effect. Both
evaluate the thermal controller before the pressure controller (log 36). -/
def Obligations.ClearAndStartProgram : Prop :=
  (∀ (s : State) (e : RxEntry), OrderTaken s e .clearProgram [] →
    (s.program.state = .running → exec .clearProgram s = .next (answered (s.popFrame e) e 0x21 0x02 [])) ∧
    (s.program.state = .empty → exec .clearProgram s = .next (answered (s.popFrame e) e 0x21 0x00 [])) ∧
    (s.program.state ≠ .running → s.program.state ≠ .empty →
      exec .clearProgram s = .next (answered (State.pressureEval (State.thermalEval { s.popFrame e with
        program := ⟨[], .empty, none, ⟨false, false, false⟩, 0, none, false, s.program.window, s.program.currentHour⟩ }))
        e 0x21 0x00 []))) ∧
  (∀ (s : State) (e : RxEntry), OrderTaken s e .startProgram [] →
    (let accepted := s.program.state = .ready ∧ s.keg.phase = .none ∧ s.thermal.probe = .good ∧
       s.asserted .kegPresent = true ∧ s.asserted .coupled = true
     (¬ accepted → exec .startProgram s = .next (answered (s.popFrame e) e 0x22 0x02 [])) ∧
     (∀ st v, accepted → s.program.steps[0]? = some st → s.thermal.sample = some v →
       exec .startProgram s = .next (answered (State.pressureEval (State.thermalEval { s.popFrame e with
         program := ⟨s.program.steps, .running, some 0, ⟨false, false, false⟩, 0,
           if st.kind = .ramp then some ⟨v, v, 0, v == st.target⟩ else none,
           st.stepEnd == .order && decide (st.duration = 0) && (st.kind != .ramp || v == st.target), List.replicate 24 0, 0⟩
         keg := if st.kind = .condition then { s.keg with phase := .conditioning, carbTarget := st.carb }
           else { s.keg with phase := .fermenting } })) e 0x22 0x00 []))))

/-- PAUSE-PROGRAM adds ORDERED and, from RUNNING, freezes the target and band of the current step (taken from the step whatever the
regime, log 27); where ORDERED is among the reasons of a PAUSED program it changes nothing. RESUME-PROGRAM removes the reasons that no
longer hold and runs the program where none is left, and the thermal controller evaluates what it changed; each answers BAD-STATE
where the program is in no state for it.
ADVANCE-STEP: BAD-STATE unless the program is RUNNING; while RUNNING the current step ends at once by R127, whatever its kind,
end condition, elapsed or ramp progress, and the order is answered DONE. -/
def Obligations.PauseResumeAndAdvance : Prop :=
  (∀ (s : State) (e : RxEntry),
     (OrderTaken s e .pauseProgram [] →
       (s.program.state ≠ .running → s.program.state ≠ .paused →
         exec .pauseProgram s = .next (answered (s.popFrame e) e 0x23 0x02 [])) ∧
       (∀ st, s.program.state = .running → s.program.currentStep = some st → (st.kind = .ramp → s.program.ramp.isSome) →
         exec .pauseProgram s = .next (answered (State.thermalEval { s.popFrame e with
           program := { s.program with state := .paused, reasons := { s.program.reasons with ordered := true } }
           thermal := { s.thermal with
             frozen := some ⟨if st.kind = .ramp then (s.program.ramp.map Ramp.present).getD 0 else st.target, st.band⟩ } })
           e 0x23 0x00 [])) ∧
       (s.program.state = .paused → s.program.reasons.ordered = true →
         exec .pauseProgram s = .next (answered (s.popFrame e) e 0x23 0x00 [])) ∧
       (s.program.state = .paused → s.program.reasons.ordered = false →
         exec .pauseProgram s = .next (answered (State.thermalEval { s.popFrame e with
           program := { s.program with reasons := { s.program.reasons with ordered := true } } }) e 0x23 0x00 []))) ∧
     (OrderTaken s e .resumeProgram [] →
       (s.program.state ≠ .paused → exec .resumeProgram s = .next (answered (s.popFrame e) e 0x24 0x02 [])) ∧
       (s.program.state = .paused →
         (let left : PauseReasons :=
            ⟨false, s.program.reasons.sensor && s.thermal.probe != .good,
              s.program.reasons.kegAbsent && !(s.asserted .kegPresent && s.asserted .coupled)⟩
          (left.sensor = false → left.kegAbsent = false →
            exec .resumeProgram s = .next (answered (State.thermalEval { s.popFrame e with
              program := { s.program with state := .running, reasons := left } }) e 0x24 0x00 [])) ∧
          (left.sensor = true ∨ left.kegAbsent = true → left ≠ s.program.reasons →
            exec .resumeProgram s = .next (answered (State.thermalEval { s.popFrame e with
              program := { s.program with reasons := left } }) e 0x24 0x02 [])) ∧
          (left.sensor = true ∨ left.kegAbsent = true → left = s.program.reasons →
            exec .resumeProgram s = .next (answered (s.popFrame e) e 0x24 0x02 [])))))) ∧
  (∀ (s : State) (e : RxEntry), OrderTaken s e .advanceStep [] →
     (s.program.state ≠ .running → exec .advanceStep s = .next (answered (s.popFrame e) e 0x25 0x02 [])) ∧
     (∀ st c, s.program.state = .running → s.program.currentStep = some st → s.program.current = some c →
       ∃ t, exec .advanceStep s = .next (answered t e 0x25 0x00 []) ∧ StepEnded (s.popFrame e) t c st))

/-- POUR-PORTION alone: BAD-VALUE for an outlet or a volume outside what it allows; BUSY while a pour is in progress; the first
precondition of R157 that fails refuses it; otherwise the pour is accepted by R158 and answered DONE.
STOP-POUR ends a POURING pour STOPPED, whatever its outlet and kind, and is answered DONE; otherwise BAD-STATE. RESTART-BAY
sets the restart mark and is answered DONE; with the mark set, BAD-STATE. -/
def Obligations.PourOrdersAndRestartBay : Prop :=
  (∀ (s : State) (e : RxEntry) (o v1 v0 : Byte), OrderTaken s e .pourPortion [o, v1, v0] →
    (let volume := v1.toNat * 256 + v0.toNat
     let wellFormed := (o = 0x01 ∨ o = 0x02) ∧ 50 ≤ volume ∧ volume ≤ 2000
     let refused (r : PourRefusal) : Prop :=
       ∃ tx : Tx, exec (.pourPortion []) s = .next (answered { s.popFrame e with
         keg := { s.keg with lastRefusal := some r }, notice := s.notice.raised 0x1000, tx := tx } e 0x30 0x02 [])
     let coupled := s.asserted .kegPresent = true ∧ s.asserted .coupled = true
     let cool := s.thermal.probe = .good ∧ ∃ v, s.thermal.sample = some v ∧ v ≤ s.cfg.serveMax
     let firm := s.pressure.sensor = .good ∧ ∃ v, s.pressure.sample = some v ∧ (s.cfg.serveMin : Int) ≤ v
     (¬ wellFormed → exec (.pourPortion []) s = .next (answered (s.popFrame e) e 0x30 0x03 [])) ∧
     (wellFormed →
       (s.pour.state ≠ .idle → refused .busy) ∧
       (s.pour.state = .idle → s.keg.phase ≠ .serving → refused .notServing) ∧
       (s.pour.state = .idle → s.keg.phase = .serving → ¬ coupled → refused .notCoupled) ∧
       (s.pour.state = .idle → s.keg.phase = .serving → coupled → ¬ cool → refused .tooWarm) ∧
       (s.pour.state = .idle → s.keg.phase = .serving → coupled → cool → ¬ firm → refused .lowPressure) ∧
       (s.pour.state = .idle → s.keg.phase = .serving → coupled → cool → firm → s.keg.fill ≤ s.keg.dispensed →
         refused .noBeer) ∧
       (s.pour.state = .idle → s.keg.phase = .serving → coupled → cool → firm → s.keg.dispensed < s.keg.fill →
         exec (.pourPortion []) s = .next (answered (State.pressureEval { s.popFrame e with
           pour := { s.pour with
             state := .pouring
             record := some ⟨if o = 0x01 then .front else .fill, .portion, some volume, 0, none⟩
             remainder := 0, seconds := 0, dry := 0, foam := 0, pulses := 0 }
           staged := { s.staged with frontValve := o == 0x01, fillValve := o == 0x02 } }) e 0x30 0x00 []))))) ∧
  (∀ (s : State) (e : RxEntry),
    (OrderTaken s e .stopPour [] →
      (s.pour.state ≠ .pouring → exec .stopPour s = .next (answered (s.popFrame e) e 0x31 0x02 [])) ∧
      (s.pour.state = .pouring →
        exec .stopPour s = .next (answered (State.pressureEval { s.popFrame e with
          pour := { s.pour with
            state := .settling, settle := 0, record := s.pour.record.map (fun r => { r with reason := some .stopped }) }
          staged := { s.staged with frontValve := false, fillValve := false } }) e 0x31 0x00 []))) ∧
    (OrderTaken s e .restartBay [] →
      (s.orders.restartMark = true → exec .restartBay s = .next (answered (s.popFrame e) e 0x3F 0x02 [])) ∧
      (s.orders.restartMark = false →
        exec .restartBay s =
          .next (answered { s.popFrame e with orders := { s.orders with restartMark := true } } e 0x3F 0x00 []))))

/-! ### Outputs -/

/-- The driven value of every output by the table of R174: an output other than RELIEF-VALVE is open while it is staged open and
no condition that holds it closed stands; RELIEF-VALVE while safety or pressure-fault forcing stands or it is staged open. -/
def Obligations.OutputsAreDrivenByStagingAndForcing : Prop :=
  ∀ s : State, s.power = .running →
    (let permitted (x : Resource) : Bool :=
       s.mode.mode == .active &&
         (demandState true (s.demand.get x) == .held || demandState true (s.demand.get x) == .changing)
     let hold := s.mode.mode == .starting
     let pouring (o : Outlet) : Bool := s.pour.state == .pouring && (s.pour.record.map OpenPour.outlet == some o)
     s.driven.chillValve = (s.staged.chillValve && permitted .chill && !hold && s.thermal.probe != .fault) ∧
     s.driven.heater = (s.staged.heater && permitted .heat && !hold && s.thermal.probe != .fault) ∧
     s.driven.gasValve = (s.staged.gasValve && permitted .gas && !hold && !s.pressure.leak) ∧
     s.driven.frontValve = (s.staged.frontValve && pouring .front && !hold) ∧
     s.driven.fillValve = (s.staged.fillValve && pouring .fill && !hold) ∧
     s.driven.reliefValve = (s.pressure.tripped || s.pressure.sensor == .fault || s.staged.reliefValve))

/-- The in-band signal: true exactly where the probe is GOOD, the regime is not OFF and the latest sample lies within the band
about the effective target, both ends included. -/
def Obligations.InBandSignal : Prop :=
  ∀ t : Thermal, t.inBand = true ↔
    t.probe = .good ∧ (t.regime = .step ∨ t.regime = .frozen ∨ t.regime = .serve) ∧
      ∃ h v, t.effective = some h ∧ t.sample = some v ∧ h.target - h.band ≤ v ∧ v ≤ h.target + h.band

/-- The laws of the device about driven outputs: never both outlets, an outlet only while POURING on it; never chill valve and
heater together; a shared output only while ACTIVE with a GRANTED own entry; the relief open at the safety limit or in a fault. -/
def Obligations.DrivenOutputsKeepTheDeviceLaws : Prop :=
  ∀ s : State,
    ¬ (s.driven.frontValve = true ∧ s.driven.fillValve = true) ∧
    (s.driven.frontValve = true → s.pour.state = .pouring ∧ s.pour.record.map OpenPour.outlet = some .front) ∧
    (s.driven.fillValve = true → s.pour.state = .pouring ∧ s.pour.record.map OpenPour.outlet = some .fill) ∧
    (thermalLaw s = true → ¬ (s.driven.chillValve = true ∧ s.driven.heater = true)) ∧
    (standingLaw s = true →
      (s.driven.chillValve = true → s.mode.mode = .active ∧ s.holdsGrant .chill = true) ∧
      (s.driven.heater = true → s.mode.mode = .active ∧ s.holdsGrant .heat = true) ∧
      (s.driven.gasValve = true → s.mode.mode = .active ∧ s.holdsGrant .gas = true)) ∧
    (reliefLaw s = true → s.power = .running →
      (s.pressure.sensor = .fault ∨
        (s.pressure.sensor = .good ∧ ∃ v, s.pressure.sample = some v ∧ (s.cfg.safetyLimit : Int) ≤ v)) →
      s.driven.reliefValve = true)

/-! ### Laws every step keeps -/

/-- Every step keeps the keg record's law: remaining and dispensed volume make up the fill volume, each in its range. -/
def Obligations.EveryStepKeepsTheKegLaw : Prop :=
  ∀ s t : State, kegLaw s.keg = true → step s = .next t → kegLaw t.keg = true

/-- Every step keeps the notice law: bit 15 is 0 in every set, and only set flags are seen. -/
def Obligations.EveryStepKeepsTheNoticeLaw : Prop :=
  ∀ s t : State, noticeLaw s.notice = true → step s = .next t → noticeLaw t.notice = true

/-- A flag that is set and unseen stays set and unseen through every step but a READ-NOTICES and a COLD start. -/
def Obligations.UnseenFlagsSurviveUntilTheNextRead : Prop :=
  ∀ (s t : State) (i : Nat), s.notice.flags.getLsbD i = true → s.notice.seen.getLsbD i = false →
    s.pending.head? ≠ some .readNotices → (∀ strap, s.pending.head? ≠ some (.coldStart strap)) →
    step s = .next t → t.notice.flags.getLsbD i = true ∧ t.notice.seen.getLsbD i = false

/-- Every step keeps the thermal law: the two stagings follow the two needs, and the needs are never present together. Every step
keeps the relief law: a valid latest sample at or above the safety limit stands with the safety state TRIPPED. -/
def Obligations.EveryStepKeepsTheThermalAndReliefLaws : Prop :=
  ∀ s t : State, step s = .next t →
    (thermalLaw s = true → thermalLaw t = true) ∧ (reliefLaw s = true → reliefLaw t = true)

/-- Every step keeps the pending answer count equal to the answer places held and at most 2; the counts in 0 to 255; the queued
entries in order of urgency; and at most four frames in the receive queue, none while no frame is in hand. -/
def Obligations.EveryStepKeepsTheCountsAndQueues : Prop :=
  ∀ s t : State, step s = .next t →
    (answerLaw s = true → answerLaw t = true) ∧ (countLaw s = true → countLaw t = true) ∧
    (orderLaw s.tx = true → orderLaw t.tx = true) ∧ (receiveLaw s = true → receiveLaw t = true)

/-- Every step keeps the law of frames: outside ACTIVE no CLAIM, RENEW, EXPIRE or SYNC-TABLE holds a place and no frame is
pending. Every step keeps the roster: one entry for each address of 1 to 12 other than the own, by ascending address. -/
def Obligations.EveryStepKeepsTheFramesAndRosterLaws : Prop :=
  ∀ s t : State, step s = .next t →
    (loadLaw s = true → framesLaw s = true → loadLaw t = true ∧ framesLaw t = true) ∧
    (rosterLaw s = true → rosterLaw t = true)

/-- Every step keeps the program law and the pour law: EMPTY holds no step record, READY and COMPLETE hold at least one; while
RUNNING or PAUSED the current step stands below the count and the phase is FERMENTING or CONDITIONING, and otherwise there is none;
the engine is POURING only in SERVING with the keg present and coupled. -/
def Obligations.EveryStepKeepsTheProgramAndPourLaws : Prop :=
  ∀ s t : State, loadLaw s = true → programLaw s = true → pourLaw s = true → step s = .next t →
    programLaw t = true ∧ pourLaw t = true

/-- Every step keeps the laws of the share table: its holding by mode, the pool law, single appearance, order of rank, and a head
that does not fit. -/
def Obligations.EveryStepKeepsTheTableLaw : Prop :=
  ∀ s t : State, tableLaw s = true → step s = .next t → tableLaw t = true

/-- Every step keeps each demand record's standing equal to what the station's own table holds for its bay. It rests on the model's
reading (log 14): a standing is none whenever the table is dropped, cleared or founded, and is taken from the table as the station
becomes ACTIVE. -/
def Obligations.EveryStepKeepsTheStandingLaw : Prop :=
  ∀ s t : State, tableLaw s = true → standingLaw s = true → step s = .next t → standingLaw t = true
end

