-- ==== Sys2Proof/Laws/State.lean ====
section
/-! SUPPORT. What the shared operations without a branch leave alone: one lemma for each field of State and each operation, true by
definition; and the reading of one resource after a write. -/

namespace Sys2Proof.Machine

/-! ### One value for each resource -/

@[simp] theorem PerRes.get_set_self {α : Type} (p : PerRes α) (x : Resource) (v : α) : (p.set x v).get x = v := by
  cases x <;> rfl

theorem PerRes.get_set {α : Type} (p : PerRes α) (x y : Resource) (v : α) :
    (p.set x v).get y = if y = x then v else p.get y := by
  cases x <;> cases y <;> rfl

@[simp] theorem PerRes.get_map {α β : Type} (f : α → β) (p : PerRes α) (x : Resource) :
    (p.map f).get x = f (p.get x) := by
  cases x <;> rfl

@[simp] theorem PerRes.get_all {α : Type} (v : α) (x : Resource) : (PerRes.all v).get x = v := by
  cases x <;> rfl

/-! ### State.raise -/

@[simp] theorem State.raise_power (s : State) (m : Word) : (s.raise m).power = s.power := rfl
@[simp] theorem State.raise_timebase (s : State) (m : Word) : (s.raise m).timebase = s.timebase := rfl
@[simp] theorem State.raise_load (s : State) (m : Word) : (s.raise m).load = s.load := rfl
@[simp] theorem State.raise_cfg (s : State) (m : Word) : (s.raise m).cfg = s.cfg := rfl
@[simp] theorem State.raise_line (s : State) (m : Word) : (s.raise m).line = s.line := rfl
@[simp] theorem State.raise_handler (s : State) (m : Word) : (s.raise m).handler = s.handler := rfl
@[simp] theorem State.raise_share (s : State) (m : Word) : (s.raise m).share = s.share := rfl
@[simp] theorem State.raise_lease (s : State) (m : Word) : (s.raise m).lease = s.lease := rfl
@[simp] theorem State.raise_demand (s : State) (m : Word) : (s.raise m).demand = s.demand := rfl
@[simp] theorem State.raise_mode (s : State) (m : Word) : (s.raise m).mode = s.mode := rfl
@[simp] theorem State.raise_thermal (s : State) (m : Word) : (s.raise m).thermal = s.thermal := rfl
@[simp] theorem State.raise_program (s : State) (m : Word) : (s.raise m).program = s.program := rfl
@[simp] theorem State.raise_pressure (s : State) (m : Word) : (s.raise m).pressure = s.pressure := rfl
@[simp] theorem State.raise_pour (s : State) (m : Word) : (s.raise m).pour = s.pour := rfl
@[simp] theorem State.raise_keg (s : State) (m : Word) : (s.raise m).keg = s.keg := rfl
@[simp] theorem State.raise_inputs (s : State) (m : Word) : (s.raise m).inputs = s.inputs := rfl
@[simp] theorem State.raise_staged (s : State) (m : Word) : (s.raise m).staged = s.staged := rfl
@[simp] theorem State.raise_orders (s : State) (m : Word) : (s.raise m).orders = s.orders := rfl
@[simp] theorem State.raise_pending (s : State) (m : Word) : (s.raise m).pending = s.pending := rfl
@[simp] theorem State.raise_draws (s : State) (m : Word) : (s.raise m).draws = s.draws := rfl

/-! ### State.publish -/

@[simp] theorem State.publish_power (s : State) (x : Resource) (n : Option Need) :
    (s.publish x n).power = s.power := rfl
@[simp] theorem State.publish_timebase (s : State) (x : Resource) (n : Option Need) :
    (s.publish x n).timebase = s.timebase := rfl
@[simp] theorem State.publish_load (s : State) (x : Resource) (n : Option Need) : (s.publish x n).load = s.load := rfl
@[simp] theorem State.publish_cfg (s : State) (x : Resource) (n : Option Need) : (s.publish x n).cfg = s.cfg := rfl
@[simp] theorem State.publish_line (s : State) (x : Resource) (n : Option Need) : (s.publish x n).line = s.line := rfl
@[simp] theorem State.publish_handler (s : State) (x : Resource) (n : Option Need) :
    (s.publish x n).handler = s.handler := rfl
@[simp] theorem State.publish_share (s : State) (x : Resource) (n : Option Need) :
    (s.publish x n).share = s.share := rfl
@[simp] theorem State.publish_lease (s : State) (x : Resource) (n : Option Need) :
    (s.publish x n).lease = s.lease := rfl
@[simp] theorem State.publish_mode (s : State) (x : Resource) (n : Option Need) : (s.publish x n).mode = s.mode := rfl
@[simp] theorem State.publish_thermal (s : State) (x : Resource) (n : Option Need) :
    (s.publish x n).thermal = s.thermal := rfl
@[simp] theorem State.publish_program (s : State) (x : Resource) (n : Option Need) :
    (s.publish x n).program = s.program := rfl
@[simp] theorem State.publish_pressure (s : State) (x : Resource) (n : Option Need) :
    (s.publish x n).pressure = s.pressure := rfl
@[simp] theorem State.publish_pour (s : State) (x : Resource) (n : Option Need) : (s.publish x n).pour = s.pour := rfl
@[simp] theorem State.publish_keg (s : State) (x : Resource) (n : Option Need) : (s.publish x n).keg = s.keg := rfl
@[simp] theorem State.publish_inputs (s : State) (x : Resource) (n : Option Need) :
    (s.publish x n).inputs = s.inputs := rfl
@[simp] theorem State.publish_staged (s : State) (x : Resource) (n : Option Need) :
    (s.publish x n).staged = s.staged := rfl
@[simp] theorem State.publish_notice (s : State) (x : Resource) (n : Option Need) :
    (s.publish x n).notice = s.notice := rfl
@[simp] theorem State.publish_orders (s : State) (x : Resource) (n : Option Need) :
    (s.publish x n).orders = s.orders := rfl
@[simp] theorem State.publish_pending (s : State) (x : Resource) (n : Option Need) :
    (s.publish x n).pending = s.pending := rfl
@[simp] theorem State.publish_draws (s : State) (x : Resource) (n : Option Need) :
    (s.publish x n).draws = s.draws := rfl

/-! ### State.onDemand -/

@[simp] theorem State.onDemand_power (s : State) (x : Resource) (f : DemandTx → DemandTx) :
    (s.onDemand x f).power = s.power := rfl
@[simp] theorem State.onDemand_timebase (s : State) (x : Resource) (f : DemandTx → DemandTx) :
    (s.onDemand x f).timebase = s.timebase := rfl
@[simp] theorem State.onDemand_load (s : State) (x : Resource) (f : DemandTx → DemandTx) :
    (s.onDemand x f).load = s.load := rfl
@[simp] theorem State.onDemand_cfg (s : State) (x : Resource) (f : DemandTx → DemandTx) :
    (s.onDemand x f).cfg = s.cfg := rfl
@[simp] theorem State.onDemand_line (s : State) (x : Resource) (f : DemandTx → DemandTx) :
    (s.onDemand x f).line = s.line := rfl
@[simp] theorem State.onDemand_handler (s : State) (x : Resource) (f : DemandTx → DemandTx) :
    (s.onDemand x f).handler = s.handler := rfl
@[simp] theorem State.onDemand_share (s : State) (x : Resource) (f : DemandTx → DemandTx) :
    (s.onDemand x f).share = s.share := rfl
@[simp] theorem State.onDemand_lease (s : State) (x : Resource) (f : DemandTx → DemandTx) :
    (s.onDemand x f).lease = s.lease := rfl
@[simp] theorem State.onDemand_mode (s : State) (x : Resource) (f : DemandTx → DemandTx) :
    (s.onDemand x f).mode = s.mode := rfl
@[simp] theorem State.onDemand_thermal (s : State) (x : Resource) (f : DemandTx → DemandTx) :
    (s.onDemand x f).thermal = s.thermal := rfl
@[simp] theorem State.onDemand_program (s : State) (x : Resource) (f : DemandTx → DemandTx) :
    (s.onDemand x f).program = s.program := rfl
@[simp] theorem State.onDemand_pressure (s : State) (x : Resource) (f : DemandTx → DemandTx) :
    (s.onDemand x f).pressure = s.pressure := rfl
@[simp] theorem State.onDemand_pour (s : State) (x : Resource) (f : DemandTx → DemandTx) :
    (s.onDemand x f).pour = s.pour := rfl
@[simp] theorem State.onDemand_keg (s : State) (x : Resource) (f : DemandTx → DemandTx) :
    (s.onDemand x f).keg = s.keg := rfl
@[simp] theorem State.onDemand_inputs (s : State) (x : Resource) (f : DemandTx → DemandTx) :
    (s.onDemand x f).inputs = s.inputs := rfl
@[simp] theorem State.onDemand_staged (s : State) (x : Resource) (f : DemandTx → DemandTx) :
    (s.onDemand x f).staged = s.staged := rfl
@[simp] theorem State.onDemand_notice (s : State) (x : Resource) (f : DemandTx → DemandTx) :
    (s.onDemand x f).notice = s.notice := rfl
@[simp] theorem State.onDemand_orders (s : State) (x : Resource) (f : DemandTx → DemandTx) :
    (s.onDemand x f).orders = s.orders := rfl
@[simp] theorem State.onDemand_pending (s : State) (x : Resource) (f : DemandTx → DemandTx) :
    (s.onDemand x f).pending = s.pending := rfl
@[simp] theorem State.onDemand_draws (s : State) (x : Resource) (f : DemandTx → DemandTx) :
    (s.onDemand x f).draws = s.draws := rfl

/-! ### State.popFrame -/

@[simp] theorem State.popFrame_power (s : State) (e : RxEntry) : (s.popFrame e).power = s.power := rfl
@[simp] theorem State.popFrame_timebase (s : State) (e : RxEntry) : (s.popFrame e).timebase = s.timebase := rfl
@[simp] theorem State.popFrame_load (s : State) (e : RxEntry) : (s.popFrame e).load = s.load := rfl
@[simp] theorem State.popFrame_cfg (s : State) (e : RxEntry) : (s.popFrame e).cfg = s.cfg := rfl
@[simp] theorem State.popFrame_tx (s : State) (e : RxEntry) : (s.popFrame e).tx = s.tx := rfl
@[simp] theorem State.popFrame_handler (s : State) (e : RxEntry) :
    (s.popFrame e).handler = { s.handler with inHand := s.line.rxQueue.head? } := rfl
@[simp] theorem State.popFrame_share (s : State) (e : RxEntry) : (s.popFrame e).share = s.share := rfl
@[simp] theorem State.popFrame_lease (s : State) (e : RxEntry) : (s.popFrame e).lease = s.lease := rfl
@[simp] theorem State.popFrame_demand (s : State) (e : RxEntry) : (s.popFrame e).demand = s.demand := rfl
@[simp] theorem State.popFrame_thermal (s : State) (e : RxEntry) : (s.popFrame e).thermal = s.thermal := rfl
@[simp] theorem State.popFrame_program (s : State) (e : RxEntry) : (s.popFrame e).program = s.program := rfl
@[simp] theorem State.popFrame_pressure (s : State) (e : RxEntry) : (s.popFrame e).pressure = s.pressure := rfl
@[simp] theorem State.popFrame_pour (s : State) (e : RxEntry) : (s.popFrame e).pour = s.pour := rfl
@[simp] theorem State.popFrame_keg (s : State) (e : RxEntry) : (s.popFrame e).keg = s.keg := rfl
@[simp] theorem State.popFrame_inputs (s : State) (e : RxEntry) : (s.popFrame e).inputs = s.inputs := rfl
@[simp] theorem State.popFrame_staged (s : State) (e : RxEntry) : (s.popFrame e).staged = s.staged := rfl
@[simp] theorem State.popFrame_notice (s : State) (e : RxEntry) : (s.popFrame e).notice = s.notice := rfl
@[simp] theorem State.popFrame_orders (s : State) (e : RxEntry) : (s.popFrame e).orders = s.orders := rfl
@[simp] theorem State.popFrame_pending (s : State) (e : RxEntry) : (s.popFrame e).pending = s.pending := rfl
@[simp] theorem State.popFrame_draws (s : State) (e : RxEntry) : (s.popFrame e).draws = s.draws := rfl

/-! ### State.announceRequest -/

@[simp] theorem State.announceRequest_power (s : State) : (s.announceRequest).power = s.power := rfl
@[simp] theorem State.announceRequest_timebase (s : State) : (s.announceRequest).timebase = s.timebase := rfl
@[simp] theorem State.announceRequest_load (s : State) : (s.announceRequest).load = s.load := rfl
@[simp] theorem State.announceRequest_cfg (s : State) : (s.announceRequest).cfg = s.cfg := rfl
@[simp] theorem State.announceRequest_line (s : State) : (s.announceRequest).line = s.line := rfl
@[simp] theorem State.announceRequest_handler (s : State) : (s.announceRequest).handler = s.handler := rfl
@[simp] theorem State.announceRequest_share (s : State) : (s.announceRequest).share = s.share := rfl
@[simp] theorem State.announceRequest_lease (s : State) : (s.announceRequest).lease = s.lease := rfl
@[simp] theorem State.announceRequest_demand (s : State) : (s.announceRequest).demand = s.demand := rfl
@[simp] theorem State.announceRequest_thermal (s : State) : (s.announceRequest).thermal = s.thermal := rfl
@[simp] theorem State.announceRequest_program (s : State) : (s.announceRequest).program = s.program := rfl
@[simp] theorem State.announceRequest_pressure (s : State) : (s.announceRequest).pressure = s.pressure := rfl
@[simp] theorem State.announceRequest_pour (s : State) : (s.announceRequest).pour = s.pour := rfl
@[simp] theorem State.announceRequest_keg (s : State) : (s.announceRequest).keg = s.keg := rfl
@[simp] theorem State.announceRequest_inputs (s : State) : (s.announceRequest).inputs = s.inputs := rfl
@[simp] theorem State.announceRequest_staged (s : State) : (s.announceRequest).staged = s.staged := rfl
@[simp] theorem State.announceRequest_notice (s : State) : (s.announceRequest).notice = s.notice := rfl
@[simp] theorem State.announceRequest_orders (s : State) : (s.announceRequest).orders = s.orders := rfl
@[simp] theorem State.announceRequest_pending (s : State) : (s.announceRequest).pending = s.pending := rfl
@[simp] theorem State.announceRequest_draws (s : State) : (s.announceRequest).draws = s.draws := rfl

/-! ### State.setTable -/

@[simp] theorem State.setTable_power (s : State) (sh : Share) : (s.setTable sh).power = s.power := rfl
@[simp] theorem State.setTable_timebase (s : State) (sh : Share) : (s.setTable sh).timebase = s.timebase := rfl
@[simp] theorem State.setTable_load (s : State) (sh : Share) : (s.setTable sh).load = s.load := rfl
@[simp] theorem State.setTable_cfg (s : State) (sh : Share) : (s.setTable sh).cfg = s.cfg := rfl
@[simp] theorem State.setTable_line (s : State) (sh : Share) : (s.setTable sh).line = s.line := rfl
@[simp] theorem State.setTable_tx (s : State) (sh : Share) : (s.setTable sh).tx = s.tx := rfl
@[simp] theorem State.setTable_handler (s : State) (sh : Share) : (s.setTable sh).handler = s.handler := rfl
@[simp] theorem State.setTable_mode (s : State) (sh : Share) : (s.setTable sh).mode = s.mode := rfl
@[simp] theorem State.setTable_thermal (s : State) (sh : Share) : (s.setTable sh).thermal = s.thermal := rfl
@[simp] theorem State.setTable_program (s : State) (sh : Share) : (s.setTable sh).program = s.program := rfl
@[simp] theorem State.setTable_pressure (s : State) (sh : Share) : (s.setTable sh).pressure = s.pressure := rfl
@[simp] theorem State.setTable_pour (s : State) (sh : Share) : (s.setTable sh).pour = s.pour := rfl
@[simp] theorem State.setTable_keg (s : State) (sh : Share) : (s.setTable sh).keg = s.keg := rfl
@[simp] theorem State.setTable_inputs (s : State) (sh : Share) : (s.setTable sh).inputs = s.inputs := rfl
@[simp] theorem State.setTable_staged (s : State) (sh : Share) : (s.setTable sh).staged = s.staged := rfl
@[simp] theorem State.setTable_notice (s : State) (sh : Share) : (s.setTable sh).notice = s.notice := rfl
@[simp] theorem State.setTable_orders (s : State) (sh : Share) : (s.setTable sh).orders = s.orders := rfl
@[simp] theorem State.setTable_pending (s : State) (sh : Share) : (s.setTable sh).pending = s.pending := rfl
@[simp] theorem State.setTable_draws (s : State) (sh : Share) : (s.setTable sh).draws = s.draws := rfl

/-! ### State.countChange -/

@[simp] theorem State.countChange_power (s : State) (b : Bool) : (s.countChange b).power = s.power := rfl
@[simp] theorem State.countChange_timebase (s : State) (b : Bool) : (s.countChange b).timebase = s.timebase := rfl
@[simp] theorem State.countChange_load (s : State) (b : Bool) : (s.countChange b).load = s.load := rfl
@[simp] theorem State.countChange_cfg (s : State) (b : Bool) : (s.countChange b).cfg = s.cfg := rfl
@[simp] theorem State.countChange_line (s : State) (b : Bool) : (s.countChange b).line = s.line := rfl
@[simp] theorem State.countChange_tx (s : State) (b : Bool) : (s.countChange b).tx = s.tx := rfl
@[simp] theorem State.countChange_handler (s : State) (b : Bool) : (s.countChange b).handler = s.handler := rfl
@[simp] theorem State.countChange_lease (s : State) (b : Bool) : (s.countChange b).lease = s.lease := rfl
@[simp] theorem State.countChange_demand (s : State) (b : Bool) : (s.countChange b).demand = s.demand := rfl
@[simp] theorem State.countChange_mode (s : State) (b : Bool) : (s.countChange b).mode = s.mode := rfl
@[simp] theorem State.countChange_thermal (s : State) (b : Bool) : (s.countChange b).thermal = s.thermal := rfl
@[simp] theorem State.countChange_program (s : State) (b : Bool) : (s.countChange b).program = s.program := rfl
@[simp] theorem State.countChange_pressure (s : State) (b : Bool) : (s.countChange b).pressure = s.pressure := rfl
@[simp] theorem State.countChange_pour (s : State) (b : Bool) : (s.countChange b).pour = s.pour := rfl
@[simp] theorem State.countChange_keg (s : State) (b : Bool) : (s.countChange b).keg = s.keg := rfl
@[simp] theorem State.countChange_inputs (s : State) (b : Bool) : (s.countChange b).inputs = s.inputs := rfl
@[simp] theorem State.countChange_staged (s : State) (b : Bool) : (s.countChange b).staged = s.staged := rfl
@[simp] theorem State.countChange_notice (s : State) (b : Bool) : (s.countChange b).notice = s.notice := rfl
@[simp] theorem State.countChange_orders (s : State) (b : Bool) : (s.countChange b).orders = s.orders := rfl
@[simp] theorem State.countChange_pending (s : State) (b : Bool) : (s.countChange b).pending = s.pending := rfl
@[simp] theorem State.countChange_draws (s : State) (b : Bool) : (s.countChange b).draws = s.draws := rfl

/-! ### State.answer -/

@[simp] theorem State.answer_power (s : State) (e : RxEntry) (c : Byte) (r : Result) (d : List Byte) :
    (s.answer e c r d).power = s.power := rfl
@[simp] theorem State.answer_timebase (s : State) (e : RxEntry) (c : Byte) (r : Result) (d : List Byte) :
    (s.answer e c r d).timebase = s.timebase := rfl
@[simp] theorem State.answer_load (s : State) (e : RxEntry) (c : Byte) (r : Result) (d : List Byte) :
    (s.answer e c r d).load = s.load := rfl
@[simp] theorem State.answer_cfg (s : State) (e : RxEntry) (c : Byte) (r : Result) (d : List Byte) :
    (s.answer e c r d).cfg = s.cfg := rfl
@[simp] theorem State.answer_line (s : State) (e : RxEntry) (c : Byte) (r : Result) (d : List Byte) :
    (s.answer e c r d).line = s.line := rfl
@[simp] theorem State.answer_handler (s : State) (e : RxEntry) (c : Byte) (r : Result) (d : List Byte) :
    (s.answer e c r d).handler = s.handler := rfl
@[simp] theorem State.answer_share (s : State) (e : RxEntry) (c : Byte) (r : Result) (d : List Byte) :
    (s.answer e c r d).share = s.share := rfl
@[simp] theorem State.answer_lease (s : State) (e : RxEntry) (c : Byte) (r : Result) (d : List Byte) :
    (s.answer e c r d).lease = s.lease := rfl
@[simp] theorem State.answer_demand (s : State) (e : RxEntry) (c : Byte) (r : Result) (d : List Byte) :
    (s.answer e c r d).demand = s.demand := rfl
@[simp] theorem State.answer_mode (s : State) (e : RxEntry) (c : Byte) (r : Result) (d : List Byte) :
    (s.answer e c r d).mode = s.mode := rfl
@[simp] theorem State.answer_thermal (s : State) (e : RxEntry) (c : Byte) (r : Result) (d : List Byte) :
    (s.answer e c r d).thermal = s.thermal := rfl
@[simp] theorem State.answer_program (s : State) (e : RxEntry) (c : Byte) (r : Result) (d : List Byte) :
    (s.answer e c r d).program = s.program := rfl
@[simp] theorem State.answer_pressure (s : State) (e : RxEntry) (c : Byte) (r : Result) (d : List Byte) :
    (s.answer e c r d).pressure = s.pressure := rfl
@[simp] theorem State.answer_pour (s : State) (e : RxEntry) (c : Byte) (r : Result) (d : List Byte) :
    (s.answer e c r d).pour = s.pour := rfl
@[simp] theorem State.answer_keg (s : State) (e : RxEntry) (c : Byte) (r : Result) (d : List Byte) :
    (s.answer e c r d).keg = s.keg := rfl
@[simp] theorem State.answer_inputs (s : State) (e : RxEntry) (c : Byte) (r : Result) (d : List Byte) :
    (s.answer e c r d).inputs = s.inputs := rfl
@[simp] theorem State.answer_staged (s : State) (e : RxEntry) (c : Byte) (r : Result) (d : List Byte) :
    (s.answer e c r d).staged = s.staged := rfl
@[simp] theorem State.answer_notice (s : State) (e : RxEntry) (c : Byte) (r : Result) (d : List Byte) :
    (s.answer e c r d).notice = s.notice := rfl
@[simp] theorem State.answer_pending (s : State) (e : RxEntry) (c : Byte) (r : Result) (d : List Byte) :
    (s.answer e c r d).pending = s.pending := rfl
@[simp] theorem State.answer_draws (s : State) (e : RxEntry) (c : Byte) (r : Result) (d : List Byte) :
    (s.answer e c r d).draws = s.draws := rfl

/-! ### State.dropOrder -/

@[simp] theorem State.dropOrder_power (s : State) : (s.dropOrder).power = s.power := rfl
@[simp] theorem State.dropOrder_timebase (s : State) : (s.dropOrder).timebase = s.timebase := rfl
@[simp] theorem State.dropOrder_load (s : State) : (s.dropOrder).load = s.load := rfl
@[simp] theorem State.dropOrder_cfg (s : State) : (s.dropOrder).cfg = s.cfg := rfl
@[simp] theorem State.dropOrder_line (s : State) : (s.dropOrder).line = s.line := rfl
@[simp] theorem State.dropOrder_tx (s : State) : (s.dropOrder).tx = s.tx := rfl
@[simp] theorem State.dropOrder_handler (s : State) : (s.dropOrder).handler = s.handler := rfl
@[simp] theorem State.dropOrder_share (s : State) : (s.dropOrder).share = s.share := rfl
@[simp] theorem State.dropOrder_lease (s : State) : (s.dropOrder).lease = s.lease := rfl
@[simp] theorem State.dropOrder_demand (s : State) : (s.dropOrder).demand = s.demand := rfl
@[simp] theorem State.dropOrder_mode (s : State) : (s.dropOrder).mode = s.mode := rfl
@[simp] theorem State.dropOrder_thermal (s : State) : (s.dropOrder).thermal = s.thermal := rfl
@[simp] theorem State.dropOrder_program (s : State) : (s.dropOrder).program = s.program := rfl
@[simp] theorem State.dropOrder_pressure (s : State) : (s.dropOrder).pressure = s.pressure := rfl
@[simp] theorem State.dropOrder_pour (s : State) : (s.dropOrder).pour = s.pour := rfl
@[simp] theorem State.dropOrder_keg (s : State) : (s.dropOrder).keg = s.keg := rfl
@[simp] theorem State.dropOrder_inputs (s : State) : (s.dropOrder).inputs = s.inputs := rfl
@[simp] theorem State.dropOrder_staged (s : State) : (s.dropOrder).staged = s.staged := rfl
@[simp] theorem State.dropOrder_notice (s : State) : (s.dropOrder).notice = s.notice := rfl
@[simp] theorem State.dropOrder_pending (s : State) : (s.dropOrder).pending = s.pending := rfl
@[simp] theorem State.dropOrder_draws (s : State) : (s.dropOrder).draws = s.draws := rfl

/-! ### State.settleAll -/

@[simp] theorem State.settleAll_power (s : State) (l : List Input) : (s.settleAll l).power = s.power := rfl
@[simp] theorem State.settleAll_timebase (s : State) (l : List Input) : (s.settleAll l).timebase = s.timebase := rfl
@[simp] theorem State.settleAll_load (s : State) (l : List Input) : (s.settleAll l).load = s.load := rfl
@[simp] theorem State.settleAll_cfg (s : State) (l : List Input) : (s.settleAll l).cfg = s.cfg := rfl
@[simp] theorem State.settleAll_line (s : State) (l : List Input) : (s.settleAll l).line = s.line := rfl
@[simp] theorem State.settleAll_tx (s : State) (l : List Input) : (s.settleAll l).tx = s.tx := rfl
@[simp] theorem State.settleAll_handler (s : State) (l : List Input) : (s.settleAll l).handler = s.handler := rfl
@[simp] theorem State.settleAll_share (s : State) (l : List Input) : (s.settleAll l).share = s.share := rfl
@[simp] theorem State.settleAll_lease (s : State) (l : List Input) : (s.settleAll l).lease = s.lease := rfl
@[simp] theorem State.settleAll_demand (s : State) (l : List Input) : (s.settleAll l).demand = s.demand := rfl
@[simp] theorem State.settleAll_mode (s : State) (l : List Input) : (s.settleAll l).mode = s.mode := rfl
@[simp] theorem State.settleAll_thermal (s : State) (l : List Input) : (s.settleAll l).thermal = s.thermal := rfl
@[simp] theorem State.settleAll_program (s : State) (l : List Input) : (s.settleAll l).program = s.program := rfl
@[simp] theorem State.settleAll_pressure (s : State) (l : List Input) : (s.settleAll l).pressure = s.pressure := rfl
@[simp] theorem State.settleAll_pour (s : State) (l : List Input) : (s.settleAll l).pour = s.pour := rfl
@[simp] theorem State.settleAll_keg (s : State) (l : List Input) : (s.settleAll l).keg = s.keg := rfl
@[simp] theorem State.settleAll_staged (s : State) (l : List Input) : (s.settleAll l).staged = s.staged := rfl
@[simp] theorem State.settleAll_notice (s : State) (l : List Input) : (s.settleAll l).notice = s.notice := rfl
@[simp] theorem State.settleAll_orders (s : State) (l : List Input) : (s.settleAll l).orders = s.orders := rfl
@[simp] theorem State.settleAll_pending (s : State) (l : List Input) : (s.settleAll l).pending = s.pending := rfl
@[simp] theorem State.settleAll_draws (s : State) (l : List Input) : (s.settleAll l).draws = s.draws := rfl

/-! ### What they write -/

@[simp] theorem State.raise_notice (s : State) (m : Word) : (s.raise m).notice = s.notice.raised m := rfl

@[simp] theorem State.onDemand_demand (s : State) (x : Resource) (f : DemandTx → DemandTx) :
    (s.onDemand x f).demand = s.demand.set x (f ⟨s.demand.get x, s.tx⟩).rcd := rfl

@[simp] theorem State.onDemand_tx (s : State) (x : Resource) (f : DemandTx → DemandTx) :
    (s.onDemand x f).tx = (f ⟨s.demand.get x, s.tx⟩).tx := rfl

@[simp] theorem State.popFrame_line (s : State) (e : RxEntry) :
    (s.popFrame e).line = { s.line with rxQueue := s.line.rxQueue.tail } := rfl

@[simp] theorem State.setTable_share (s : State) (sh : Share) : (s.setTable sh).share = sh := rfl

@[simp] theorem State.setTable_demand (s : State) (sh : Share) :
    (s.setTable sh).demand = s.demand.map DemandRec.leave := rfl

@[simp] theorem State.answer_tx (s : State) (e : RxEntry) (c : Byte) (r : Result) (d : List Byte) :
    (s.answer e c r d).tx = s.tx.enqueue (.answer (answerBody e.sender c r d)) := rfl

@[simp] theorem State.settleAll_inputs (s : State) (l : List Input) : (s.settleAll l).inputs = settleInputs l s.inputs := rfl

/-! ### The line at a fall of the wire -/

@[simp] theorem Line.fell_round (l : Line) : l.fell.round = none := rfl

@[simp] theorem Line.fell_rx (l : Line) : l.fell.rx = l.rx := rfl
@[simp] theorem Line.fell_rxQueue (l : Line) : l.fell.rxQueue = l.rxQueue := rfl
@[simp] theorem Line.fell_ownAwaited (l : Line) : l.fell.ownAwaited = l.ownAwaited := rfl
@[simp] theorem Line.fell_spent (l : Line) : l.fell.spent = l.spent := rfl
@[simp] theorem Line.fell_broken (l : Line) : l.fell.broken = l.broken := rfl
@[simp] theorem Line.fell_overruns (l : Line) : l.fell.overruns = l.overruns := rfl
@[simp] theorem Line.fell_lostArbs (l : Line) : l.fell.lostArbs = l.lostArbs := rfl
@[simp] theorem Line.fell_sendFaults (l : Line) : l.fell.sendFaults = l.sendFaults := rfl
@[simp] theorem Line.fell_address (l : Line) : l.fell.address = l.address := rfl

/-- A send fault counts, and ends the round unless it stands in the first bit of the lead-in break; nothing else moves. -/
theorem Line.faulted_eq (l : Line) (bit : Nat) :
    l.faulted bit = { l with round := if bit = 0 then l.round else none, sendFaults := bump 255 l.sendFaults } := by
  unfold Line.faulted
  split_ifs <;> rfl

end Sys2Proof.Machine
end

