-- ==== Sys2Proof/Laws/Frames.lean ====
section
/-! SUPPORT. What each operation built from the shared ones leaves alone: for each operation one lemma that names every field of
State it does not write. -/

namespace Sys2Proof.Machine

@[simp] theorem State.publishThermal_frame (s : State) :
    (s.publishThermal).power = s.power ∧ (s.publishThermal).timebase = s.timebase ∧
    (s.publishThermal).load = s.load ∧ (s.publishThermal).cfg = s.cfg ∧ (s.publishThermal).line = s.line ∧
    (s.publishThermal).handler = s.handler ∧ (s.publishThermal).share = s.share ∧
    (s.publishThermal).lease = s.lease ∧ (s.publishThermal).mode = s.mode ∧ (s.publishThermal).thermal = s.thermal ∧
    (s.publishThermal).program = s.program ∧ (s.publishThermal).pressure = s.pressure ∧
    (s.publishThermal).pour = s.pour ∧ (s.publishThermal).keg = s.keg ∧ (s.publishThermal).inputs = s.inputs ∧
    (s.publishThermal).staged = s.staged ∧ (s.publishThermal).notice = s.notice ∧
    (s.publishThermal).orders = s.orders ∧
    (s.publishThermal).draws = s.draws ∧ (s.publishThermal).pending = s.pending := by
  unfold State.publishThermal; split <;> simp

@[simp] theorem State.thermalEval_frame (s : State) :
    (s.thermalEval).power = s.power ∧ (s.thermalEval).timebase = s.timebase ∧ (s.thermalEval).load = s.load ∧
    (s.thermalEval).cfg = s.cfg ∧ (s.thermalEval).line = s.line ∧ (s.thermalEval).handler = s.handler ∧
    (s.thermalEval).share = s.share ∧ (s.thermalEval).lease = s.lease ∧ (s.thermalEval).mode = s.mode ∧
    (s.thermalEval).program = s.program ∧ (s.thermalEval).pressure = s.pressure ∧ (s.thermalEval).pour = s.pour ∧
    (s.thermalEval).keg = s.keg ∧ (s.thermalEval).inputs = s.inputs ∧ (s.thermalEval).notice = s.notice ∧
    (s.thermalEval).orders = s.orders ∧
    (s.thermalEval).draws = s.draws ∧ (s.thermalEval).pending = s.pending := by
  simp [State.thermalEval]

@[simp] theorem State.pressureEvalFrom_frame (b : Bool) (s : State) :
    (s.pressureEvalFrom b).power = s.power ∧ (s.pressureEvalFrom b).timebase = s.timebase ∧
    (s.pressureEvalFrom b).load = s.load ∧ (s.pressureEvalFrom b).cfg = s.cfg ∧
    (s.pressureEvalFrom b).line = s.line ∧ (s.pressureEvalFrom b).handler = s.handler ∧
    (s.pressureEvalFrom b).share = s.share ∧ (s.pressureEvalFrom b).lease = s.lease ∧
    (s.pressureEvalFrom b).mode = s.mode ∧ (s.pressureEvalFrom b).thermal = s.thermal ∧
    (s.pressureEvalFrom b).pour = s.pour ∧ (s.pressureEvalFrom b).keg = s.keg ∧
    (s.pressureEvalFrom b).inputs = s.inputs ∧ (s.pressureEvalFrom b).orders = s.orders ∧
    (s.pressureEvalFrom b).draws = s.draws ∧ (s.pressureEvalFrom b).pending = s.pending := by
  simp [State.pressureEvalFrom]

@[simp] theorem State.pressureEval_frame (s : State) :
    (s.pressureEval).power = s.power ∧ (s.pressureEval).timebase = s.timebase ∧ (s.pressureEval).load = s.load ∧
    (s.pressureEval).cfg = s.cfg ∧ (s.pressureEval).line = s.line ∧ (s.pressureEval).handler = s.handler ∧
    (s.pressureEval).share = s.share ∧ (s.pressureEval).lease = s.lease ∧ (s.pressureEval).mode = s.mode ∧
    (s.pressureEval).thermal = s.thermal ∧ (s.pressureEval).pour = s.pour ∧ (s.pressureEval).keg = s.keg ∧
    (s.pressureEval).inputs = s.inputs ∧ (s.pressureEval).orders = s.orders ∧
    (s.pressureEval).draws = s.draws ∧ (s.pressureEval).pending = s.pending := by
  simp [State.pressureEval]

@[simp] theorem State.pressureSample_frame (s : State) (v : Int) :
    (s.pressureSample v).power = s.power ∧ (s.pressureSample v).timebase = s.timebase ∧
    (s.pressureSample v).load = s.load ∧ (s.pressureSample v).cfg = s.cfg ∧ (s.pressureSample v).line = s.line ∧
    (s.pressureSample v).handler = s.handler ∧ (s.pressureSample v).share = s.share ∧
    (s.pressureSample v).lease = s.lease ∧ (s.pressureSample v).mode = s.mode ∧
    (s.pressureSample v).thermal = s.thermal ∧ (s.pressureSample v).pour = s.pour ∧
    (s.pressureSample v).keg = s.keg ∧ (s.pressureSample v).inputs = s.inputs ∧
    (s.pressureSample v).orders = s.orders ∧
    (s.pressureSample v).draws = s.draws ∧ (s.pressureSample v).pending = s.pending := by
  simp [State.pressureSample]

@[simp] theorem State.leakBegin_frame (s : State) :
    (s.leakBegin).power = s.power ∧ (s.leakBegin).timebase = s.timebase ∧ (s.leakBegin).load = s.load ∧
    (s.leakBegin).cfg = s.cfg ∧ (s.leakBegin).line = s.line ∧ (s.leakBegin).handler = s.handler ∧
    (s.leakBegin).share = s.share ∧ (s.leakBegin).lease = s.lease ∧ (s.leakBegin).mode = s.mode ∧
    (s.leakBegin).thermal = s.thermal ∧ (s.leakBegin).pour = s.pour ∧ (s.leakBegin).keg = s.keg ∧
    (s.leakBegin).inputs = s.inputs ∧ (s.leakBegin).orders = s.orders ∧
    (s.leakBegin).draws = s.draws ∧ (s.leakBegin).pending = s.pending := by
  simp [State.leakBegin]

@[simp] theorem State.leakEnd_frame (s : State) :
    (s.leakEnd).power = s.power ∧ (s.leakEnd).timebase = s.timebase ∧ (s.leakEnd).load = s.load ∧
    (s.leakEnd).cfg = s.cfg ∧ (s.leakEnd).line = s.line ∧ (s.leakEnd).handler = s.handler ∧
    (s.leakEnd).share = s.share ∧ (s.leakEnd).lease = s.lease ∧ (s.leakEnd).mode = s.mode ∧
    (s.leakEnd).thermal = s.thermal ∧ (s.leakEnd).pour = s.pour ∧ (s.leakEnd).keg = s.keg ∧
    (s.leakEnd).inputs = s.inputs ∧ (s.leakEnd).orders = s.orders ∧
    (s.leakEnd).draws = s.draws ∧ (s.leakEnd).pending = s.pending := by
  simp [State.leakEnd]

@[simp] theorem State.endStep_frame (s : State) :
    (s.endStep).power = s.power ∧ (s.endStep).timebase = s.timebase ∧ (s.endStep).load = s.load ∧
    (s.endStep).cfg = s.cfg ∧ (s.endStep).line = s.line ∧ (s.endStep).handler = s.handler ∧
    (s.endStep).share = s.share ∧ (s.endStep).lease = s.lease ∧ (s.endStep).mode = s.mode ∧
    (s.endStep).pour = s.pour ∧ (s.endStep).inputs = s.inputs ∧ (s.endStep).orders = s.orders ∧
    (s.endStep).draws = s.draws ∧ (s.endStep).pending = s.pending := by
  simp [State.endStep]

@[simp] theorem State.dueTest_frame (s : State) :
    (s.dueTest).power = s.power ∧ (s.dueTest).timebase = s.timebase ∧ (s.dueTest).load = s.load ∧
    (s.dueTest).cfg = s.cfg ∧ (s.dueTest).line = s.line ∧ (s.dueTest).handler = s.handler ∧
    (s.dueTest).share = s.share ∧ (s.dueTest).lease = s.lease ∧ (s.dueTest).demand = s.demand ∧
    (s.dueTest).mode = s.mode ∧ (s.dueTest).thermal = s.thermal ∧ (s.dueTest).pressure = s.pressure ∧
    (s.dueTest).pour = s.pour ∧ (s.dueTest).keg = s.keg ∧ (s.dueTest).inputs = s.inputs ∧
    (s.dueTest).staged = s.staged ∧ (s.dueTest).orders = s.orders ∧
    (s.dueTest).draws = s.draws ∧ (s.dueTest).pending = s.pending := by
  simp [State.dueTest]

@[simp] theorem State.minute_frame (s : State) :
    (s.minute).power = s.power ∧ (s.minute).timebase = s.timebase ∧ (s.minute).load = s.load ∧
    (s.minute).cfg = s.cfg ∧ (s.minute).line = s.line ∧ (s.minute).handler = s.handler ∧ (s.minute).share = s.share ∧
    (s.minute).lease = s.lease ∧ (s.minute).mode = s.mode ∧ (s.minute).pour = s.pour ∧ (s.minute).inputs = s.inputs ∧
    (s.minute).orders = s.orders ∧
    (s.minute).draws = s.draws ∧ (s.minute).pending = s.pending := by
  unfold State.minute; dsimp only; split_ifs <;> simp

@[simp] theorem State.hour_frame (s : State) :
    (s.hour).power = s.power ∧ (s.hour).timebase = s.timebase ∧ (s.hour).load = s.load ∧ (s.hour).cfg = s.cfg ∧
    (s.hour).line = s.line ∧ (s.hour).handler = s.handler ∧ (s.hour).share = s.share ∧ (s.hour).lease = s.lease ∧
    (s.hour).mode = s.mode ∧ (s.hour).pour = s.pour ∧ (s.hour).inputs = s.inputs ∧ (s.hour).orders = s.orders ∧
    (s.hour).draws = s.draws ∧ (s.hour).pending = s.pending := by
  unfold State.hour; dsimp only; split_ifs <;> simp

@[simp] theorem State.pauseFor_frame (s : State) (r : PauseReason) :
    (s.pauseFor r).power = s.power ∧ (s.pauseFor r).timebase = s.timebase ∧ (s.pauseFor r).load = s.load ∧
    (s.pauseFor r).cfg = s.cfg ∧ (s.pauseFor r).line = s.line ∧ (s.pauseFor r).handler = s.handler ∧
    (s.pauseFor r).share = s.share ∧ (s.pauseFor r).lease = s.lease ∧ (s.pauseFor r).mode = s.mode ∧
    (s.pauseFor r).pressure = s.pressure ∧ (s.pauseFor r).pour = s.pour ∧ (s.pauseFor r).keg = s.keg ∧
    (s.pauseFor r).inputs = s.inputs ∧ (s.pauseFor r).notice = s.notice ∧ (s.pauseFor r).orders = s.orders ∧
    (s.pauseFor r).draws = s.draws ∧ (s.pauseFor r).pending = s.pending := by
  unfold State.pauseFor; split_ifs <;> simp

@[simp] theorem State.probeSample_frame (s : State) (v : Int) :
    (s.probeSample v).power = s.power ∧ (s.probeSample v).timebase = s.timebase ∧ (s.probeSample v).load = s.load ∧
    (s.probeSample v).cfg = s.cfg ∧ (s.probeSample v).line = s.line ∧ (s.probeSample v).handler = s.handler ∧
    (s.probeSample v).share = s.share ∧ (s.probeSample v).lease = s.lease ∧ (s.probeSample v).mode = s.mode ∧
    (s.probeSample v).pressure = s.pressure ∧ (s.probeSample v).pour = s.pour ∧ (s.probeSample v).keg = s.keg ∧
    (s.probeSample v).inputs = s.inputs ∧ (s.probeSample v).orders = s.orders ∧
    (s.probeSample v).draws = s.draws ∧ (s.probeSample v).pending = s.pending := by
  unfold State.probeSample; dsimp only; split_ifs <;> simp

@[simp] theorem State.refusePour_frame (s : State) (r : PourRefusal) :
    (s.refusePour r).power = s.power ∧ (s.refusePour r).timebase = s.timebase ∧ (s.refusePour r).load = s.load ∧
    (s.refusePour r).cfg = s.cfg ∧ (s.refusePour r).line = s.line ∧ (s.refusePour r).handler = s.handler ∧
    (s.refusePour r).share = s.share ∧ (s.refusePour r).lease = s.lease ∧ (s.refusePour r).demand = s.demand ∧
    (s.refusePour r).mode = s.mode ∧ (s.refusePour r).thermal = s.thermal ∧ (s.refusePour r).program = s.program ∧
    (s.refusePour r).pressure = s.pressure ∧ (s.refusePour r).pour = s.pour ∧ (s.refusePour r).inputs = s.inputs ∧
    (s.refusePour r).staged = s.staged ∧ (s.refusePour r).orders = s.orders ∧
    (s.refusePour r).draws = s.draws ∧ (s.refusePour r).pending = s.pending := by
  simp [State.refusePour]

@[simp] theorem State.acceptPour_frame (s : State) (q : PourRequest) :
    (s.acceptPour q).power = s.power ∧ (s.acceptPour q).timebase = s.timebase ∧ (s.acceptPour q).load = s.load ∧
    (s.acceptPour q).cfg = s.cfg ∧ (s.acceptPour q).line = s.line ∧ (s.acceptPour q).handler = s.handler ∧
    (s.acceptPour q).share = s.share ∧ (s.acceptPour q).lease = s.lease ∧ (s.acceptPour q).mode = s.mode ∧
    (s.acceptPour q).thermal = s.thermal ∧ (s.acceptPour q).keg = s.keg ∧ (s.acceptPour q).inputs = s.inputs ∧
    (s.acceptPour q).orders = s.orders ∧
    (s.acceptPour q).draws = s.draws ∧ (s.acceptPour q).pending = s.pending := by
  simp [State.acceptPour]

@[simp] theorem State.checkPour_frame (s : State) (q : PourRequest) :
    (s.checkPour q).power = s.power ∧ (s.checkPour q).timebase = s.timebase ∧ (s.checkPour q).load = s.load ∧
    (s.checkPour q).cfg = s.cfg ∧ (s.checkPour q).line = s.line ∧ (s.checkPour q).handler = s.handler ∧
    (s.checkPour q).share = s.share ∧ (s.checkPour q).lease = s.lease ∧ (s.checkPour q).mode = s.mode ∧
    (s.checkPour q).thermal = s.thermal ∧ (s.checkPour q).inputs = s.inputs ∧ (s.checkPour q).orders = s.orders ∧
    (s.checkPour q).draws = s.draws ∧ (s.checkPour q).pending = s.pending := by
  unfold State.checkPour; split <;> simp

@[simp] theorem State.arbitrate_frame (s : State) (l : List PourRequest) :
    (s.arbitrate l).power = s.power ∧ (s.arbitrate l).timebase = s.timebase ∧ (s.arbitrate l).load = s.load ∧
    (s.arbitrate l).cfg = s.cfg ∧ (s.arbitrate l).line = s.line ∧ (s.arbitrate l).handler = s.handler ∧
    (s.arbitrate l).share = s.share ∧ (s.arbitrate l).lease = s.lease ∧ (s.arbitrate l).mode = s.mode ∧
    (s.arbitrate l).thermal = s.thermal ∧ (s.arbitrate l).inputs = s.inputs ∧ (s.arbitrate l).orders = s.orders ∧
    (s.arbitrate l).pending = s.pending := by
  unfold State.arbitrate; split <;> (try split_ifs) <;> simp

/-- The arbiter draws one free value where several requests are presented to an IDLE engine, and otherwise none (log 20). -/
theorem State.arbitrate_draws (s : State) (l : List PourRequest) :
    (s.arbitrate l).draws = if s.pour.inProgress = false ∧ 2 ≤ l.length then s.draws + 1 else s.draws := by
  unfold State.arbitrate
  split
  · simp
  · rename_i q others
    cases others with
    | nil => by_cases h : s.pour.inProgress <;> simp [h]
    | cons r rest => by_cases h : s.pour.inProgress <;> simp [h]; split_ifs <;> simp

@[simp] theorem State.endPour_frame (s : State) (r : EndReason) :
    (s.endPour r).power = s.power ∧ (s.endPour r).timebase = s.timebase ∧ (s.endPour r).load = s.load ∧
    (s.endPour r).cfg = s.cfg ∧ (s.endPour r).line = s.line ∧ (s.endPour r).handler = s.handler ∧
    (s.endPour r).share = s.share ∧ (s.endPour r).lease = s.lease ∧ (s.endPour r).mode = s.mode ∧
    (s.endPour r).thermal = s.thermal ∧ (s.endPour r).keg = s.keg ∧ (s.endPour r).inputs = s.inputs ∧
    (s.endPour r).orders = s.orders ∧
    (s.endPour r).draws = s.draws ∧ (s.endPour r).pending = s.pending := by
  unfold State.endPour; split_ifs <;> simp

@[simp] theorem State.meterOne_frame (s : State) :
    (s.meterOne).power = s.power ∧ (s.meterOne).timebase = s.timebase ∧ (s.meterOne).load = s.load ∧
    (s.meterOne).cfg = s.cfg ∧ (s.meterOne).line = s.line ∧ (s.meterOne).handler = s.handler ∧
    (s.meterOne).share = s.share ∧ (s.meterOne).lease = s.lease ∧ (s.meterOne).mode = s.mode ∧
    (s.meterOne).thermal = s.thermal ∧ (s.meterOne).inputs = s.inputs ∧ (s.meterOne).orders = s.orders ∧
    (s.meterOne).draws = s.draws ∧ (s.meterOne).pending = s.pending := by
  unfold State.meterOne; dsimp only; split <;> simp

@[simp] theorem State.meterMany_frame (n : Nat) (s : State) :
    (State.meterMany n s).power = s.power ∧ (State.meterMany n s).timebase = s.timebase ∧
    (State.meterMany n s).load = s.load ∧ (State.meterMany n s).cfg = s.cfg ∧ (State.meterMany n s).line = s.line ∧
    (State.meterMany n s).handler = s.handler ∧ (State.meterMany n s).share = s.share ∧
    (State.meterMany n s).lease = s.lease ∧ (State.meterMany n s).mode = s.mode ∧
    (State.meterMany n s).thermal = s.thermal ∧ (State.meterMany n s).inputs = s.inputs ∧
    (State.meterMany n s).orders = s.orders ∧
    (State.meterMany n s).draws = s.draws ∧ (State.meterMany n s).pending = s.pending := by
  induction n generalizing s with
  | zero => simp [State.meterMany]
  | succ n ih => simp [State.meterMany, ih]

@[simp] theorem State.pulse_frame (s : State) :
    (s.pulse).power = s.power ∧ (s.pulse).timebase = s.timebase ∧ (s.pulse).load = s.load ∧ (s.pulse).cfg = s.cfg ∧
    (s.pulse).line = s.line ∧ (s.pulse).handler = s.handler ∧ (s.pulse).share = s.share ∧ (s.pulse).lease = s.lease ∧
    (s.pulse).mode = s.mode ∧ (s.pulse).thermal = s.thermal ∧ (s.pulse).inputs = s.inputs ∧
    (s.pulse).orders = s.orders ∧
    (s.pulse).draws = s.draws ∧ (s.pulse).pending = s.pending := by
  unfold State.pulse; dsimp only; split_ifs <;> simp

@[simp] theorem State.leaveActive_frame (s : State) (sh : Share) :
    (s.leaveActive sh).power = s.power ∧ (s.leaveActive sh).timebase = s.timebase ∧
    (s.leaveActive sh).load = s.load ∧ (s.leaveActive sh).cfg = s.cfg ∧ (s.leaveActive sh).line = s.line ∧
    (s.leaveActive sh).handler = s.handler ∧ (s.leaveActive sh).mode = s.mode ∧
    (s.leaveActive sh).thermal = s.thermal ∧ (s.leaveActive sh).program = s.program ∧
    (s.leaveActive sh).pressure = s.pressure ∧ (s.leaveActive sh).pour = s.pour ∧ (s.leaveActive sh).keg = s.keg ∧
    (s.leaveActive sh).inputs = s.inputs ∧ (s.leaveActive sh).staged = s.staged ∧
    (s.leaveActive sh).notice = s.notice ∧ (s.leaveActive sh).orders = s.orders ∧
    (s.leaveActive sh).draws = s.draws ∧ (s.leaveActive sh).pending = s.pending := by
  simp [State.leaveActive]

@[simp] theorem State.enterMode_frame (s : State) (m : Mode) :
    (s.enterMode m).power = s.power ∧ (s.enterMode m).timebase = s.timebase ∧ (s.enterMode m).load = s.load ∧
    (s.enterMode m).cfg = s.cfg ∧ (s.enterMode m).line = s.line ∧ (s.enterMode m).handler = s.handler ∧
    (s.enterMode m).share = s.share ∧ (s.enterMode m).lease = s.lease ∧ (s.enterMode m).demand = s.demand ∧
    (s.enterMode m).thermal = s.thermal ∧ (s.enterMode m).program = s.program ∧
    (s.enterMode m).pressure = s.pressure ∧ (s.enterMode m).pour = s.pour ∧ (s.enterMode m).keg = s.keg ∧
    (s.enterMode m).inputs = s.inputs ∧ (s.enterMode m).staged = s.staged ∧ (s.enterMode m).notice = s.notice ∧
    (s.enterMode m).orders = s.orders ∧
    (s.enterMode m).draws = s.draws ∧ (s.enterMode m).pending = s.pending := by
  simp [State.enterMode]

@[simp] theorem State.enterSync_frame (s : State) (m : Mode) :
    (s.enterSync m).power = s.power ∧ (s.enterSync m).timebase = s.timebase ∧ (s.enterSync m).load = s.load ∧
    (s.enterSync m).cfg = s.cfg ∧ (s.enterSync m).line = s.line ∧ (s.enterSync m).handler = s.handler ∧
    (s.enterSync m).thermal = s.thermal ∧ (s.enterSync m).program = s.program ∧
    (s.enterSync m).pressure = s.pressure ∧ (s.enterSync m).pour = s.pour ∧ (s.enterSync m).keg = s.keg ∧
    (s.enterSync m).inputs = s.inputs ∧ (s.enterSync m).staged = s.staged ∧ (s.enterSync m).notice = s.notice ∧
    (s.enterSync m).orders = s.orders ∧
    (s.enterSync m).draws = s.draws ∧ (s.enterSync m).pending = s.pending := by
  simp [State.enterSync]

@[simp] theorem State.enterDoubtful_frame (s : State) :
    (s.enterDoubtful).power = s.power ∧ (s.enterDoubtful).timebase = s.timebase ∧ (s.enterDoubtful).load = s.load ∧
    (s.enterDoubtful).cfg = s.cfg ∧ (s.enterDoubtful).line = s.line ∧ (s.enterDoubtful).handler = s.handler ∧
    (s.enterDoubtful).thermal = s.thermal ∧ (s.enterDoubtful).program = s.program ∧
    (s.enterDoubtful).pressure = s.pressure ∧ (s.enterDoubtful).pour = s.pour ∧ (s.enterDoubtful).keg = s.keg ∧
    (s.enterDoubtful).inputs = s.inputs ∧ (s.enterDoubtful).staged = s.staged ∧ (s.enterDoubtful).orders = s.orders ∧
    (s.enterDoubtful).draws = s.draws ∧ (s.enterDoubtful).pending = s.pending := by
  simp [State.enterDoubtful]

@[simp] theorem State.abandonSync_frame (s : State) :
    (s.abandonSync).power = s.power ∧ (s.abandonSync).timebase = s.timebase ∧ (s.abandonSync).load = s.load ∧
    (s.abandonSync).cfg = s.cfg ∧ (s.abandonSync).line = s.line ∧ (s.abandonSync).handler = s.handler ∧
    (s.abandonSync).thermal = s.thermal ∧ (s.abandonSync).program = s.program ∧
    (s.abandonSync).pressure = s.pressure ∧ (s.abandonSync).pour = s.pour ∧ (s.abandonSync).keg = s.keg ∧
    (s.abandonSync).inputs = s.inputs ∧ (s.abandonSync).staged = s.staged ∧ (s.abandonSync).notice = s.notice ∧
    (s.abandonSync).orders = s.orders ∧
    (s.abandonSync).draws = s.draws ∧ (s.abandonSync).pending = s.pending := by
  simp [State.abandonSync]

@[simp] theorem State.giveUp_frame (s : State) :
    (s.giveUp).power = s.power ∧ (s.giveUp).timebase = s.timebase ∧ (s.giveUp).load = s.load ∧
    (s.giveUp).cfg = s.cfg ∧ (s.giveUp).line = s.line ∧ (s.giveUp).handler = s.handler ∧
    (s.giveUp).thermal = s.thermal ∧ (s.giveUp).program = s.program ∧ (s.giveUp).pressure = s.pressure ∧
    (s.giveUp).pour = s.pour ∧ (s.giveUp).keg = s.keg ∧ (s.giveUp).inputs = s.inputs ∧ (s.giveUp).staged = s.staged ∧
    (s.giveUp).notice = s.notice ∧ (s.giveUp).orders = s.orders ∧
    (s.giveUp).draws = s.draws ∧ (s.giveUp).pending = s.pending := by
  unfold State.giveUp; split_ifs <;> simp

@[simp] theorem State.enterVacant_frame (s : State) :
    (s.enterVacant).power = s.power ∧ (s.enterVacant).timebase = s.timebase ∧ (s.enterVacant).load = s.load ∧
    (s.enterVacant).cfg = s.cfg ∧ (s.enterVacant).line = s.line ∧ (s.enterVacant).handler = s.handler ∧
    (s.enterVacant).program = s.program ∧ (s.enterVacant).pressure = s.pressure ∧ (s.enterVacant).pour = s.pour ∧
    (s.enterVacant).keg = s.keg ∧ (s.enterVacant).inputs = s.inputs ∧ (s.enterVacant).notice = s.notice ∧
    (s.enterVacant).orders = s.orders ∧
    (s.enterVacant).draws = s.draws ∧ (s.enterVacant).pending = s.pending := by
  simp [State.enterVacant]

@[simp] theorem State.enterMuted_frame (s : State) :
    (s.enterMuted).power = s.power ∧ (s.enterMuted).timebase = s.timebase ∧ (s.enterMuted).load = s.load ∧
    (s.enterMuted).cfg = s.cfg ∧ (s.enterMuted).line = s.line ∧ (s.enterMuted).handler = s.handler ∧
    (s.enterMuted).thermal = s.thermal ∧ (s.enterMuted).program = s.program ∧ (s.enterMuted).pressure = s.pressure ∧
    (s.enterMuted).pour = s.pour ∧ (s.enterMuted).keg = s.keg ∧ (s.enterMuted).inputs = s.inputs ∧
    (s.enterMuted).staged = s.staged ∧ (s.enterMuted).orders = s.orders ∧
    (s.enterMuted).draws = s.draws ∧ (s.enterMuted).pending = s.pending := by
  simp [State.enterMuted]

@[simp] theorem State.enterJoining_frame (s : State) :
    (s.enterJoining).power = s.power ∧ (s.enterJoining).timebase = s.timebase ∧ (s.enterJoining).load = s.load ∧
    (s.enterJoining).cfg = s.cfg ∧ (s.enterJoining).line = s.line ∧ (s.enterJoining).handler = s.handler ∧
    (s.enterJoining).program = s.program ∧ (s.enterJoining).pressure = s.pressure ∧ (s.enterJoining).pour = s.pour ∧
    (s.enterJoining).keg = s.keg ∧ (s.enterJoining).inputs = s.inputs ∧ (s.enterJoining).notice = s.notice ∧
    (s.enterJoining).orders = s.orders ∧
    (s.enterJoining).draws = s.draws ∧ (s.enterJoining).pending = s.pending := by
  simp [State.enterJoining]

@[simp] theorem State.becomeActive_frame (s : State) :
    (s.becomeActive).power = s.power ∧ (s.becomeActive).timebase = s.timebase ∧ (s.becomeActive).load = s.load ∧
    (s.becomeActive).cfg = s.cfg ∧ (s.becomeActive).line = s.line ∧ (s.becomeActive).handler = s.handler ∧
    (s.becomeActive).share = s.share ∧ (s.becomeActive).lease = s.lease ∧ (s.becomeActive).thermal = s.thermal ∧
    (s.becomeActive).program = s.program ∧ (s.becomeActive).pressure = s.pressure ∧ (s.becomeActive).pour = s.pour ∧
    (s.becomeActive).keg = s.keg ∧ (s.becomeActive).inputs = s.inputs ∧ (s.becomeActive).staged = s.staged ∧
    (s.becomeActive).notice = s.notice ∧ (s.becomeActive).orders = s.orders ∧
    (s.becomeActive).draws = s.draws ∧ (s.becomeActive).pending = s.pending := by
  simp [State.becomeActive]

@[simp] theorem State.found_frame (s : State) :
    (s.found).power = s.power ∧ (s.found).timebase = s.timebase ∧ (s.found).load = s.load ∧ (s.found).cfg = s.cfg ∧
    (s.found).line = s.line ∧ (s.found).handler = s.handler ∧ (s.found).thermal = s.thermal ∧
    (s.found).program = s.program ∧ (s.found).pressure = s.pressure ∧ (s.found).pour = s.pour ∧
    (s.found).keg = s.keg ∧ (s.found).inputs = s.inputs ∧ (s.found).staged = s.staged ∧ (s.found).notice = s.notice ∧
    (s.found).orders = s.orders ∧
    (s.found).draws = s.draws ∧ (s.found).pending = s.pending := by
  simp [State.found]

@[simp] theorem State.spoilSync_frame (s : State) :
    (s.spoilSync).power = s.power ∧ (s.spoilSync).timebase = s.timebase ∧ (s.spoilSync).load = s.load ∧
    (s.spoilSync).cfg = s.cfg ∧ (s.spoilSync).line = s.line ∧ (s.spoilSync).handler = s.handler ∧
    (s.spoilSync).thermal = s.thermal ∧ (s.spoilSync).program = s.program ∧ (s.spoilSync).pressure = s.pressure ∧
    (s.spoilSync).pour = s.pour ∧ (s.spoilSync).keg = s.keg ∧ (s.spoilSync).inputs = s.inputs ∧
    (s.spoilSync).staged = s.staged ∧ (s.spoilSync).notice = s.notice ∧ (s.spoilSync).orders = s.orders ∧
    (s.spoilSync).draws = s.draws ∧ (s.spoilSync).pending = s.pending := by
  simp [State.spoilSync]

@[simp] theorem State.doubtTest_frame (s : State) :
    (s.doubtTest).power = s.power ∧ (s.doubtTest).timebase = s.timebase ∧ (s.doubtTest).load = s.load ∧
    (s.doubtTest).cfg = s.cfg ∧ (s.doubtTest).line = s.line ∧ (s.doubtTest).handler = s.handler ∧
    (s.doubtTest).thermal = s.thermal ∧ (s.doubtTest).program = s.program ∧ (s.doubtTest).pressure = s.pressure ∧
    (s.doubtTest).pour = s.pour ∧ (s.doubtTest).keg = s.keg ∧ (s.doubtTest).inputs = s.inputs ∧
    (s.doubtTest).staged = s.staged ∧ (s.doubtTest).orders = s.orders ∧
    (s.doubtTest).draws = s.draws ∧ (s.doubtTest).pending = s.pending := by
  unfold State.doubtTest; split_ifs <;> simp

@[simp] theorem State.setSuspect_frame (s : State) :
    (s.setSuspect).power = s.power ∧ (s.setSuspect).timebase = s.timebase ∧ (s.setSuspect).load = s.load ∧
    (s.setSuspect).cfg = s.cfg ∧ (s.setSuspect).line = s.line ∧ (s.setSuspect).handler = s.handler ∧
    (s.setSuspect).thermal = s.thermal ∧ (s.setSuspect).program = s.program ∧ (s.setSuspect).pressure = s.pressure ∧
    (s.setSuspect).pour = s.pour ∧ (s.setSuspect).keg = s.keg ∧ (s.setSuspect).inputs = s.inputs ∧
    (s.setSuspect).staged = s.staged ∧ (s.setSuspect).orders = s.orders ∧
    (s.setSuspect).draws = s.draws ∧ (s.setSuspect).pending = s.pending := by
  unfold State.setSuspect; dsimp only; split_ifs <;> simp

@[simp] theorem State.askAgain_frame (s : State) (n : Nat) :
    (s.askAgain n).power = s.power ∧ (s.askAgain n).timebase = s.timebase ∧ (s.askAgain n).load = s.load ∧
    (s.askAgain n).cfg = s.cfg ∧ (s.askAgain n).line = s.line ∧ (s.askAgain n).handler = s.handler ∧
    (s.askAgain n).share = s.share ∧ (s.askAgain n).lease = s.lease ∧ (s.askAgain n).demand = s.demand ∧
    (s.askAgain n).thermal = s.thermal ∧ (s.askAgain n).program = s.program ∧ (s.askAgain n).pressure = s.pressure ∧
    (s.askAgain n).pour = s.pour ∧ (s.askAgain n).keg = s.keg ∧ (s.askAgain n).inputs = s.inputs ∧
    (s.askAgain n).staged = s.staged ∧ (s.askAgain n).notice = s.notice ∧ (s.askAgain n).orders = s.orders ∧
    (s.askAgain n).draws = s.draws ∧ (s.askAgain n).pending = s.pending := by
  simp [State.askAgain]

@[simp] theorem State.beginRest_frame (s : State) :
    (s.beginRest).power = s.power ∧ (s.beginRest).timebase = s.timebase ∧ (s.beginRest).load = s.load ∧
    (s.beginRest).cfg = s.cfg ∧ (s.beginRest).line = s.line ∧ (s.beginRest).tx = s.tx ∧
    (s.beginRest).handler = s.handler ∧ (s.beginRest).share = s.share ∧ (s.beginRest).lease = s.lease ∧
    (s.beginRest).demand = s.demand ∧ (s.beginRest).thermal = s.thermal ∧ (s.beginRest).program = s.program ∧
    (s.beginRest).pressure = s.pressure ∧ (s.beginRest).pour = s.pour ∧ (s.beginRest).keg = s.keg ∧
    (s.beginRest).inputs = s.inputs ∧ (s.beginRest).staged = s.staged ∧ (s.beginRest).notice = s.notice ∧
    (s.beginRest).orders = s.orders ∧
    (s.beginRest).draws = s.draws ∧ (s.beginRest).pending = s.pending := by
  simp [State.beginRest]

@[simp] theorem State.waitExpired_frame (s : State) :
    (s.waitExpired).power = s.power ∧ (s.waitExpired).timebase = s.timebase ∧ (s.waitExpired).load = s.load ∧
    (s.waitExpired).cfg = s.cfg ∧ (s.waitExpired).line = s.line ∧ (s.waitExpired).handler = s.handler ∧
    (s.waitExpired).thermal = s.thermal ∧ (s.waitExpired).program = s.program ∧
    (s.waitExpired).pressure = s.pressure ∧ (s.waitExpired).pour = s.pour ∧ (s.waitExpired).keg = s.keg ∧
    (s.waitExpired).inputs = s.inputs ∧ (s.waitExpired).staged = s.staged ∧ (s.waitExpired).orders = s.orders ∧
    (s.waitExpired).draws = s.draws ∧ (s.waitExpired).pending = s.pending := by
  unfold State.waitExpired; split_ifs <;> simp

@[simp] theorem State.restEnds_frame (s : State) :
    (s.restEnds).power = s.power ∧ (s.restEnds).timebase = s.timebase ∧ (s.restEnds).load = s.load ∧
    (s.restEnds).cfg = s.cfg ∧ (s.restEnds).line = s.line ∧ (s.restEnds).handler = s.handler ∧
    (s.restEnds).share = s.share ∧ (s.restEnds).lease = s.lease ∧ (s.restEnds).demand = s.demand ∧
    (s.restEnds).thermal = s.thermal ∧ (s.restEnds).program = s.program ∧ (s.restEnds).pressure = s.pressure ∧
    (s.restEnds).pour = s.pour ∧ (s.restEnds).keg = s.keg ∧ (s.restEnds).inputs = s.inputs ∧
    (s.restEnds).staged = s.staged ∧ (s.restEnds).notice = s.notice ∧ (s.restEnds).orders = s.orders ∧
    (s.restEnds).draws = s.draws ∧ (s.restEnds).pending = s.pending := by
  simp [State.restEnds]

@[simp] theorem State.takeConfig_frame (s : State) (c : Option WorkingCopy) :
    (s.takeConfig c).power = s.power ∧ (s.takeConfig c).timebase = s.timebase ∧ (s.takeConfig c).line = s.line ∧
    (s.takeConfig c).handler = s.handler ∧ (s.takeConfig c).share = s.share ∧ (s.takeConfig c).lease = s.lease ∧
    (s.takeConfig c).demand = s.demand ∧ (s.takeConfig c).thermal = s.thermal ∧
    (s.takeConfig c).program = s.program ∧ (s.takeConfig c).pressure = s.pressure ∧ (s.takeConfig c).pour = s.pour ∧
    (s.takeConfig c).keg = s.keg ∧ (s.takeConfig c).inputs = s.inputs ∧ (s.takeConfig c).staged = s.staged ∧
    (s.takeConfig c).orders = s.orders ∧
    (s.takeConfig c).draws = s.draws ∧ (s.takeConfig c).pending = s.pending := by
  simp [State.takeConfig]

@[simp] theorem State.judgeInputs_frame (s : State) :
    (s.judgeInputs).power = s.power ∧ (s.judgeInputs).timebase = s.timebase ∧ (s.judgeInputs).load = s.load ∧
    (s.judgeInputs).cfg = s.cfg ∧ (s.judgeInputs).line = s.line ∧ (s.judgeInputs).handler = s.handler ∧
    (s.judgeInputs).share = s.share ∧ (s.judgeInputs).lease = s.lease ∧ (s.judgeInputs).mode = s.mode ∧
    (s.judgeInputs).pour = s.pour ∧ (s.judgeInputs).keg = s.keg ∧ (s.judgeInputs).inputs = s.inputs ∧
    (s.judgeInputs).orders = s.orders ∧
    (s.judgeInputs).draws = s.draws ∧ (s.judgeInputs).pending = s.pending := by
  unfold State.judgeInputs; dsimp only; split_ifs <;> simp

@[simp] theorem State.leaveStarting_frame (s : State) :
    (s.leaveStarting).power = s.power ∧ (s.leaveStarting).timebase = s.timebase ∧ (s.leaveStarting).load = s.load ∧
    (s.leaveStarting).cfg = s.cfg ∧ (s.leaveStarting).line = s.line ∧ (s.leaveStarting).handler = s.handler ∧
    (s.leaveStarting).program = s.program ∧ (s.leaveStarting).pressure = s.pressure ∧
    (s.leaveStarting).pour = s.pour ∧ (s.leaveStarting).keg = s.keg ∧ (s.leaveStarting).inputs = s.inputs ∧
    (s.leaveStarting).notice = s.notice ∧ (s.leaveStarting).orders = s.orders ∧
    (s.leaveStarting).draws = s.draws ∧ (s.leaveStarting).pending = s.pending := by
  unfold State.leaveStarting; dsimp only; split_ifs <;> simp

@[simp] theorem State.answerWait_frame (s : State) :
    (s.answerWait).power = s.power ∧ (s.answerWait).timebase = s.timebase ∧ (s.answerWait).load = s.load ∧
    (s.answerWait).cfg = s.cfg ∧ (s.answerWait).line = s.line ∧ (s.answerWait).handler = s.handler ∧
    (s.answerWait).thermal = s.thermal ∧ (s.answerWait).program = s.program ∧ (s.answerWait).pressure = s.pressure ∧
    (s.answerWait).pour = s.pour ∧ (s.answerWait).keg = s.keg ∧ (s.answerWait).inputs = s.inputs ∧
    (s.answerWait).staged = s.staged ∧ (s.answerWait).orders = s.orders ∧
    (s.answerWait).draws = s.draws ∧ (s.answerWait).pending = s.pending := by
  unfold State.answerWait; split_ifs <;> simp

@[simp] theorem State.restTimer_frame (s : State) :
    (s.restTimer).power = s.power ∧ (s.restTimer).timebase = s.timebase ∧ (s.restTimer).load = s.load ∧
    (s.restTimer).cfg = s.cfg ∧ (s.restTimer).line = s.line ∧ (s.restTimer).handler = s.handler ∧
    (s.restTimer).share = s.share ∧ (s.restTimer).lease = s.lease ∧ (s.restTimer).demand = s.demand ∧
    (s.restTimer).thermal = s.thermal ∧ (s.restTimer).program = s.program ∧ (s.restTimer).pressure = s.pressure ∧
    (s.restTimer).pour = s.pour ∧ (s.restTimer).keg = s.keg ∧ (s.restTimer).inputs = s.inputs ∧
    (s.restTimer).staged = s.staged ∧ (s.restTimer).notice = s.notice ∧ (s.restTimer).orders = s.orders ∧
    (s.restTimer).draws = s.draws ∧ (s.restTimer).pending = s.pending := by
  unfold State.restTimer; split_ifs <;> simp

@[simp] theorem State.announceTimer_frame (s : State) :
    (s.announceTimer).power = s.power ∧ (s.announceTimer).timebase = s.timebase ∧ (s.announceTimer).load = s.load ∧
    (s.announceTimer).cfg = s.cfg ∧ (s.announceTimer).line = s.line ∧ (s.announceTimer).handler = s.handler ∧
    (s.announceTimer).share = s.share ∧ (s.announceTimer).lease = s.lease ∧ (s.announceTimer).demand = s.demand ∧
    (s.announceTimer).thermal = s.thermal ∧ (s.announceTimer).program = s.program ∧
    (s.announceTimer).pressure = s.pressure ∧ (s.announceTimer).pour = s.pour ∧ (s.announceTimer).keg = s.keg ∧
    (s.announceTimer).inputs = s.inputs ∧ (s.announceTimer).staged = s.staged ∧ (s.announceTimer).notice = s.notice ∧
    (s.announceTimer).orders = s.orders ∧
    (s.announceTimer).draws = s.draws ∧ (s.announceTimer).pending = s.pending := by
  unfold State.announceTimer; split_ifs <;> simp

@[simp] theorem State.removeSilent_frame (a : Nat) (s : State) :
    (s.removeSilent a).power = s.power ∧ (s.removeSilent a).timebase = s.timebase ∧
    (s.removeSilent a).load = s.load ∧ (s.removeSilent a).cfg = s.cfg ∧ (s.removeSilent a).line = s.line ∧
    (s.removeSilent a).handler = s.handler ∧ (s.removeSilent a).thermal = s.thermal ∧
    (s.removeSilent a).program = s.program ∧ (s.removeSilent a).pressure = s.pressure ∧
    (s.removeSilent a).pour = s.pour ∧ (s.removeSilent a).keg = s.keg ∧ (s.removeSilent a).inputs = s.inputs ∧
    (s.removeSilent a).staged = s.staged ∧ (s.removeSilent a).orders = s.orders ∧
    (s.removeSilent a).draws = s.draws ∧ (s.removeSilent a).pending = s.pending := by
  unfold State.removeSilent; split_ifs <;> simp

@[simp] theorem State.renewDue_frame (x : Resource) (s : State) :
    (s.renewDue x).power = s.power ∧ (s.renewDue x).timebase = s.timebase ∧ (s.renewDue x).load = s.load ∧
    (s.renewDue x).cfg = s.cfg ∧ (s.renewDue x).line = s.line ∧ (s.renewDue x).handler = s.handler ∧
    (s.renewDue x).share = s.share ∧ (s.renewDue x).lease = s.lease ∧ (s.renewDue x).mode = s.mode ∧
    (s.renewDue x).thermal = s.thermal ∧ (s.renewDue x).program = s.program ∧ (s.renewDue x).pressure = s.pressure ∧
    (s.renewDue x).pour = s.pour ∧ (s.renewDue x).keg = s.keg ∧ (s.renewDue x).inputs = s.inputs ∧
    (s.renewDue x).staged = s.staged ∧ (s.renewDue x).notice = s.notice ∧ (s.renewDue x).orders = s.orders ∧
    (s.renewDue x).draws = s.draws ∧ (s.renewDue x).pending = s.pending := by
  unfold State.renewDue; split <;> (try split_ifs) <;> simp

@[simp] theorem State.lapseDue_frame (x : Resource) (s : State) :
    (s.lapseDue x).power = s.power ∧ (s.lapseDue x).timebase = s.timebase ∧ (s.lapseDue x).load = s.load ∧
    (s.lapseDue x).cfg = s.cfg ∧ (s.lapseDue x).line = s.line ∧ (s.lapseDue x).handler = s.handler ∧
    (s.lapseDue x).share = s.share ∧ (s.lapseDue x).lease = s.lease ∧ (s.lapseDue x).mode = s.mode ∧
    (s.lapseDue x).thermal = s.thermal ∧ (s.lapseDue x).program = s.program ∧ (s.lapseDue x).pressure = s.pressure ∧
    (s.lapseDue x).pour = s.pour ∧ (s.lapseDue x).keg = s.keg ∧ (s.lapseDue x).inputs = s.inputs ∧
    (s.lapseDue x).staged = s.staged ∧ (s.lapseDue x).notice = s.notice ∧ (s.lapseDue x).orders = s.orders ∧
    (s.lapseDue x).draws = s.draws ∧ (s.lapseDue x).pending = s.pending := by
  unfold State.lapseDue; split <;> (try split_ifs) <;> simp

@[simp] theorem State.expiryDue_frame (x : Resource) (s : State) :
    (s.expiryDue x).power = s.power ∧ (s.expiryDue x).timebase = s.timebase ∧ (s.expiryDue x).load = s.load ∧
    (s.expiryDue x).cfg = s.cfg ∧ (s.expiryDue x).line = s.line ∧ (s.expiryDue x).handler = s.handler ∧
    (s.expiryDue x).share = s.share ∧ (s.expiryDue x).demand = s.demand ∧ (s.expiryDue x).mode = s.mode ∧
    (s.expiryDue x).thermal = s.thermal ∧ (s.expiryDue x).program = s.program ∧
    (s.expiryDue x).pressure = s.pressure ∧ (s.expiryDue x).pour = s.pour ∧ (s.expiryDue x).keg = s.keg ∧
    (s.expiryDue x).inputs = s.inputs ∧ (s.expiryDue x).staged = s.staged ∧ (s.expiryDue x).notice = s.notice ∧
    (s.expiryDue x).orders = s.orders ∧
    (s.expiryDue x).draws = s.draws ∧ (s.expiryDue x).pending = s.pending := by
  unfold State.expiryDue; split <;> (try split) <;> simp

@[simp] theorem State.starveDue_frame (x : Resource) (s : State) :
    (s.starveDue x).power = s.power ∧ (s.starveDue x).timebase = s.timebase ∧ (s.starveDue x).load = s.load ∧
    (s.starveDue x).cfg = s.cfg ∧ (s.starveDue x).line = s.line ∧ (s.starveDue x).handler = s.handler ∧
    (s.starveDue x).share = s.share ∧ (s.starveDue x).lease = s.lease ∧ (s.starveDue x).mode = s.mode ∧
    (s.starveDue x).thermal = s.thermal ∧ (s.starveDue x).program = s.program ∧
    (s.starveDue x).pressure = s.pressure ∧ (s.starveDue x).pour = s.pour ∧ (s.starveDue x).keg = s.keg ∧
    (s.starveDue x).inputs = s.inputs ∧ (s.starveDue x).staged = s.staged ∧ (s.starveDue x).orders = s.orders ∧
    (s.starveDue x).draws = s.draws ∧ (s.starveDue x).pending = s.pending := by
  unfold State.starveDue; split_ifs <;> simp

@[simp] theorem State.driftDue_frame (s : State) :
    (s.driftDue).power = s.power ∧ (s.driftDue).timebase = s.timebase ∧ (s.driftDue).load = s.load ∧
    (s.driftDue).cfg = s.cfg ∧ (s.driftDue).line = s.line ∧ (s.driftDue).handler = s.handler ∧
    (s.driftDue).share = s.share ∧ (s.driftDue).lease = s.lease ∧ (s.driftDue).demand = s.demand ∧
    (s.driftDue).mode = s.mode ∧ (s.driftDue).program = s.program ∧ (s.driftDue).pressure = s.pressure ∧
    (s.driftDue).pour = s.pour ∧ (s.driftDue).keg = s.keg ∧ (s.driftDue).inputs = s.inputs ∧
    (s.driftDue).staged = s.staged ∧ (s.driftDue).orders = s.orders ∧
    (s.driftDue).draws = s.draws ∧ (s.driftDue).pending = s.pending := by
  unfold State.driftDue; split_ifs <;> simp

@[simp] theorem State.emptyDue_frame (s : State) :
    (s.emptyDue).power = s.power ∧ (s.emptyDue).timebase = s.timebase ∧ (s.emptyDue).load = s.load ∧
    (s.emptyDue).cfg = s.cfg ∧ (s.emptyDue).line = s.line ∧ (s.emptyDue).handler = s.handler ∧
    (s.emptyDue).share = s.share ∧ (s.emptyDue).lease = s.lease ∧ (s.emptyDue).mode = s.mode ∧
    (s.emptyDue).inputs = s.inputs ∧ (s.emptyDue).orders = s.orders ∧
    (s.emptyDue).draws = s.draws ∧ (s.emptyDue).pending = s.pending := by
  unfold State.emptyDue; dsimp only; split_ifs <;> simp

@[simp] theorem State.foamDue_frame (s : State) :
    (s.foamDue).power = s.power ∧ (s.foamDue).timebase = s.timebase ∧ (s.foamDue).load = s.load ∧
    (s.foamDue).cfg = s.cfg ∧ (s.foamDue).line = s.line ∧ (s.foamDue).handler = s.handler ∧
    (s.foamDue).share = s.share ∧ (s.foamDue).lease = s.lease ∧ (s.foamDue).mode = s.mode ∧
    (s.foamDue).thermal = s.thermal ∧ (s.foamDue).keg = s.keg ∧ (s.foamDue).inputs = s.inputs ∧
    (s.foamDue).orders = s.orders ∧
    (s.foamDue).draws = s.draws ∧ (s.foamDue).pending = s.pending := by
  unfold State.foamDue; split_ifs <;> simp

@[simp] theorem State.settleDue_frame (s : State) :
    (s.settleDue).power = s.power ∧ (s.settleDue).timebase = s.timebase ∧ (s.settleDue).load = s.load ∧
    (s.settleDue).cfg = s.cfg ∧ (s.settleDue).line = s.line ∧ (s.settleDue).handler = s.handler ∧
    (s.settleDue).share = s.share ∧ (s.settleDue).lease = s.lease ∧ (s.settleDue).mode = s.mode ∧
    (s.settleDue).thermal = s.thermal ∧ (s.settleDue).keg = s.keg ∧ (s.settleDue).inputs = s.inputs ∧
    (s.settleDue).orders = s.orders ∧
    (s.settleDue).draws = s.draws ∧ (s.settleDue).pending = s.pending := by
  unfold State.settleDue; split_ifs <;> simp

@[simp] theorem State.minuteEvent_frame (s : State) :
    (s.minuteEvent).power = s.power ∧ (s.minuteEvent).load = s.load ∧ (s.minuteEvent).cfg = s.cfg ∧
    (s.minuteEvent).line = s.line ∧ (s.minuteEvent).handler = s.handler ∧ (s.minuteEvent).share = s.share ∧
    (s.minuteEvent).lease = s.lease ∧ (s.minuteEvent).mode = s.mode ∧ (s.minuteEvent).pour = s.pour ∧
    (s.minuteEvent).inputs = s.inputs ∧ (s.minuteEvent).orders = s.orders ∧
    (s.minuteEvent).draws = s.draws ∧ (s.minuteEvent).pending = s.pending := by
  unfold State.minuteEvent; split_ifs <;> simp

@[simp] theorem State.hourEvent_frame (s : State) :
    (s.hourEvent).power = s.power ∧ (s.hourEvent).load = s.load ∧ (s.hourEvent).cfg = s.cfg ∧
    (s.hourEvent).line = s.line ∧ (s.hourEvent).handler = s.handler ∧ (s.hourEvent).share = s.share ∧
    (s.hourEvent).lease = s.lease ∧ (s.hourEvent).mode = s.mode ∧ (s.hourEvent).pour = s.pour ∧
    (s.hourEvent).inputs = s.inputs ∧ (s.hourEvent).orders = s.orders ∧
    (s.hourEvent).draws = s.draws ∧ (s.hourEvent).pending = s.pending := by
  unfold State.hourEvent; split_ifs <;> simp

@[simp] theorem State.kegLost_frame (s : State) :
    (s.kegLost).power = s.power ∧ (s.kegLost).timebase = s.timebase ∧ (s.kegLost).load = s.load ∧
    (s.kegLost).cfg = s.cfg ∧ (s.kegLost).line = s.line ∧ (s.kegLost).handler = s.handler ∧
    (s.kegLost).share = s.share ∧ (s.kegLost).lease = s.lease ∧ (s.kegLost).mode = s.mode ∧ (s.kegLost).keg = s.keg ∧
    (s.kegLost).inputs = s.inputs ∧ (s.kegLost).orders = s.orders ∧
    (s.kegLost).draws = s.draws ∧ (s.kegLost).pending = s.pending := by
  simp [State.kegLost]

@[simp] theorem State.applyEffect_frame (s : State) (x : Resource) (own : Option PendKind) (eff : Effect) :
    (s.applyEffect x own eff).power = s.power ∧ (s.applyEffect x own eff).timebase = s.timebase ∧
    (s.applyEffect x own eff).load = s.load ∧ (s.applyEffect x own eff).cfg = s.cfg ∧
    (s.applyEffect x own eff).line = s.line ∧ (s.applyEffect x own eff).handler = s.handler ∧
    (s.applyEffect x own eff).mode = s.mode ∧ (s.applyEffect x own eff).thermal = s.thermal ∧
    (s.applyEffect x own eff).program = s.program ∧ (s.applyEffect x own eff).pressure = s.pressure ∧
    (s.applyEffect x own eff).pour = s.pour ∧ (s.applyEffect x own eff).keg = s.keg ∧
    (s.applyEffect x own eff).inputs = s.inputs ∧ (s.applyEffect x own eff).staged = s.staged ∧
    (s.applyEffect x own eff).notice = s.notice ∧ (s.applyEffect x own eff).orders = s.orders ∧
    (s.applyEffect x own eff).draws = s.draws ∧ (s.applyEffect x own eff).pending = s.pending := by
  simp [State.applyEffect]

@[simp] theorem State.ownProcessed_frame (s : State) (x : Resource) (own : Option PendKind) :
    (s.ownProcessed x own).power = s.power ∧ (s.ownProcessed x own).timebase = s.timebase ∧
    (s.ownProcessed x own).load = s.load ∧ (s.ownProcessed x own).cfg = s.cfg ∧
    (s.ownProcessed x own).line = s.line ∧ (s.ownProcessed x own).handler = s.handler ∧
    (s.ownProcessed x own).share = s.share ∧ (s.ownProcessed x own).lease = s.lease ∧
    (s.ownProcessed x own).mode = s.mode ∧ (s.ownProcessed x own).thermal = s.thermal ∧
    (s.ownProcessed x own).program = s.program ∧ (s.ownProcessed x own).pressure = s.pressure ∧
    (s.ownProcessed x own).pour = s.pour ∧ (s.ownProcessed x own).keg = s.keg ∧
    (s.ownProcessed x own).inputs = s.inputs ∧ (s.ownProcessed x own).staged = s.staged ∧
    (s.ownProcessed x own).notice = s.notice ∧ (s.ownProcessed x own).orders = s.orders ∧
    (s.ownProcessed x own).draws = s.draws ∧ (s.ownProcessed x own).pending = s.pending := by
  unfold State.ownProcessed; split_ifs <;> simp

@[simp] theorem State.shareFrame_frame (s : State) (x : Resource) (own : Option PendKind) (f : Section → Option Effect) :
    (s.shareFrame x own f).power = s.power ∧ (s.shareFrame x own f).timebase = s.timebase ∧
    (s.shareFrame x own f).load = s.load ∧ (s.shareFrame x own f).cfg = s.cfg ∧
    (s.shareFrame x own f).line = s.line ∧ (s.shareFrame x own f).handler = s.handler ∧
    (s.shareFrame x own f).mode = s.mode ∧ (s.shareFrame x own f).thermal = s.thermal ∧
    (s.shareFrame x own f).program = s.program ∧ (s.shareFrame x own f).pressure = s.pressure ∧
    (s.shareFrame x own f).pour = s.pour ∧ (s.shareFrame x own f).keg = s.keg ∧
    (s.shareFrame x own f).inputs = s.inputs ∧ (s.shareFrame x own f).staged = s.staged ∧
    (s.shareFrame x own f).notice = s.notice ∧ (s.shareFrame x own f).orders = s.orders ∧
    (s.shareFrame x own f).draws = s.draws ∧ (s.shareFrame x own f).pending = s.pending := by
  unfold State.shareFrame; split <;> simp

@[simp] theorem State.claimFrame_frame (s : State) (e : RxEntry) :
    (s.claimFrame e).power = s.power ∧ (s.claimFrame e).timebase = s.timebase ∧ (s.claimFrame e).load = s.load ∧
    (s.claimFrame e).cfg = s.cfg ∧ (s.claimFrame e).line = s.line ∧ (s.claimFrame e).handler = s.handler ∧
    (s.claimFrame e).mode = s.mode ∧ (s.claimFrame e).thermal = s.thermal ∧ (s.claimFrame e).program = s.program ∧
    (s.claimFrame e).pressure = s.pressure ∧ (s.claimFrame e).pour = s.pour ∧ (s.claimFrame e).keg = s.keg ∧
    (s.claimFrame e).inputs = s.inputs ∧ (s.claimFrame e).staged = s.staged ∧ (s.claimFrame e).notice = s.notice ∧
    (s.claimFrame e).orders = s.orders ∧
    (s.claimFrame e).draws = s.draws ∧ (s.claimFrame e).pending = s.pending := by
  unfold State.claimFrame; split <;> (try split) <;> simp

@[simp] theorem State.renewFrame_frame (s : State) (e : RxEntry) :
    (s.renewFrame e).power = s.power ∧ (s.renewFrame e).timebase = s.timebase ∧ (s.renewFrame e).load = s.load ∧
    (s.renewFrame e).cfg = s.cfg ∧ (s.renewFrame e).line = s.line ∧ (s.renewFrame e).handler = s.handler ∧
    (s.renewFrame e).mode = s.mode ∧ (s.renewFrame e).thermal = s.thermal ∧ (s.renewFrame e).program = s.program ∧
    (s.renewFrame e).pressure = s.pressure ∧ (s.renewFrame e).pour = s.pour ∧ (s.renewFrame e).keg = s.keg ∧
    (s.renewFrame e).inputs = s.inputs ∧ (s.renewFrame e).staged = s.staged ∧ (s.renewFrame e).notice = s.notice ∧
    (s.renewFrame e).orders = s.orders ∧
    (s.renewFrame e).draws = s.draws ∧ (s.renewFrame e).pending = s.pending := by
  unfold State.renewFrame; split <;> (try split) <;> simp

@[simp] theorem State.yieldFrame_frame (s : State) (e : RxEntry) :
    (s.yieldFrame e).power = s.power ∧ (s.yieldFrame e).timebase = s.timebase ∧ (s.yieldFrame e).load = s.load ∧
    (s.yieldFrame e).cfg = s.cfg ∧ (s.yieldFrame e).line = s.line ∧ (s.yieldFrame e).handler = s.handler ∧
    (s.yieldFrame e).mode = s.mode ∧ (s.yieldFrame e).thermal = s.thermal ∧ (s.yieldFrame e).program = s.program ∧
    (s.yieldFrame e).pressure = s.pressure ∧ (s.yieldFrame e).pour = s.pour ∧ (s.yieldFrame e).keg = s.keg ∧
    (s.yieldFrame e).inputs = s.inputs ∧ (s.yieldFrame e).staged = s.staged ∧ (s.yieldFrame e).notice = s.notice ∧
    (s.yieldFrame e).orders = s.orders ∧
    (s.yieldFrame e).draws = s.draws ∧ (s.yieldFrame e).pending = s.pending := by
  unfold State.yieldFrame; split <;> (try split) <;> simp

@[simp] theorem State.yieldOne_frame (s : State) (x : Resource) (e : RxEntry) :
    (s.yieldOne x e).power = s.power ∧ (s.yieldOne x e).timebase = s.timebase ∧ (s.yieldOne x e).load = s.load ∧
    (s.yieldOne x e).cfg = s.cfg ∧ (s.yieldOne x e).line = s.line ∧ (s.yieldOne x e).handler = s.handler ∧
    (s.yieldOne x e).mode = s.mode ∧ (s.yieldOne x e).thermal = s.thermal ∧ (s.yieldOne x e).program = s.program ∧
    (s.yieldOne x e).pressure = s.pressure ∧ (s.yieldOne x e).pour = s.pour ∧ (s.yieldOne x e).keg = s.keg ∧
    (s.yieldOne x e).inputs = s.inputs ∧ (s.yieldOne x e).staged = s.staged ∧ (s.yieldOne x e).notice = s.notice ∧
    (s.yieldOne x e).orders = s.orders ∧
    (s.yieldOne x e).draws = s.draws ∧ (s.yieldOne x e).pending = s.pending := by
  unfold State.yieldOne; split <;> simp

@[simp] theorem State.yieldAllFrame_frame (s : State) (e : RxEntry) :
    (s.yieldAllFrame e).power = s.power ∧ (s.yieldAllFrame e).timebase = s.timebase ∧
    (s.yieldAllFrame e).load = s.load ∧ (s.yieldAllFrame e).cfg = s.cfg ∧ (s.yieldAllFrame e).line = s.line ∧
    (s.yieldAllFrame e).handler = s.handler ∧ (s.yieldAllFrame e).mode = s.mode ∧
    (s.yieldAllFrame e).thermal = s.thermal ∧ (s.yieldAllFrame e).program = s.program ∧
    (s.yieldAllFrame e).pressure = s.pressure ∧ (s.yieldAllFrame e).pour = s.pour ∧ (s.yieldAllFrame e).keg = s.keg ∧
    (s.yieldAllFrame e).inputs = s.inputs ∧ (s.yieldAllFrame e).staged = s.staged ∧
    (s.yieldAllFrame e).notice = s.notice ∧ (s.yieldAllFrame e).orders = s.orders ∧
    (s.yieldAllFrame e).draws = s.draws ∧ (s.yieldAllFrame e).pending = s.pending := by
  unfold State.yieldAllFrame; split_ifs <;> simp

@[simp] theorem State.endOwnExpire_frame (s : State) (b : Bool) (x : Resource) :
    (s.endOwnExpire b x).power = s.power ∧ (s.endOwnExpire b x).timebase = s.timebase ∧
    (s.endOwnExpire b x).load = s.load ∧ (s.endOwnExpire b x).cfg = s.cfg ∧ (s.endOwnExpire b x).line = s.line ∧
    (s.endOwnExpire b x).tx = s.tx ∧ (s.endOwnExpire b x).handler = s.handler ∧
    (s.endOwnExpire b x).share = s.share ∧ (s.endOwnExpire b x).demand = s.demand ∧
    (s.endOwnExpire b x).mode = s.mode ∧ (s.endOwnExpire b x).thermal = s.thermal ∧
    (s.endOwnExpire b x).program = s.program ∧ (s.endOwnExpire b x).pressure = s.pressure ∧
    (s.endOwnExpire b x).pour = s.pour ∧ (s.endOwnExpire b x).keg = s.keg ∧ (s.endOwnExpire b x).inputs = s.inputs ∧
    (s.endOwnExpire b x).staged = s.staged ∧ (s.endOwnExpire b x).notice = s.notice ∧
    (s.endOwnExpire b x).orders = s.orders ∧
    (s.endOwnExpire b x).draws = s.draws ∧ (s.endOwnExpire b x).pending = s.pending := by
  unfold State.endOwnExpire; split_ifs <;> simp

@[simp] theorem State.expireFrame_frame (s : State) (e : RxEntry) :
    (s.expireFrame e).power = s.power ∧ (s.expireFrame e).timebase = s.timebase ∧ (s.expireFrame e).load = s.load ∧
    (s.expireFrame e).cfg = s.cfg ∧ (s.expireFrame e).line = s.line ∧ (s.expireFrame e).handler = s.handler ∧
    (s.expireFrame e).mode = s.mode ∧ (s.expireFrame e).thermal = s.thermal ∧ (s.expireFrame e).program = s.program ∧
    (s.expireFrame e).pressure = s.pressure ∧ (s.expireFrame e).pour = s.pour ∧ (s.expireFrame e).keg = s.keg ∧
    (s.expireFrame e).inputs = s.inputs ∧ (s.expireFrame e).staged = s.staged ∧ (s.expireFrame e).notice = s.notice ∧
    (s.expireFrame e).orders = s.orders ∧
    (s.expireFrame e).draws = s.draws ∧ (s.expireFrame e).pending = s.pending := by
  unfold State.expireFrame; split <;> (try split) <;> simp

@[simp] theorem State.adopt_frame (s : State) (x : Resource) (sec : Section) (c : Word) :
    (s.adopt x sec c).power = s.power ∧ (s.adopt x sec c).timebase = s.timebase ∧ (s.adopt x sec c).load = s.load ∧
    (s.adopt x sec c).cfg = s.cfg ∧ (s.adopt x sec c).line = s.line ∧ (s.adopt x sec c).handler = s.handler ∧
    (s.adopt x sec c).mode = s.mode ∧ (s.adopt x sec c).thermal = s.thermal ∧ (s.adopt x sec c).program = s.program ∧
    (s.adopt x sec c).pressure = s.pressure ∧ (s.adopt x sec c).pour = s.pour ∧ (s.adopt x sec c).keg = s.keg ∧
    (s.adopt x sec c).inputs = s.inputs ∧ (s.adopt x sec c).staged = s.staged ∧ (s.adopt x sec c).notice = s.notice ∧
    (s.adopt x sec c).orders = s.orders ∧
    (s.adopt x sec c).draws = s.draws ∧ (s.adopt x sec c).pending = s.pending := by
  simp [State.adopt]

@[simp] theorem State.adoptFrame_frame (s : State) (b : List Byte) :
    (s.adoptFrame b).power = s.power ∧ (s.adoptFrame b).timebase = s.timebase ∧ (s.adoptFrame b).load = s.load ∧
    (s.adoptFrame b).cfg = s.cfg ∧ (s.adoptFrame b).line = s.line ∧ (s.adoptFrame b).handler = s.handler ∧
    (s.adoptFrame b).mode = s.mode ∧ (s.adoptFrame b).thermal = s.thermal ∧ (s.adoptFrame b).program = s.program ∧
    (s.adoptFrame b).pressure = s.pressure ∧ (s.adoptFrame b).pour = s.pour ∧ (s.adoptFrame b).keg = s.keg ∧
    (s.adoptFrame b).inputs = s.inputs ∧ (s.adoptFrame b).staged = s.staged ∧ (s.adoptFrame b).notice = s.notice ∧
    (s.adoptFrame b).orders = s.orders ∧
    (s.adoptFrame b).draws = s.draws ∧ (s.adoptFrame b).pending = s.pending := by
  unfold State.adoptFrame; split <;> (try split_ifs) <;> (try split) <;> simp

@[simp] theorem State.syncTableFrame_frame (s : State) (e : RxEntry) :
    (s.syncTableFrame e).power = s.power ∧ (s.syncTableFrame e).timebase = s.timebase ∧
    (s.syncTableFrame e).load = s.load ∧ (s.syncTableFrame e).cfg = s.cfg ∧ (s.syncTableFrame e).line = s.line ∧
    (s.syncTableFrame e).handler = s.handler ∧ (s.syncTableFrame e).thermal = s.thermal ∧
    (s.syncTableFrame e).program = s.program ∧ (s.syncTableFrame e).pressure = s.pressure ∧
    (s.syncTableFrame e).pour = s.pour ∧ (s.syncTableFrame e).keg = s.keg ∧ (s.syncTableFrame e).inputs = s.inputs ∧
    (s.syncTableFrame e).staged = s.staged ∧ (s.syncTableFrame e).notice = s.notice ∧
    (s.syncTableFrame e).orders = s.orders ∧
    (s.syncTableFrame e).draws = s.draws ∧ (s.syncTableFrame e).pending = s.pending := by
  unfold State.syncTableFrame; dsimp only; split_ifs <;> simp

@[simp] theorem State.syncAskFrame_frame (s : State) (e : RxEntry) :
    (s.syncAskFrame e).power = s.power ∧ (s.syncAskFrame e).timebase = s.timebase ∧
    (s.syncAskFrame e).load = s.load ∧ (s.syncAskFrame e).cfg = s.cfg ∧ (s.syncAskFrame e).line = s.line ∧
    (s.syncAskFrame e).handler = s.handler ∧ (s.syncAskFrame e).share = s.share ∧
    (s.syncAskFrame e).lease = s.lease ∧ (s.syncAskFrame e).demand = s.demand ∧ (s.syncAskFrame e).mode = s.mode ∧
    (s.syncAskFrame e).thermal = s.thermal ∧ (s.syncAskFrame e).program = s.program ∧
    (s.syncAskFrame e).pressure = s.pressure ∧ (s.syncAskFrame e).pour = s.pour ∧ (s.syncAskFrame e).keg = s.keg ∧
    (s.syncAskFrame e).inputs = s.inputs ∧ (s.syncAskFrame e).staged = s.staged ∧
    (s.syncAskFrame e).notice = s.notice ∧ (s.syncAskFrame e).orders = s.orders ∧
    (s.syncAskFrame e).draws = s.draws ∧ (s.syncAskFrame e).pending = s.pending := by
  unfold State.syncAskFrame; split_ifs <;> simp

@[simp] theorem State.compare_frame (s : State) (r : RosterEntry) :
    (s.compare r).power = s.power ∧ (s.compare r).timebase = s.timebase ∧ (s.compare r).load = s.load ∧
    (s.compare r).cfg = s.cfg ∧ (s.compare r).line = s.line ∧ (s.compare r).handler = s.handler ∧
    (s.compare r).thermal = s.thermal ∧ (s.compare r).program = s.program ∧ (s.compare r).pressure = s.pressure ∧
    (s.compare r).pour = s.pour ∧ (s.compare r).keg = s.keg ∧ (s.compare r).inputs = s.inputs ∧
    (s.compare r).staged = s.staged ∧ (s.compare r).orders = s.orders ∧
    (s.compare r).draws = s.draws ∧ (s.compare r).pending = s.pending := by
  unfold State.compare; split_ifs <;> simp

@[simp] theorem State.heardActive_frame (s : State) (r : RosterEntry) :
    (s.heardActive r).power = s.power ∧ (s.heardActive r).timebase = s.timebase ∧ (s.heardActive r).load = s.load ∧
    (s.heardActive r).cfg = s.cfg ∧ (s.heardActive r).line = s.line ∧ (s.heardActive r).handler = s.handler ∧
    (s.heardActive r).thermal = s.thermal ∧ (s.heardActive r).program = s.program ∧
    (s.heardActive r).pressure = s.pressure ∧ (s.heardActive r).pour = s.pour ∧ (s.heardActive r).keg = s.keg ∧
    (s.heardActive r).inputs = s.inputs ∧ (s.heardActive r).staged = s.staged ∧ (s.heardActive r).orders = s.orders ∧
    (s.heardActive r).draws = s.draws ∧ (s.heardActive r).pending = s.pending := by
  unfold State.heardActive; split_ifs <;> simp

@[simp] theorem State.weighAnnounce_frame (s : State) (b : Option Nat) (r : RosterEntry) :
    (s.weighAnnounce b r).power = s.power ∧ (s.weighAnnounce b r).timebase = s.timebase ∧
    (s.weighAnnounce b r).load = s.load ∧ (s.weighAnnounce b r).cfg = s.cfg ∧ (s.weighAnnounce b r).line = s.line ∧
    (s.weighAnnounce b r).handler = s.handler ∧ (s.weighAnnounce b r).thermal = s.thermal ∧
    (s.weighAnnounce b r).program = s.program ∧ (s.weighAnnounce b r).pressure = s.pressure ∧
    (s.weighAnnounce b r).pour = s.pour ∧ (s.weighAnnounce b r).keg = s.keg ∧
    (s.weighAnnounce b r).inputs = s.inputs ∧ (s.weighAnnounce b r).staged = s.staged ∧
    (s.weighAnnounce b r).orders = s.orders ∧
    (s.weighAnnounce b r).draws = s.draws ∧ (s.weighAnnounce b r).pending = s.pending := by
  unfold State.weighAnnounce; split_ifs <;> simp

@[simp] theorem State.announceFrame_frame (s : State) (e : RxEntry) :
    (s.announceFrame e).power = s.power ∧ (s.announceFrame e).timebase = s.timebase ∧
    (s.announceFrame e).load = s.load ∧ (s.announceFrame e).cfg = s.cfg ∧ (s.announceFrame e).line = s.line ∧
    (s.announceFrame e).handler = s.handler ∧ (s.announceFrame e).thermal = s.thermal ∧
    (s.announceFrame e).program = s.program ∧ (s.announceFrame e).pressure = s.pressure ∧
    (s.announceFrame e).pour = s.pour ∧ (s.announceFrame e).keg = s.keg ∧ (s.announceFrame e).inputs = s.inputs ∧
    (s.announceFrame e).staged = s.staged ∧ (s.announceFrame e).orders = s.orders ∧
    (s.announceFrame e).draws = s.draws ∧ (s.announceFrame e).pending = s.pending := by
  unfold State.announceFrame; dsimp only; split <;> simp

@[simp] theorem State.ownerLost_frame (s : State) (f : TxFrame) :
    (s.ownerLost f).power = s.power ∧ (s.ownerLost f).timebase = s.timebase ∧ (s.ownerLost f).load = s.load ∧
    (s.ownerLost f).cfg = s.cfg ∧ (s.ownerLost f).line = s.line ∧ (s.ownerLost f).handler = s.handler ∧
    (s.ownerLost f).share = s.share ∧ (s.ownerLost f).mode = s.mode ∧ (s.ownerLost f).thermal = s.thermal ∧
    (s.ownerLost f).program = s.program ∧ (s.ownerLost f).pressure = s.pressure ∧ (s.ownerLost f).pour = s.pour ∧
    (s.ownerLost f).keg = s.keg ∧ (s.ownerLost f).inputs = s.inputs ∧ (s.ownerLost f).staged = s.staged ∧
    (s.ownerLost f).notice = s.notice ∧ (s.ownerLost f).orders = s.orders ∧
    (s.ownerLost f).draws = s.draws ∧ (s.ownerLost f).pending = s.pending := by
  cases f <;> simp [State.ownerLost]

@[simp] theorem State.judgeOwn_frame (s : State) (b : Bool) :
    (s.judgeOwn b).power = s.power ∧ (s.judgeOwn b).timebase = s.timebase ∧ (s.judgeOwn b).load = s.load ∧
    (s.judgeOwn b).cfg = s.cfg ∧ (s.judgeOwn b).handler = s.handler ∧ (s.judgeOwn b).share = s.share ∧
    (s.judgeOwn b).mode = s.mode ∧ (s.judgeOwn b).thermal = s.thermal ∧ (s.judgeOwn b).program = s.program ∧
    (s.judgeOwn b).pressure = s.pressure ∧ (s.judgeOwn b).pour = s.pour ∧ (s.judgeOwn b).keg = s.keg ∧
    (s.judgeOwn b).inputs = s.inputs ∧ (s.judgeOwn b).staged = s.staged ∧ (s.judgeOwn b).notice = s.notice ∧
    (s.judgeOwn b).orders = s.orders ∧
    (s.judgeOwn b).draws = s.draws ∧ (s.judgeOwn b).pending = s.pending := by
  unfold State.judgeOwn; dsimp only; split <;> (try split_ifs) <;> simp

@[simp] theorem State.lineSuspect_frame (s : State) :
    (s.lineSuspect).power = s.power ∧ (s.lineSuspect).timebase = s.timebase ∧ (s.lineSuspect).load = s.load ∧
    (s.lineSuspect).cfg = s.cfg ∧ (s.lineSuspect).line = s.line ∧ (s.lineSuspect).handler = s.handler ∧
    (s.lineSuspect).thermal = s.thermal ∧ (s.lineSuspect).program = s.program ∧ (s.lineSuspect).pressure = s.pressure ∧
    (s.lineSuspect).pour = s.pour ∧ (s.lineSuspect).keg = s.keg ∧ (s.lineSuspect).inputs = s.inputs ∧
    (s.lineSuspect).staged = s.staged ∧ (s.lineSuspect).orders = s.orders ∧ (s.lineSuspect).draws = s.draws ∧
    (s.lineSuspect).pending = s.pending := by
  unfold State.lineSuspect; split_ifs <;> simp

@[simp] theorem State.releaseSuspect_frame (s : State) :
    (s.releaseSuspect).power = s.power ∧ (s.releaseSuspect).timebase = s.timebase ∧ (s.releaseSuspect).load = s.load ∧
    (s.releaseSuspect).cfg = s.cfg ∧ (s.releaseSuspect).line = s.line ∧ (s.releaseSuspect).handler = s.handler ∧
    (s.releaseSuspect).thermal = s.thermal ∧ (s.releaseSuspect).program = s.program ∧
    (s.releaseSuspect).pressure = s.pressure ∧ (s.releaseSuspect).pour = s.pour ∧ (s.releaseSuspect).keg = s.keg ∧
    (s.releaseSuspect).inputs = s.inputs ∧ (s.releaseSuspect).staged = s.staged ∧ (s.releaseSuspect).orders = s.orders ∧
    (s.releaseSuspect).draws = s.draws ∧ (s.releaseSuspect).pending = s.pending := by
  unfold State.releaseSuspect; split_ifs <;> simp

@[simp] theorem State.discardFrame_frame (s : State) (own clean : Bool) :
    (s.discardFrame own clean).power = s.power ∧ (s.discardFrame own clean).timebase = s.timebase ∧
    (s.discardFrame own clean).load = s.load ∧ (s.discardFrame own clean).cfg = s.cfg ∧
    (s.discardFrame own clean).handler = s.handler ∧ (s.discardFrame own clean).thermal = s.thermal ∧
    (s.discardFrame own clean).program = s.program ∧ (s.discardFrame own clean).pressure = s.pressure ∧
    (s.discardFrame own clean).pour = s.pour ∧ (s.discardFrame own clean).keg = s.keg ∧
    (s.discardFrame own clean).inputs = s.inputs ∧ (s.discardFrame own clean).staged = s.staged ∧
    (s.discardFrame own clean).orders = s.orders ∧ (s.discardFrame own clean).draws = s.draws ∧
    (s.discardFrame own clean).pending = s.pending := by
  unfold State.discardFrame; dsimp only; split_ifs <;> simp

@[simp] theorem State.receive_frame (s : State) (e : RxEntry) :
    (s.receive e).power = s.power ∧ (s.receive e).timebase = s.timebase ∧ (s.receive e).load = s.load ∧
    (s.receive e).cfg = s.cfg ∧ (s.receive e).thermal = s.thermal ∧ (s.receive e).program = s.program ∧
    (s.receive e).pressure = s.pressure ∧ (s.receive e).pour = s.pour ∧ (s.receive e).keg = s.keg ∧
    (s.receive e).inputs = s.inputs ∧ (s.receive e).staged = s.staged ∧ (s.receive e).orders = s.orders ∧
    (s.receive e).draws = s.draws ∧ (s.receive e).pending = s.pending := by
  unfold State.receive; split_ifs <;> (try split) <;> simp

@[simp] theorem State.judgeFrame_frame (s : State) (b : Bool) (l : List RxChar) :
    (s.judgeFrame b l).power = s.power ∧ (s.judgeFrame b l).timebase = s.timebase ∧ (s.judgeFrame b l).load = s.load ∧
    (s.judgeFrame b l).cfg = s.cfg ∧ (s.judgeFrame b l).thermal = s.thermal ∧ (s.judgeFrame b l).program = s.program ∧
    (s.judgeFrame b l).pressure = s.pressure ∧ (s.judgeFrame b l).pour = s.pour ∧ (s.judgeFrame b l).keg = s.keg ∧
    (s.judgeFrame b l).inputs = s.inputs ∧ (s.judgeFrame b l).staged = s.staged ∧ (s.judgeFrame b l).orders = s.orders ∧
    (s.judgeFrame b l).draws = s.draws ∧ (s.judgeFrame b l).pending = s.pending := by
  unfold State.judgeFrame; dsimp only; split <;> simp

@[simp] theorem State.slot_frame (s : State) (r : Round) (w : Bool) :
    (s.slot r w).power = s.power ∧ (s.slot r w).timebase = s.timebase ∧ (s.slot r w).load = s.load ∧
    (s.slot r w).cfg = s.cfg ∧ (s.slot r w).handler = s.handler ∧ (s.slot r w).share = s.share ∧
    (s.slot r w).lease = s.lease ∧ (s.slot r w).demand = s.demand ∧ (s.slot r w).mode = s.mode ∧
    (s.slot r w).thermal = s.thermal ∧ (s.slot r w).program = s.program ∧ (s.slot r w).pressure = s.pressure ∧
    (s.slot r w).pour = s.pour ∧ (s.slot r w).keg = s.keg ∧ (s.slot r w).inputs = s.inputs ∧
    (s.slot r w).staged = s.staged ∧ (s.slot r w).notice = s.notice ∧ (s.slot r w).orders = s.orders ∧
    (s.slot r w).draws = s.draws ∧ (s.slot r w).pending = s.pending := by
  unfold State.slot; split_ifs <;> (try split) <;> (try split_ifs) <;> simp

@[simp] theorem State.ownerSent_frame (s : State) (f : TxFrame) (w : Bool) :
    (s.ownerSent f w).timebase = s.timebase ∧ (s.ownerSent f w).load = s.load ∧ (s.ownerSent f w).cfg = s.cfg ∧
    (s.ownerSent f w).line = s.line ∧ (s.ownerSent f w).handler = s.handler ∧ (s.ownerSent f w).share = s.share ∧
    (s.ownerSent f w).thermal = s.thermal ∧ (s.ownerSent f w).program = s.program ∧
    (s.ownerSent f w).pressure = s.pressure ∧ (s.ownerSent f w).pour = s.pour ∧ (s.ownerSent f w).keg = s.keg ∧
    (s.ownerSent f w).inputs = s.inputs ∧ (s.ownerSent f w).staged = s.staged ∧ (s.ownerSent f w).notice = s.notice ∧
    (s.ownerSent f w).draws = s.draws ∧ (s.ownerSent f w).pending = s.pending := by
  cases f <;> simp [State.ownerSent]

@[simp] theorem State.kegPresentTaken_frame (s : State) (t : Taken) :
    (s.kegPresentTaken t).power = s.power ∧ (s.kegPresentTaken t).timebase = s.timebase ∧
    (s.kegPresentTaken t).load = s.load ∧ (s.kegPresentTaken t).cfg = s.cfg ∧ (s.kegPresentTaken t).line = s.line ∧
    (s.kegPresentTaken t).handler = s.handler ∧ (s.kegPresentTaken t).keg = s.keg ∧
    (s.kegPresentTaken t).inputs = s.inputs ∧ (s.kegPresentTaken t).orders = s.orders ∧
    (s.kegPresentTaken t).draws = s.draws ∧ (s.kegPresentTaken t).pending = s.pending := by
  cases t <;> simp only [State.kegPresentTaken] <;> (try split_ifs) <;> simp

@[simp] theorem State.coupledTaken_frame (s : State) (t : Taken) :
    (s.coupledTaken t).power = s.power ∧ (s.coupledTaken t).timebase = s.timebase ∧
    (s.coupledTaken t).load = s.load ∧ (s.coupledTaken t).cfg = s.cfg ∧ (s.coupledTaken t).line = s.line ∧
    (s.coupledTaken t).handler = s.handler ∧ (s.coupledTaken t).share = s.share ∧
    (s.coupledTaken t).lease = s.lease ∧ (s.coupledTaken t).mode = s.mode ∧ (s.coupledTaken t).keg = s.keg ∧
    (s.coupledTaken t).inputs = s.inputs ∧ (s.coupledTaken t).orders = s.orders ∧
    (s.coupledTaken t).draws = s.draws ∧ (s.coupledTaken t).pending = s.pending := by
  cases t <;> simp [State.coupledTaken]

@[simp] theorem State.leakTaken_frame (s : State) (t : Taken) :
    (s.leakTaken t).power = s.power ∧ (s.leakTaken t).timebase = s.timebase ∧ (s.leakTaken t).load = s.load ∧
    (s.leakTaken t).cfg = s.cfg ∧ (s.leakTaken t).line = s.line ∧ (s.leakTaken t).handler = s.handler ∧
    (s.leakTaken t).share = s.share ∧ (s.leakTaken t).lease = s.lease ∧ (s.leakTaken t).mode = s.mode ∧
    (s.leakTaken t).thermal = s.thermal ∧ (s.leakTaken t).pour = s.pour ∧ (s.leakTaken t).keg = s.keg ∧
    (s.leakTaken t).inputs = s.inputs ∧ (s.leakTaken t).orders = s.orders ∧
    (s.leakTaken t).draws = s.draws ∧ (s.leakTaken t).pending = s.pending := by
  cases t <;> simp [State.leakTaken]

@[simp] theorem State.dripTaken_frame (s : State) (t : Taken) :
    (s.dripTaken t).power = s.power ∧ (s.dripTaken t).timebase = s.timebase ∧ (s.dripTaken t).load = s.load ∧
    (s.dripTaken t).cfg = s.cfg ∧ (s.dripTaken t).line = s.line ∧ (s.dripTaken t).handler = s.handler ∧
    (s.dripTaken t).share = s.share ∧ (s.dripTaken t).lease = s.lease ∧ (s.dripTaken t).demand = s.demand ∧
    (s.dripTaken t).mode = s.mode ∧ (s.dripTaken t).thermal = s.thermal ∧ (s.dripTaken t).program = s.program ∧
    (s.dripTaken t).pressure = s.pressure ∧ (s.dripTaken t).pour = s.pour ∧ (s.dripTaken t).keg = s.keg ∧
    (s.dripTaken t).inputs = s.inputs ∧ (s.dripTaken t).staged = s.staged ∧ (s.dripTaken t).orders = s.orders ∧
    (s.dripTaken t).draws = s.draws ∧ (s.dripTaken t).pending = s.pending := by
  cases t <;> simp [State.dripTaken]

@[simp] theorem State.handleTaken_frame (s : State) (t : Taken) :
    (s.handleTaken t).power = s.power ∧ (s.handleTaken t).timebase = s.timebase ∧ (s.handleTaken t).load = s.load ∧
    (s.handleTaken t).cfg = s.cfg ∧ (s.handleTaken t).line = s.line ∧ (s.handleTaken t).handler = s.handler ∧
    (s.handleTaken t).share = s.share ∧ (s.handleTaken t).lease = s.lease ∧ (s.handleTaken t).mode = s.mode ∧
    (s.handleTaken t).thermal = s.thermal ∧ (s.handleTaken t).keg = s.keg ∧ (s.handleTaken t).inputs = s.inputs ∧
    (s.handleTaken t).orders = s.orders ∧ (s.handleTaken t).pending = s.pending := by
  cases t <;> simp only [State.handleTaken] <;> (try split_ifs) <;> simp

@[simp] theorem State.handOn_frame (b s : State) :
    (State.handOn b s).power = s.power ∧ (State.handOn b s).timebase = s.timebase ∧
    (State.handOn b s).load = s.load ∧ (State.handOn b s).cfg = s.cfg ∧ (State.handOn b s).line = s.line ∧
    (State.handOn b s).handler = s.handler ∧ (State.handOn b s).keg = s.keg ∧ (State.handOn b s).inputs = s.inputs ∧
    (State.handOn b s).orders = s.orders ∧ (State.handOn b s).pending = s.pending := by
  simp [State.handOn]

@[simp] theorem State.countSecond_frame (s : State) :
    (s.countSecond).power = s.power ∧ (s.countSecond).timebase = s.timebase ∧ (s.countSecond).load = s.load ∧
    (s.countSecond).cfg = s.cfg ∧ (s.countSecond).line = s.line ∧ (s.countSecond).tx = s.tx ∧
    (s.countSecond).handler = s.handler ∧ (s.countSecond).share = s.share ∧ (s.countSecond).thermal = s.thermal ∧
    (s.countSecond).program = s.program ∧ (s.countSecond).pressure = s.pressure ∧ (s.countSecond).keg = s.keg ∧
    (s.countSecond).inputs = s.inputs ∧ (s.countSecond).staged = s.staged ∧ (s.countSecond).notice = s.notice ∧
    (s.countSecond).orders = s.orders ∧
    (s.countSecond).draws = s.draws ∧ (s.countSecond).pending = s.pending := by
  simp [State.countSecond]

@[simp] theorem State.retryRequested_frame (s : State) :
    (s.retryRequested).power = s.power ∧ (s.retryRequested).timebase = s.timebase ∧
    (s.retryRequested).load = s.load ∧ (s.retryRequested).cfg = s.cfg ∧ (s.retryRequested).line = s.line ∧
    (s.retryRequested).handler = s.handler ∧ (s.retryRequested).share = s.share ∧
    (s.retryRequested).lease = s.lease ∧ (s.retryRequested).mode = s.mode ∧ (s.retryRequested).thermal = s.thermal ∧
    (s.retryRequested).program = s.program ∧ (s.retryRequested).pressure = s.pressure ∧
    (s.retryRequested).pour = s.pour ∧ (s.retryRequested).keg = s.keg ∧ (s.retryRequested).inputs = s.inputs ∧
    (s.retryRequested).staged = s.staged ∧ (s.retryRequested).notice = s.notice ∧
    (s.retryRequested).orders = s.orders ∧
    (s.retryRequested).draws = s.draws ∧ (s.retryRequested).pending = s.pending := by
  simp [State.retryRequested]

@[simp] theorem State.probeSecond_frame (s : State) (v : Int) :
    (s.probeSecond v).power = s.power ∧ (s.probeSecond v).timebase = s.timebase ∧ (s.probeSecond v).load = s.load ∧
    (s.probeSecond v).cfg = s.cfg ∧ (s.probeSecond v).line = s.line ∧ (s.probeSecond v).handler = s.handler ∧
    (s.probeSecond v).share = s.share ∧ (s.probeSecond v).lease = s.lease ∧ (s.probeSecond v).mode = s.mode ∧
    (s.probeSecond v).pressure = s.pressure ∧ (s.probeSecond v).pour = s.pour ∧ (s.probeSecond v).keg = s.keg ∧
    (s.probeSecond v).inputs = s.inputs ∧ (s.probeSecond v).orders = s.orders ∧
    (s.probeSecond v).draws = s.draws ∧ (s.probeSecond v).pending = s.pending := by
  simp [State.probeSecond]

@[simp] theorem State.takeSilent_frame (s : State) :
    (s.takeSilent).power = s.power ∧ (s.takeSilent).timebase = s.timebase ∧ (s.takeSilent).load = s.load ∧
    (s.takeSilent).cfg = s.cfg ∧ (s.takeSilent).line = s.line ∧ (s.takeSilent).handler = s.handler ∧
    (s.takeSilent).thermal = s.thermal ∧ (s.takeSilent).program = s.program ∧ (s.takeSilent).pressure = s.pressure ∧
    (s.takeSilent).pour = s.pour ∧ (s.takeSilent).keg = s.keg ∧ (s.takeSilent).inputs = s.inputs ∧
    (s.takeSilent).staged = s.staged ∧ (s.takeSilent).orders = s.orders ∧
    (s.takeSilent).draws = s.draws ∧ (s.takeSilent).pending = s.pending := by
  simp [State.takeSilent]

@[simp] theorem State.takeDue_frame (s : State) :
    (s.takeDue).power = s.power ∧ (s.takeDue).load = s.load ∧ (s.takeDue).cfg = s.cfg ∧ (s.takeDue).line = s.line ∧
    (s.takeDue).handler = s.handler ∧ (s.takeDue).inputs = s.inputs ∧ (s.takeDue).orders = s.orders ∧
    (s.takeDue).draws = s.draws ∧ (s.takeDue).pending = s.pending := by
  simp [State.takeDue]

end Sys2Proof.Machine
end

