-- ==== Sys2Proof/Laws/Outcome.lean ====
section
/-! SUPPORT. Every row answers a next state and keeps the queue of waiting commands; what the two wrappers of the rows do, the
running part and the frame in hand. -/

namespace Sys2Proof.Machine

/-! ### The wrappers -/

theorem whileRunning_on (s : State) (f : State → State) (h : s.power = .running) : whileRunning s f = .next (f s) := by
  simp [whileRunning, h]

theorem whileRunning_off (s : State) (f : State → State) (h : s.power ≠ .running) : whileRunning s f = .next s := by
  simp [whileRunning, h]

theorem takeFrame_none (s : State) (ok : FrameClass → Bool) (f : RxEntry → State → State) (h : s.handler.inHand = none) :
    takeFrame s ok f = s := by
  simp [takeFrame, h]

theorem takeFrame_some (s : State) (ok : FrameClass → Bool) (f : RxEntry → State → State) (e : RxEntry)
    (h : s.handler.inHand = some e) (hok : ok (classify s.line.address e) = true) :
    takeFrame s ok f = f e (s.popFrame e) := by
  simp [takeFrame, h, hok]

theorem takeFrame_other (s : State) (ok : FrameClass → Bool) (f : RxEntry → State → State) (e : RxEntry)
    (h : s.handler.inHand = some e) (hok : ok (classify s.line.address e) = false) : takeFrame s ok f = s := by
  simp [takeFrame, h, hok]

/-- A property of a state that every effect of a row keeps is one the row's outcome keeps. -/
theorem takeFrame_keeps {P : State → Prop} (s : State) (ok : FrameClass → Bool) (f : RxEntry → State → State) (h : P s)
    (hf : ∀ e, P (f e (s.popFrame e))) : P (takeFrame s ok f) := by
  unfold takeFrame
  split
  · exact h
  · split
    · exact hf _
    · exact h

/-- An order row keeps what its drop, its plain answers and its performance keep. -/
theorem State.handleOrder_keeps {P : State → Prop} (s : State) (o : OrderCode) (e : RxEntry)
    (perform : List Byte → State → Reply) (hdrop : P s.dropOrder) (hplain : ∀ r, P (s.answer e o.code r []))
    (hdone : P ((perform (orderArgs e) s).state.answer e o.code (perform (orderArgs e) s).result
      (perform (orderArgs e) s).data)) :
    P (s.handleOrder o e perform) := by
  unfold State.handleOrder
  split_ifs
  · exact hdrop
  · exact hplain _
  · exact hplain _
  · exact hdone

/-! ### What an order's performance leaves alone -/

@[simp] theorem State.reply_state (s : State) (r : Result) : (s.reply r).state = s := rfl

@[simp] theorem State.done_state (s : State) : s.done.state = s := rfl

@[simp] theorem State.doneWith_state (s : State) (d : List Byte) : (s.doneWith d).state = s := rfl

@[simp] theorem State.readStep_frame (a : List Byte) (s : State) :
    ((State.readStep a s).state).power = s.power ∧ ((State.readStep a s).state).timebase = s.timebase ∧
    ((State.readStep a s).state).load = s.load ∧ ((State.readStep a s).state).cfg = s.cfg ∧
    ((State.readStep a s).state).line = s.line ∧ ((State.readStep a s).state).tx = s.tx ∧
    ((State.readStep a s).state).handler = s.handler ∧ ((State.readStep a s).state).share = s.share ∧
    ((State.readStep a s).state).lease = s.lease ∧ ((State.readStep a s).state).demand = s.demand ∧
    ((State.readStep a s).state).mode = s.mode ∧ ((State.readStep a s).state).thermal = s.thermal ∧
    ((State.readStep a s).state).program = s.program ∧ ((State.readStep a s).state).pressure = s.pressure ∧
    ((State.readStep a s).state).pour = s.pour ∧ ((State.readStep a s).state).keg = s.keg ∧
    ((State.readStep a s).state).inputs = s.inputs ∧ ((State.readStep a s).state).staged = s.staged ∧
    ((State.readStep a s).state).notice = s.notice ∧ ((State.readStep a s).state).orders = s.orders ∧
    ((State.readStep a s).state).draws = s.draws ∧ ((State.readStep a s).state).pending = s.pending := by
  unfold State.readStep; repeat' split
  all_goals simp

@[simp] theorem State.readPourLog_frame (a : List Byte) (s : State) :
    ((State.readPourLog a s).state).power = s.power ∧ ((State.readPourLog a s).state).timebase = s.timebase ∧
    ((State.readPourLog a s).state).load = s.load ∧ ((State.readPourLog a s).state).cfg = s.cfg ∧
    ((State.readPourLog a s).state).line = s.line ∧ ((State.readPourLog a s).state).tx = s.tx ∧
    ((State.readPourLog a s).state).handler = s.handler ∧ ((State.readPourLog a s).state).share = s.share ∧
    ((State.readPourLog a s).state).lease = s.lease ∧ ((State.readPourLog a s).state).demand = s.demand ∧
    ((State.readPourLog a s).state).mode = s.mode ∧ ((State.readPourLog a s).state).thermal = s.thermal ∧
    ((State.readPourLog a s).state).program = s.program ∧ ((State.readPourLog a s).state).pressure = s.pressure ∧
    ((State.readPourLog a s).state).pour = s.pour ∧ ((State.readPourLog a s).state).keg = s.keg ∧
    ((State.readPourLog a s).state).inputs = s.inputs ∧ ((State.readPourLog a s).state).staged = s.staged ∧
    ((State.readPourLog a s).state).notice = s.notice ∧ ((State.readPourLog a s).state).orders = s.orders ∧
    ((State.readPourLog a s).state).draws = s.draws ∧ ((State.readPourLog a s).state).pending = s.pending := by
  unfold State.readPourLog; repeat' split
  all_goals simp

@[simp] theorem State.readNotices_frame (a : List Byte) (s : State) :
    ((State.readNotices a s).state).power = s.power ∧ ((State.readNotices a s).state).timebase = s.timebase ∧
    ((State.readNotices a s).state).load = s.load ∧ ((State.readNotices a s).state).cfg = s.cfg ∧
    ((State.readNotices a s).state).line = s.line ∧ ((State.readNotices a s).state).tx = s.tx ∧
    ((State.readNotices a s).state).handler = s.handler ∧ ((State.readNotices a s).state).share = s.share ∧
    ((State.readNotices a s).state).lease = s.lease ∧ ((State.readNotices a s).state).demand = s.demand ∧
    ((State.readNotices a s).state).mode = s.mode ∧ ((State.readNotices a s).state).thermal = s.thermal ∧
    ((State.readNotices a s).state).program = s.program ∧ ((State.readNotices a s).state).pressure = s.pressure ∧
    ((State.readNotices a s).state).pour = s.pour ∧ ((State.readNotices a s).state).keg = s.keg ∧
    ((State.readNotices a s).state).inputs = s.inputs ∧ ((State.readNotices a s).state).staged = s.staged ∧
    ((State.readNotices a s).state).orders = s.orders ∧
    ((State.readNotices a s).state).draws = s.draws ∧ ((State.readNotices a s).state).pending = s.pending := by
  simp [State.readNotices]

@[simp] theorem State.clearNotices_frame (a : List Byte) (s : State) :
    ((State.clearNotices a s).state).power = s.power ∧ ((State.clearNotices a s).state).timebase = s.timebase ∧
    ((State.clearNotices a s).state).load = s.load ∧ ((State.clearNotices a s).state).cfg = s.cfg ∧
    ((State.clearNotices a s).state).line = s.line ∧ ((State.clearNotices a s).state).tx = s.tx ∧
    ((State.clearNotices a s).state).handler = s.handler ∧ ((State.clearNotices a s).state).share = s.share ∧
    ((State.clearNotices a s).state).lease = s.lease ∧ ((State.clearNotices a s).state).demand = s.demand ∧
    ((State.clearNotices a s).state).mode = s.mode ∧ ((State.clearNotices a s).state).thermal = s.thermal ∧
    ((State.clearNotices a s).state).program = s.program ∧ ((State.clearNotices a s).state).pressure = s.pressure ∧
    ((State.clearNotices a s).state).pour = s.pour ∧ ((State.clearNotices a s).state).keg = s.keg ∧
    ((State.clearNotices a s).state).inputs = s.inputs ∧ ((State.clearNotices a s).state).staged = s.staged ∧
    ((State.clearNotices a s).state).orders = s.orders ∧
    ((State.clearNotices a s).state).draws = s.draws ∧ ((State.clearNotices a s).state).pending = s.pending := by
  unfold State.clearNotices; repeat' split
  all_goals simp

@[simp] theorem State.setNoticeEnable_frame (a : List Byte) (s : State) :
    ((State.setNoticeEnable a s).state).power = s.power ∧ ((State.setNoticeEnable a s).state).timebase = s.timebase ∧
    ((State.setNoticeEnable a s).state).load = s.load ∧ ((State.setNoticeEnable a s).state).cfg = s.cfg ∧
    ((State.setNoticeEnable a s).state).line = s.line ∧ ((State.setNoticeEnable a s).state).tx = s.tx ∧
    ((State.setNoticeEnable a s).state).handler = s.handler ∧ ((State.setNoticeEnable a s).state).share = s.share ∧
    ((State.setNoticeEnable a s).state).lease = s.lease ∧ ((State.setNoticeEnable a s).state).demand = s.demand ∧
    ((State.setNoticeEnable a s).state).mode = s.mode ∧ ((State.setNoticeEnable a s).state).thermal = s.thermal ∧
    ((State.setNoticeEnable a s).state).program = s.program ∧
    ((State.setNoticeEnable a s).state).pressure = s.pressure ∧ ((State.setNoticeEnable a s).state).pour = s.pour ∧
    ((State.setNoticeEnable a s).state).keg = s.keg ∧ ((State.setNoticeEnable a s).state).inputs = s.inputs ∧
    ((State.setNoticeEnable a s).state).staged = s.staged ∧ ((State.setNoticeEnable a s).state).orders = s.orders ∧
    ((State.setNoticeEnable a s).state).draws = s.draws ∧ ((State.setNoticeEnable a s).state).pending = s.pending := by
  unfold State.setNoticeEnable; repeat' split
  all_goals simp

@[simp] theorem State.raiseNotice_frame (a : List Byte) (s : State) :
    ((State.raiseNotice a s).state).power = s.power ∧ ((State.raiseNotice a s).state).timebase = s.timebase ∧
    ((State.raiseNotice a s).state).load = s.load ∧ ((State.raiseNotice a s).state).cfg = s.cfg ∧
    ((State.raiseNotice a s).state).line = s.line ∧ ((State.raiseNotice a s).state).handler = s.handler ∧
    ((State.raiseNotice a s).state).share = s.share ∧ ((State.raiseNotice a s).state).lease = s.lease ∧
    ((State.raiseNotice a s).state).demand = s.demand ∧ ((State.raiseNotice a s).state).mode = s.mode ∧
    ((State.raiseNotice a s).state).thermal = s.thermal ∧ ((State.raiseNotice a s).state).program = s.program ∧
    ((State.raiseNotice a s).state).pressure = s.pressure ∧ ((State.raiseNotice a s).state).pour = s.pour ∧
    ((State.raiseNotice a s).state).keg = s.keg ∧ ((State.raiseNotice a s).state).inputs = s.inputs ∧
    ((State.raiseNotice a s).state).staged = s.staged ∧ ((State.raiseNotice a s).state).orders = s.orders ∧
    ((State.raiseNotice a s).state).draws = s.draws ∧ ((State.raiseNotice a s).state).pending = s.pending := by
  unfold State.raiseNotice; repeat' split
  all_goals simp

@[simp] theorem State.setFill_frame (a : List Byte) (s : State) :
    ((State.setFill a s).state).power = s.power ∧ ((State.setFill a s).state).timebase = s.timebase ∧
    ((State.setFill a s).state).load = s.load ∧ ((State.setFill a s).state).cfg = s.cfg ∧
    ((State.setFill a s).state).line = s.line ∧ ((State.setFill a s).state).handler = s.handler ∧
    ((State.setFill a s).state).share = s.share ∧ ((State.setFill a s).state).lease = s.lease ∧
    ((State.setFill a s).state).mode = s.mode ∧ ((State.setFill a s).state).pour = s.pour ∧
    ((State.setFill a s).state).inputs = s.inputs ∧ ((State.setFill a s).state).orders = s.orders ∧
    ((State.setFill a s).state).draws = s.draws ∧ ((State.setFill a s).state).pending = s.pending := by
  unfold State.setFill; repeat' split
  all_goals simp

@[simp] theorem State.setServe_frame (a : List Byte) (s : State) :
    ((State.setServe a s).state).power = s.power ∧ ((State.setServe a s).state).timebase = s.timebase ∧
    ((State.setServe a s).state).load = s.load ∧ ((State.setServe a s).state).cfg = s.cfg ∧
    ((State.setServe a s).state).line = s.line ∧ ((State.setServe a s).state).handler = s.handler ∧
    ((State.setServe a s).state).share = s.share ∧ ((State.setServe a s).state).lease = s.lease ∧
    ((State.setServe a s).state).mode = s.mode ∧ ((State.setServe a s).state).pour = s.pour ∧
    ((State.setServe a s).state).inputs = s.inputs ∧ ((State.setServe a s).state).orders = s.orders ∧
    ((State.setServe a s).state).draws = s.draws ∧ ((State.setServe a s).state).pending = s.pending := by
  unfold State.setServe; repeat' split
  all_goals simp

@[simp] theorem State.loadStep_frame (a : List Byte) (s : State) :
    ((State.loadStep a s).state).power = s.power ∧ ((State.loadStep a s).state).timebase = s.timebase ∧
    ((State.loadStep a s).state).load = s.load ∧ ((State.loadStep a s).state).cfg = s.cfg ∧
    ((State.loadStep a s).state).line = s.line ∧ ((State.loadStep a s).state).handler = s.handler ∧
    ((State.loadStep a s).state).share = s.share ∧ ((State.loadStep a s).state).lease = s.lease ∧
    ((State.loadStep a s).state).mode = s.mode ∧ ((State.loadStep a s).state).pressure = s.pressure ∧
    ((State.loadStep a s).state).pour = s.pour ∧ ((State.loadStep a s).state).keg = s.keg ∧
    ((State.loadStep a s).state).inputs = s.inputs ∧ ((State.loadStep a s).state).notice = s.notice ∧
    ((State.loadStep a s).state).orders = s.orders ∧
    ((State.loadStep a s).state).draws = s.draws ∧ ((State.loadStep a s).state).pending = s.pending := by
  unfold State.loadStep; repeat' split
  all_goals (try dsimp only; split_ifs)
  all_goals simp

@[simp] theorem State.clearProgram_frame (a : List Byte) (s : State) :
    ((State.clearProgram a s).state).power = s.power ∧ ((State.clearProgram a s).state).timebase = s.timebase ∧
    ((State.clearProgram a s).state).load = s.load ∧ ((State.clearProgram a s).state).cfg = s.cfg ∧
    ((State.clearProgram a s).state).line = s.line ∧ ((State.clearProgram a s).state).handler = s.handler ∧
    ((State.clearProgram a s).state).share = s.share ∧ ((State.clearProgram a s).state).lease = s.lease ∧
    ((State.clearProgram a s).state).mode = s.mode ∧ ((State.clearProgram a s).state).pour = s.pour ∧
    ((State.clearProgram a s).state).keg = s.keg ∧ ((State.clearProgram a s).state).inputs = s.inputs ∧
    ((State.clearProgram a s).state).orders = s.orders ∧
    ((State.clearProgram a s).state).draws = s.draws ∧ ((State.clearProgram a s).state).pending = s.pending := by
  unfold State.clearProgram; repeat' split
  all_goals simp

@[simp] theorem State.startProgram_frame (a : List Byte) (s : State) :
    ((State.startProgram a s).state).power = s.power ∧ ((State.startProgram a s).state).timebase = s.timebase ∧
    ((State.startProgram a s).state).load = s.load ∧ ((State.startProgram a s).state).cfg = s.cfg ∧
    ((State.startProgram a s).state).line = s.line ∧ ((State.startProgram a s).state).handler = s.handler ∧
    ((State.startProgram a s).state).share = s.share ∧ ((State.startProgram a s).state).lease = s.lease ∧
    ((State.startProgram a s).state).mode = s.mode ∧ ((State.startProgram a s).state).pour = s.pour ∧
    ((State.startProgram a s).state).inputs = s.inputs ∧ ((State.startProgram a s).state).orders = s.orders ∧
    ((State.startProgram a s).state).draws = s.draws ∧ ((State.startProgram a s).state).pending = s.pending := by
  unfold State.startProgram; repeat' split
  all_goals simp

@[simp] theorem State.pauseProgram_frame (a : List Byte) (s : State) :
    ((State.pauseProgram a s).state).power = s.power ∧ ((State.pauseProgram a s).state).timebase = s.timebase ∧
    ((State.pauseProgram a s).state).load = s.load ∧ ((State.pauseProgram a s).state).cfg = s.cfg ∧
    ((State.pauseProgram a s).state).line = s.line ∧ ((State.pauseProgram a s).state).handler = s.handler ∧
    ((State.pauseProgram a s).state).share = s.share ∧ ((State.pauseProgram a s).state).lease = s.lease ∧
    ((State.pauseProgram a s).state).mode = s.mode ∧ ((State.pauseProgram a s).state).pressure = s.pressure ∧
    ((State.pauseProgram a s).state).pour = s.pour ∧ ((State.pauseProgram a s).state).keg = s.keg ∧
    ((State.pauseProgram a s).state).inputs = s.inputs ∧ ((State.pauseProgram a s).state).notice = s.notice ∧
    ((State.pauseProgram a s).state).orders = s.orders ∧
    ((State.pauseProgram a s).state).draws = s.draws ∧ ((State.pauseProgram a s).state).pending = s.pending := by
  unfold State.pauseProgram; repeat' split
  all_goals simp

@[simp] theorem State.resumeProgram_frame (a : List Byte) (s : State) :
    ((State.resumeProgram a s).state).power = s.power ∧ ((State.resumeProgram a s).state).timebase = s.timebase ∧
    ((State.resumeProgram a s).state).load = s.load ∧ ((State.resumeProgram a s).state).cfg = s.cfg ∧
    ((State.resumeProgram a s).state).line = s.line ∧ ((State.resumeProgram a s).state).handler = s.handler ∧
    ((State.resumeProgram a s).state).share = s.share ∧ ((State.resumeProgram a s).state).lease = s.lease ∧
    ((State.resumeProgram a s).state).mode = s.mode ∧ ((State.resumeProgram a s).state).pressure = s.pressure ∧
    ((State.resumeProgram a s).state).pour = s.pour ∧ ((State.resumeProgram a s).state).keg = s.keg ∧
    ((State.resumeProgram a s).state).inputs = s.inputs ∧ ((State.resumeProgram a s).state).notice = s.notice ∧
    ((State.resumeProgram a s).state).orders = s.orders ∧
    ((State.resumeProgram a s).state).draws = s.draws ∧ ((State.resumeProgram a s).state).pending = s.pending := by
  unfold State.resumeProgram; dsimp only; repeat' split
  all_goals simp

@[simp] theorem State.advanceStep_frame (a : List Byte) (s : State) :
    ((State.advanceStep a s).state).power = s.power ∧ ((State.advanceStep a s).state).timebase = s.timebase ∧
    ((State.advanceStep a s).state).load = s.load ∧ ((State.advanceStep a s).state).cfg = s.cfg ∧
    ((State.advanceStep a s).state).line = s.line ∧ ((State.advanceStep a s).state).handler = s.handler ∧
    ((State.advanceStep a s).state).share = s.share ∧ ((State.advanceStep a s).state).lease = s.lease ∧
    ((State.advanceStep a s).state).mode = s.mode ∧ ((State.advanceStep a s).state).pour = s.pour ∧
    ((State.advanceStep a s).state).inputs = s.inputs ∧ ((State.advanceStep a s).state).orders = s.orders ∧
    ((State.advanceStep a s).state).draws = s.draws ∧ ((State.advanceStep a s).state).pending = s.pending := by
  unfold State.advanceStep; repeat' split
  all_goals simp

@[simp] theorem State.stopPour_frame (a : List Byte) (s : State) :
    ((State.stopPour a s).state).power = s.power ∧ ((State.stopPour a s).state).timebase = s.timebase ∧
    ((State.stopPour a s).state).load = s.load ∧ ((State.stopPour a s).state).cfg = s.cfg ∧
    ((State.stopPour a s).state).line = s.line ∧ ((State.stopPour a s).state).handler = s.handler ∧
    ((State.stopPour a s).state).share = s.share ∧ ((State.stopPour a s).state).lease = s.lease ∧
    ((State.stopPour a s).state).mode = s.mode ∧ ((State.stopPour a s).state).thermal = s.thermal ∧
    ((State.stopPour a s).state).keg = s.keg ∧ ((State.stopPour a s).state).inputs = s.inputs ∧
    ((State.stopPour a s).state).orders = s.orders ∧
    ((State.stopPour a s).state).draws = s.draws ∧ ((State.stopPour a s).state).pending = s.pending := by
  unfold State.stopPour; repeat' split
  all_goals simp

@[simp] theorem State.restartBay_frame (a : List Byte) (s : State) :
    ((State.restartBay a s).state).power = s.power ∧ ((State.restartBay a s).state).timebase = s.timebase ∧
    ((State.restartBay a s).state).load = s.load ∧ ((State.restartBay a s).state).cfg = s.cfg ∧
    ((State.restartBay a s).state).line = s.line ∧ ((State.restartBay a s).state).tx = s.tx ∧
    ((State.restartBay a s).state).handler = s.handler ∧ ((State.restartBay a s).state).share = s.share ∧
    ((State.restartBay a s).state).lease = s.lease ∧ ((State.restartBay a s).state).demand = s.demand ∧
    ((State.restartBay a s).state).mode = s.mode ∧ ((State.restartBay a s).state).thermal = s.thermal ∧
    ((State.restartBay a s).state).program = s.program ∧ ((State.restartBay a s).state).pressure = s.pressure ∧
    ((State.restartBay a s).state).pour = s.pour ∧ ((State.restartBay a s).state).keg = s.keg ∧
    ((State.restartBay a s).state).inputs = s.inputs ∧ ((State.restartBay a s).state).staged = s.staged ∧
    ((State.restartBay a s).state).notice = s.notice ∧
    ((State.restartBay a s).state).draws = s.draws ∧ ((State.restartBay a s).state).pending = s.pending := by
  unfold State.restartBay; repeat' split
  all_goals simp

/-- A POUR-PORTION keeps what the arbiter, a drop and an answer keep. -/
theorem State.pourPortionRow_keeps {P : State → Prop} (s before : State) (e : RxEntry) (harb : ∀ l, P (s.arbitrate l))
    (hdrop : ∀ u : State, P u → P u.dropOrder)
    (hans : ∀ (u : State) (c : Byte) (r : Result) (d : List Byte), P u → P (u.answer e c r d)) :
    P (s.pourPortionRow before e) := by
  unfold State.pourPortionRow
  dsimp only
  split
  · exact hans _ _ _ _ (harb _)
  · exact State.handleOrder_keeps _ _ _ _ (hdrop _ (harb _)) (fun _ => hans _ _ _ _ (harb _)) (hans _ _ _ _ (harb _))

theorem State.handleOrder_pending_frame (s : State) (o : OrderCode) (e : RxEntry) (p : List Byte → State → Reply)
    (h : ∀ a u, (p a u).state.pending = u.pending) :
    (s.handleOrder o e p).pending = s.pending := by
  apply State.handleOrder_keeps (P := fun t => t.pending = s.pending) <;> simp [h]

/-! ### Every command completes -/

theorem whileRunning_pending (s : State) (f : State → State) (h : (f s).pending = s.pending) :
    ∃ t, whileRunning s f = .next t ∧ t.pending = s.pending := by
  by_cases hp : s.power = .running
  · exact ⟨f s, whileRunning_on s f hp, h⟩
  · exact ⟨s, whileRunning_off s f hp, rfl⟩

theorem orderRow_pending (s : State) (o : OrderCode) (p : List Byte → State → Reply)
    (h : ∀ a u, (p a u).state.pending = u.pending) : ∃ t, orderRow o p s = .next t ∧ t.pending = s.pending := by
  apply whileRunning_pending
  apply takeFrame_keeps (P := fun t => t.pending = s.pending)
  · rfl
  · intro e
    rw [State.handleOrder_pending_frame _ _ _ _ h, State.popFrame_pending]

theorem takeFrame_pending (s : State) (ok : FrameClass → Bool) (f : RxEntry → State → State)
    (h : ∀ e u, (f e u).pending = u.pending) : (takeFrame s ok f).pending = s.pending := by
  apply takeFrame_keeps (P := fun t => t.pending = s.pending)
  · rfl
  · intro e; rw [h, State.popFrame_pending]

end Sys2Proof.Machine
end

