-- ==== Sys2Proof/Laws/Keeps.lean ====
section
/-! SUPPORT. How an invariant is carried over a step: a property kept by what a row does, by the tick, and by taking a command
off the queue, is kept by every step. -/

namespace Sys2Proof.Machine

/-- A property kept by a row's effect is kept by the row. -/
theorem whileRunning_keeps {P : State → Prop} {s t : State} {f : State → State} (h : P s) (hf : P (f s))
    (he : whileRunning s f = .next t) : P t := by
  unfold whileRunning at he
  simp only [Host.Outcome.next.injEq] at he
  subst he
  split_ifs <;> assumption

/-- A property kept by popping a frame and by what is done with it is kept by the row that takes the frame. -/
theorem frameRow_keeps {P : State → Prop} {s t : State} {ok : FrameClass → Bool} {f : RxEntry → State → State} (h : P s)
    (hpop : ∀ e, P (s.popFrame e)) (hf : ∀ e u, P u → P (f e u))
    (he : whileRunning s (fun s => takeFrame s ok f) = .next t) : P t :=
  whileRunning_keeps h (takeFrame_keeps s _ _ h (fun e => hf _ _ (hpop e))) he

/-- A property kept by popping a frame, a drop, an answer and the performance is kept by the order's row. -/
theorem orderRow_keeps {P : State → Prop} {s t : State} {o : OrderCode} {p : List Byte → State → Reply} (h : P s)
    (hpop : ∀ e, P (s.popFrame e)) (hdrop : ∀ u, P u → P u.dropOrder)
    (hans : ∀ u e c r d, P u → P (State.answer u e c r d)) (hp : ∀ a u, P u → P (p a u).state)
    (he : orderRow o p s = .next t) : P t :=
  whileRunning_keeps h
    (takeFrame_keeps s _ _ h fun e =>
      State.handleOrder_keeps _ _ _ _ (hdrop _ (hpop e)) (fun _ => hans _ _ _ _ _ (hpop e))
        (hans _ _ _ _ _ (hp _ _ (hpop e)))) he

/-- An invariant of every command, of the tick, and blind to the queue, is one every step keeps. -/
theorem step_keeps {P : State → Prop} (hqueue : ∀ s l, P s → P { s with pending := l }) (htick : ∀ s, P s → P s.tick)
    (hexec : ∀ c s t, P s → exec c s = .next t → P t) (s t : State) (h : P s) (he : step s = .next t) : P t := by
  unfold step at he
  split at he
  · simp only [Host.Outcome.next.injEq] at he
    exact he ▸ htick _ h
  · exact hexec _ _ _ (hqueue _ _ h) he

/-- The keg record's law, its arithmetic done. -/
theorem kegLaw_iff (k : Keg) : kegLaw k = true ↔ k.dispensed ≤ k.fill ∧ k.fill ≤ 20000 ∧ k.unaccounted ≤ 65535 := by
  simp only [kegLaw, Keg.remaining, Bool.and_eq_true, decide_eq_true_eq]
  constructor
  · rintro ⟨⟨⟨h1, h2⟩, h3⟩, _⟩
    exact ⟨h1, h2, h3⟩
  · rintro ⟨h1, h2, h3⟩
    exact ⟨⟨⟨h1, h2⟩, h3⟩, decide_eq_true (Nat.sub_add_cancel h1)⟩

/-- The tick writes the timebase and the inputs alone. -/
theorem State.tick_eq (s : State) :
    s.tick = if s.power = .running then
      { s with timebase := { s.timebase with ms := s.timebase.ms + 1 }, inputs := s.inputs.map InputState.tick } else s := rfl

end Sys2Proof.Machine
end

