-- ==== Sys2Proof/Laws/Notices.lean ====
section
/-! SUPPORT. The flags through a raise and through an evaluation; the safety state of an evaluation. -/

namespace Sys2Proof.Machine

/-! ### Raising (10 R176) -/

theorem Notice.raised_flags (n : Notice) (m : Word) (i : Nat) :
    (n.raised m).flags.getLsbD i = (n.flags.getLsbD i || m.getLsbD i) := by
  simp [Notice.raised]

theorem Notice.raised_seen (n : Notice) (m : Word) (i : Nat) :
    (n.raised m).seen.getLsbD i = (n.seen.getLsbD i && !m.getLsbD i) := by
  simp only [Notice.raised, BitVec.getLsbD_and, BitVec.getLsbD_not]
  by_cases hi : i < 16
  · simp [hi]
  · simp [hi, BitVec.getLsbD_of_ge n.seen i (by omega)]

theorem Notice.raised_enabled (n : Notice) (m : Word) : (n.raised m).enabled = n.enabled := rfl

theorem Notice.raised_zero (n : Notice) : n.raised 0#16 = n := by
  cases n
  have h : ~~~(0#16) = BitVec.allOnes 16 := by decide
  simp only [Notice.raised, h, BitVec.or_zero, BitVec.and_allOnes]

theorem State.raise_zero (s : State) : s.raise 0#16 = s := by
  have h : s.notice.asks 0#16 = false := by simp [Notice.asks]
  simp only [State.raise, Notice.raised_zero, h, Bool.false_and, Bool.false_eq_true, if_false]

/-- A set and unseen flag stays so through a raise. -/
theorem Notice.raised_unseen (n : Notice) (m : Word) (i : Nat) (h1 : n.flags.getLsbD i = true)
    (h2 : n.seen.getLsbD i = false) : (n.raised m).flags.getLsbD i = true ∧ (n.raised m).seen.getLsbD i = false := by
  rw [Notice.raised_flags, Notice.raised_seen, h1, h2]
  simp

/-! ### Evaluations -/

/-- What an evaluation of the pressure controller does to the notice unit (08 R141). -/
theorem State.pressureEvalFrom_notice (b : Bool) (s : State) :
    (s.pressureEvalFrom b).notice =
      s.notice.raised (flagIf (s.pressure.judged s.cfg.safetyLimit && !s.pressure.tripped) .overPressure) := by
  simp [State.pressureEvalFrom]

/-- A set flag stays set through an evaluation of the pressure controller. -/
theorem State.pressureEval_flags (s : State) (i : Nat) (h : s.notice.flags.getLsbD i = true) :
    s.pressureEval.notice.flags.getLsbD i = true := by
  simp [State.pressureEval, State.pressureEvalFrom_notice, Notice.raised_flags, h]

/-- An evaluation of the pressure controller leaves the program but for the current hour's count. -/
theorem State.pressureEval_program (s : State) :
    s.pressureEval.program = { s.program with currentHour := s.pressureEval.program.currentHour } := by
  simp [State.pressureEval, State.pressureEvalFrom, Program.opening]

/-- The safety state an evaluation leaves (08 R141). -/
theorem State.pressureEvalFrom_tripped (b : Bool) (s : State) :
    (s.pressureEvalFrom b).pressure.tripped = s.pressure.judged s.cfg.safetyLimit := by
  simp [State.pressureEvalFrom]

/-- An evaluation of the thermal controller leaves the thermal law (06 R111, R112). -/
theorem State.thermalEval_thermal (s : State) :
    s.thermalEval.thermal = s.thermal.evaluate s.mode.mode s.keg s.program s.cfg := by
  simp [State.thermalEval]

end Sys2Proof.Machine
end

