-- ==== Sys2Proof/Laws/Orders.lean ====
section
/-! SUPPORT. The frame in hand, judged; an order in hand, taken by its row; settling with no input; two characters as a
number. -/

namespace Sys2Proof.Machine

/-! ### Codes -/

theorem kindOf_code (k : Kind) : kindOf k.code = some k := by cases k <;> decide

theorem orderOf_code (o : OrderCode) : orderOf o.code = some o := by cases o <;> decide

theorem resourceOf_code (x : Resource) : resourceOf (resourceCode x) = some x := by cases x <;> decide

theorem classOf_rank (c : Cls) : classOf (nat8 c.rank) = some c := by cases c <;> decide

theorem nat8_toNat (n : Nat) (h : n < 256) : (nat8 n).toNat = n := by simp [nat8, Nat.mod_eq_of_lt h]

/-- Two characters, most significant first, as a number. -/
theorem natOf16_eq (a b : Byte) : natOf16 a b = a.toNat * 256 + b.toNat := by
  have ha := a.isLt
  have hb := b.isLt
  have hor : (BitVec.setWidth 16 a <<< 8 ||| BitVec.setWidth 16 b) = BitVec.setWidth 16 a <<< 8 + BitVec.setWidth 16 b := by
    rw [BitVec.add_eq_or_of_and_eq_zero]
    ext i hi
    simp only [BitVec.getElem_and, BitVec.getElem_shiftLeft, BitVec.getElem_setWidth, BitVec.getElem_zero]
    have := b.getLsbD_of_ge i
    by_cases h8 : 8 ≤ i
    · simp [this h8]
    · simp_all
  unfold natOf16 join16
  rw [hor]
  simp [BitVec.toNat_add, BitVec.toNat_shiftLeft, Nat.shiftLeft_eq]
  omega

theorem join16_eq (a b : Byte) : join16 a b = BitVec.ofNat 16 (a.toNat * 256 + b.toNat) := by
  apply BitVec.eq_of_toNat_eq
  have h := natOf16_eq a b
  have ha := a.isLt
  have hb := b.isLt
  unfold natOf16 at h
  rw [h]
  simp
  omega

/-! ### Judging the frame in hand (02 R25, R26) -/

/-- A frame that passes every test of R25 is dispatched by its kind. -/
theorem classify_of (own : Nat) (e : RxEntry) (k : Kind) (hk : e.kind = k.code) (hu : e.urgency = k.urgency)
    (h1 : 1 ≤ e.sender) (h2 : e.sender ≤ 12) (hs : e.sender ≠ own ∨ e.own = true) (hl : k.lengthOk e.body = true)
    (ha : k.addressOk e.body = true) : classify own e = dispatchClass own k e.body := by
  unfold classify
  rw [hk, kindOf_code]
  have : ¬ (e.sender = 0 ∨ 13 ≤ e.sender ∨ (e.sender = own ∧ e.own = false)) := by
    rcases hs with h | h
    · simp [h]; omega
    · simp [h]; omega
  simp [hu, this, hl, ha]

/-- An ORDER for this station is classified by its code. -/
theorem classify_order (own : Nat) (e : RxEntry) (code : Byte) (args : List Byte) (hk : e.kind = 0x31)
    (hu : e.urgency = 2) (h1 : 1 ≤ e.sender) (h2 : e.sender ≤ 12) (hs : e.sender ≠ own ∨ e.own = true)
    (ho : 1 ≤ own) (ho' : own ≤ 12) (hl : args.length ≤ 16) (hb : e.body = nat8 own :: code :: args) :
    classify own e = .order (orderOf code) := by
  have hn := nat8_toNat own (by omega)
  rw [classify_of own e .order hk hu h1 h2 hs (by simp [Kind.lengthOk, hb]; omega)
    (by simp [Kind.addressOk, hb, hn]; omega)]
  simp [dispatchClass, hb, hn]

/-! ### Taking an order (11 R183) -/

theorem orderArgs_eq (e : RxEntry) (own : Nat) (code : Byte) (args : List Byte) (hb : e.body = nat8 own :: code :: args) :
    orderArgs e = args := by simp [orderArgs, hb]

theorem orderCode_eq (e : RxEntry) (own : Nat) (code : Byte) (args : List Byte) (hb : e.body = nat8 own :: code :: args) :
    orderCode e = code := by simp [orderCode, hb]

/-- The row of an order takes the order that is in hand. -/
theorem orderRow_inHand (s : State) (o : OrderCode) (p : List Byte → State → Reply) (e : RxEntry)
    (hp : s.power = .running) (hq : s.handler.inHand = some e) (hc : classify s.line.address e = .order (some o)) :
    orderRow o p s = .next ((s.popFrame e).handleOrder o e p) := by
  unfold orderRow
  rw [whileRunning_on _ _ hp, takeFrame_some s _ _ e hq (by simp [hc])]

/-- Step 1 of R183: no answer place is free. -/
theorem State.handleOrder_dropped (s : State) (o : OrderCode) (e : RxEntry) (p : List Byte → State → Reply)
    (h : 2 ≤ s.orders.pendingAnswers) : s.handleOrder o e p = s.dropOrder := by
  simp [State.handleOrder, h]

/-- The order is performed and answered. -/
theorem State.handleOrder_performed (s : State) (o : OrderCode) (e : RxEntry) (p : List Byte → State → Reply)
    (h : s.orders.pendingAnswers < 2) (hm : s.mode.mode ≠ .starting ∨ o = .readStatus)
    (hl : (orderArgs e).length = o.argCount) :
    s.handleOrder o e p =
      (p (orderArgs e) s).state.answer e o.code (p (orderArgs e) s).result (p (orderArgs e) s).data := by
  have hn : ¬ (s.mode.mode = .starting ∧ o ≠ .readStatus) := by
    rintro ⟨h1, h2⟩
    rcases hm with h3 | h3
    · exact h3 h1
    · exact h2 h3
  simp [State.handleOrder, Nat.not_le.mpr h, hn, hl]

/-! ### Settling with no input -/

theorem takenOf_self (s : State) (x : Input) : takenOf s s x = .nothing := by
  unfold takenOf
  split_ifs
  · rfl
  · cases s.asserted x <;> rfl

theorem settleAll_nil (s : State) : s.settleAll [] = s := rfl

theorem State.handOn_self (s : State) : State.handOn s s = s := by
  simp [State.handOn, takenOf_self, State.kegPresentTaken, State.coupledTaken, State.leakTaken, State.dripTaken,
    State.handleTaken]

theorem inputRequests_self (s : State) : inputRequests s s = [] := by simp [inputRequests, takenOf_self]

end Sys2Proof.Machine
end

