-- ==== Sys2Proof/Laws/Queue.lean ====
section
/-! SUPPORT. What the owners' operations do to the frames that hold a place, and that they keep the order of urgency (01 R17 to
R21). -/

namespace Sys2Proof.Machine

/-! ### The frames that hold a place -/

theorem insertQueued_perm (e : TxEntry) (l : List TxEntry) : (insertQueued e l).Perm (e :: l) := by
  induction l with
  | nil => exact .refl _
  | cons q qs ih =>
    unfold insertQueued
    split_ifs
    · exact (ih.cons q).trans (List.Perm.swap e q qs)
    · exact .refl _

theorem insertReturned_perm (e : TxEntry) (l : List TxEntry) : (insertReturned e l).Perm (e :: l) := by
  induction l with
  | nil => exact .refl _
  | cons q qs ih =>
    unfold insertReturned
    split_ifs
    · exact (ih.cons q).trans (List.Perm.swap e q qs)
    · exact .refl _

theorem insertQueued_eq (e : TxEntry) (l : List TxEntry) :
    insertQueued e l = l.takeWhile (fun q => decide (q.frame.urgency ≤ e.frame.urgency)) ++
      e :: l.dropWhile (fun q => decide (q.frame.urgency ≤ e.frame.urgency)) := by
  induction l with
  | nil => rfl
  | cons q qs ih => unfold insertQueued; split_ifs with h <;> simp [h, ih]

theorem insertReturned_eq (e : TxEntry) (l : List TxEntry) :
    insertReturned e l = l.takeWhile (fun q => decide (q.frame.urgency < e.frame.urgency)) ++
      e :: l.dropWhile (fun q => decide (q.frame.urgency < e.frame.urgency)) := by
  induction l with
  | nil => rfl
  | cons q qs ih => unfold insertReturned; split_ifs with h <;> simp [h, ih]

theorem Tx.held_enqueue (tx : Tx) (f : TxFrame) : (tx.enqueue f).held.Perm (f :: tx.held) := by
  unfold Tx.held Tx.enqueue
  exact (((insertQueued_perm ⟨f, tx.stamp⟩ tx.queue).map TxEntry.frame).append_right _)

theorem Tx.held_withdraw (tx : Tx) (p : TxFrame → Bool) : (tx.withdraw p).held = tx.held.filter (fun f => !p f) := by
  unfold Tx.held Tx.flying Tx.withdraw
  rw [List.filter_append]
  congr 1
  · simp [List.filter_map, Function.comp_def]
  · rcases tx.inFlight with _ | f
    · rfl
    · cases hw : f.withdrawn <;> cases hp : p f.entry.frame <;> simp [hw, hp]

theorem Tx.held_returned (tx : Tx) : tx.returned.held.Perm tx.held := by
  unfold Tx.held Tx.flying Tx.returned
  rcases hf : tx.inFlight with _ | f
  · simp [hf]
  · cases hw : f.withdrawn
    · simpa [hw] using ((insertReturned_perm f.entry tx.queue).map TxEntry.frame).trans
        (List.perm_append_singleton f.entry.frame (tx.queue.map TxEntry.frame)).symm
    · simp [hw]

theorem Tx.held_completed (tx : Tx) : tx.completed.held = tx.queue.map TxEntry.frame := by
  simp [Tx.held, Tx.flying, Tx.completed]

theorem Tx.held_launch (tx : Tx) (chars : List Byte) (h : tx.inFlight = none) : (tx.launch chars).held.Perm tx.held := by
  unfold Tx.held Tx.flying Tx.launch
  rcases hq : tx.queue with _ | ⟨e, rest⟩
  · simp [hq, h]
  · simp [h]

@[simp] theorem Tx.holds_enqueue (tx : Tx) (f : TxFrame) (p : TxFrame → Bool) :
    (tx.enqueue f).holds p = (p f || tx.holds p) := by
  unfold Tx.holds
  rw [(tx.held_enqueue f).any_eq, List.any_cons]

@[simp] theorem Tx.holds_withdraw (tx : Tx) (p q : TxFrame → Bool) :
    (tx.withdraw p).holds q = tx.held.any (fun f => q f && !p f) := by
  unfold Tx.holds
  rw [Tx.held_withdraw, List.any_filter]
  congr 1; funext f; exact Bool.and_comm _ _

/-- What is withdrawn holds no place. -/
theorem Tx.holds_withdraw_self (tx : Tx) (p : TxFrame → Bool) : (tx.withdraw p).holds p = false := by
  simp

/-- A withdrawal takes nothing that holds no place already. -/
theorem Tx.holds_withdraw_false (tx : Tx) (p q : TxFrame → Bool) (h : tx.holds q = false) : (tx.withdraw p).holds q = false := by
  simp only [Tx.holds, List.any_eq_false] at h
  simp only [Tx.holds_withdraw, List.any_eq_false]
  intro f hf
  simp [h f hf]

theorem Tx.queues_holds (tx : Tx) (p : TxFrame → Bool) (h : tx.queues p = true) : tx.holds p = true := by
  unfold Tx.holds Tx.held
  rw [List.any_append, show (tx.queue.map TxEntry.frame).any p = true from h, Bool.true_or]

/-- A NOTICE asked for holds its place. -/
theorem Tx.holds_askNotice (tx : Tx) : tx.askNotice.holds (· == .notice) = true := by
  unfold Tx.askNotice
  split_ifs with h1 h2
  · exact Tx.queues_holds _ _ h1
  · simp [Tx.replace]
  · simp

/-- A YIELD-ALL asked for holds the share sort. -/
theorem Tx.holds_askYieldAll (tx : Tx) : tx.askYieldAll.holds (· == .yieldAll) = true := by
  unfold Tx.askYieldAll
  split_ifs with h
  · exact Tx.queues_holds _ _ h
  · simp [Tx.putYieldAll, Tx.replace]

/-- A SYNC-ASK asked for holds its place. -/
theorem Tx.holds_askSync (tx : Tx) : tx.askSync.holds (· == .syncAsk) = true := by
  unfold Tx.askSync Tx.request
  split_ifs with h
  · exact h
  · simp

/-! ### The order of urgency (01 R18) -/

/-- The queued entries stand in order of urgency. -/
def TxOrdered (l : List TxEntry) : Prop := (l.map (fun e => e.frame.urgency)).Pairwise (· ≤ ·)

theorem orderLaw_iff (tx : Tx) : orderLaw tx = true ↔ TxOrdered tx.queue := by
  simp [orderLaw, TxOrdered]

theorem insertQueued_ordered (e : TxEntry) (l : List TxEntry) (h : TxOrdered l) : TxOrdered (insertQueued e l) := by
  induction l with
  | nil => simp [insertQueued, TxOrdered]
  | cons q qs ih =>
    simp only [TxOrdered, List.map_cons, List.pairwise_cons] at h
    unfold insertQueued
    split_ifs with hq
    · simp only [TxOrdered, List.map_cons, List.pairwise_cons]
      refine ⟨?_, ih h.2⟩
      intro u hu
      have := ((insertQueued_perm e qs).map (fun e => e.frame.urgency)).mem_iff.mp hu
      simp only [List.map_cons, List.mem_cons] at this
      rcases this with rfl | hu
      · exact hq
      · exact h.1 u hu
    · simp only [TxOrdered, List.map_cons, List.pairwise_cons]
      refine ⟨?_, h⟩
      intro u hu
      simp only [List.mem_cons] at hu
      rcases hu with rfl | hu
      · omega
      · have := h.1 u hu; omega

theorem insertReturned_ordered (e : TxEntry) (l : List TxEntry) (h : TxOrdered l) : TxOrdered (insertReturned e l) := by
  induction l with
  | nil => simp [insertReturned, TxOrdered]
  | cons q qs ih =>
    simp only [TxOrdered, List.map_cons, List.pairwise_cons] at h
    unfold insertReturned
    split_ifs with hq
    · simp only [TxOrdered, List.map_cons, List.pairwise_cons]
      refine ⟨?_, ih h.2⟩
      intro u hu
      have := ((insertReturned_perm e qs).map (fun e => e.frame.urgency)).mem_iff.mp hu
      simp only [List.map_cons, List.mem_cons] at this
      rcases this with rfl | hu
      · omega
      · exact h.1 u hu
    · simp only [TxOrdered, List.map_cons, List.pairwise_cons]
      refine ⟨?_, h⟩
      intro u hu
      simp only [List.mem_cons] at hu
      rcases hu with rfl | hu
      · omega
      · have := h.1 u hu; omega

theorem filter_ordered (p : TxEntry → Bool) (l : List TxEntry) (h : TxOrdered l) : TxOrdered (l.filter p) := by
  unfold TxOrdered at *
  exact h.sublist (List.Sublist.map _ List.filter_sublist)

theorem Tx.enqueue_ordered (tx : Tx) (f : TxFrame) (h : TxOrdered tx.queue) : TxOrdered (tx.enqueue f).queue :=
  insertQueued_ordered _ _ h

theorem Tx.withdraw_ordered (tx : Tx) (p : TxFrame → Bool) (h : TxOrdered tx.queue) : TxOrdered (tx.withdraw p).queue :=
  filter_ordered _ _ h

theorem Tx.replace_ordered (tx : Tx) (p : TxFrame → Bool) (f : TxFrame) (h : TxOrdered tx.queue) :
    TxOrdered (tx.replace p f).queue :=
  Tx.enqueue_ordered _ _ (Tx.withdraw_ordered _ _ h)

theorem Tx.request_ordered (tx : Tx) (p : TxFrame → Bool) (f : TxFrame) (h : TxOrdered tx.queue) :
    TxOrdered (tx.request p f).queue := by
  unfold Tx.request
  split_ifs
  · exact h
  · exact Tx.enqueue_ordered _ _ h

theorem Tx.askNotice_ordered (tx : Tx) (h : TxOrdered tx.queue) : TxOrdered tx.askNotice.queue := by
  unfold Tx.askNotice
  split_ifs
  · exact h
  · exact Tx.replace_ordered _ _ _ h
  · exact Tx.enqueue_ordered _ _ h

theorem Tx.update_ordered (tx : Tx) (p : TxFrame → Bool) (f : TxFrame) (h : TxOrdered tx.queue) :
    TxOrdered (tx.update p f).queue := by
  unfold Tx.update
  split_ifs
  · exact h
  · exact Tx.replace_ordered _ _ _ h
  · exact h

theorem Tx.returned_ordered (tx : Tx) (h : TxOrdered tx.queue) : TxOrdered tx.returned.queue := by
  unfold Tx.returned
  split
  · dsimp only
    split_ifs
    · exact h
    · exact insertReturned_ordered _ _ h
  · exact h

theorem Tx.launch_ordered (tx : Tx) (chars : List Byte) (h : TxOrdered tx.queue) : TxOrdered (tx.launch chars).queue := by
  unfold Tx.launch
  rcases hq : tx.queue with _ | ⟨e, rest⟩
  · simpa [hq] using h
  · rw [hq] at h
    simp only [TxOrdered, List.map_cons, List.pairwise_cons] at h
    exact h.2

end Sys2Proof.Machine
end

