-- ==== Sys2Proof/Laws/Section.lean ====
section
/-! SUPPORT. One section of the share table: what placing, promoting and taking victims do to the lists; what a demand record's
operations leave of the need and the standing; lists of ages and the roster. -/

namespace Sys2Proof.Machine

/-! ### Placing a waiter (03 R36) -/

theorem insertByClaim_eq (e : Entry) (l : List Entry) :
    insertByClaim e l = l.takeWhile (fun w => decide (w.cls.rank ≤ e.cls.rank)) ++
      e :: l.dropWhile (fun w => decide (w.cls.rank ≤ e.cls.rank)) := by
  induction l with
  | nil => rfl
  | cons w ws ih =>
    by_cases h : w.cls.rank ≤ e.cls.rank
    · simp [insertByClaim, h, ih]
    · simp [insertByClaim, h]

theorem insertByBump_eq (e : Entry) (l : List Entry) :
    insertByBump e l = l.takeWhile (fun w => decide (w.cls.rank < e.cls.rank)) ++
      e :: l.dropWhile (fun w => decide (w.cls.rank < e.cls.rank)) := by
  induction l with
  | nil => rfl
  | cons w ws ih =>
    by_cases h : w.cls.rank < e.cls.rank
    · simp [insertByBump, h, ih]
    · simp [insertByBump, h]

theorem insertByClaim_perm (e : Entry) (l : List Entry) : (insertByClaim e l).Perm (e :: l) := by
  rw [insertByClaim_eq]
  exact List.perm_middle.trans (by rw [List.takeWhile_append_dropWhile])

theorem insertByBump_perm (e : Entry) (l : List Entry) : (insertByBump e l).Perm (e :: l) := by
  rw [insertByBump_eq]
  exact List.perm_middle.trans (by rw [List.takeWhile_append_dropWhile])

theorem placeVictims_perm (victims waits : List Entry) : (placeVictims victims waits).Perm (victims ++ waits) := by
  induction victims generalizing waits with
  | nil => exact List.Perm.refl _
  | cons v vs ih =>
    have h1 : (placeVictims vs (insertByBump v waits)).Perm (vs ++ insertByBump v waits) := ih _
    have h2 : (vs ++ insertByBump v waits).Perm (vs ++ (v :: waits)) := (insertByBump_perm v waits).append_left vs
    exact (h1.trans h2).trans List.perm_middle

theorem rankOrdered_iff (l : List Entry) : rankOrdered l = true ↔ (l.map (fun e => e.cls.rank)).Pairwise (· ≤ ·) := by
  simp [rankOrdered]

/-! ### Amounts -/

theorem granted_append (a b : List Entry) : granted (a ++ b) = granted a + granted b := by simp [granted]

theorem granted_cons (e : Entry) (l : List Entry) : granted (e :: l) = e.amount + granted l := by simp [granted]

theorem granted_perm {a b : List Entry} (h : a.Perm b) : granted a = granted b := (h.map Entry.amount).sum_eq

/-! ### Victims (03 R44) -/

/-- No victim is taken once the amount is available. -/
theorem takeVictims_enough (amount available : Nat) (l : List Entry) (h : amount ≤ available) :
    takeVictims amount available l = some [] := by
  cases l <;> simp [takeVictims, h]

/-- The victims are a first part of the candidates. -/
theorem takeVictims_prefix (amount available : Nat) (l victims : List Entry)
    (h : takeVictims amount available l = some victims) : victims = l.take victims.length := by
  induction l generalizing available victims with
  | nil =>
    unfold takeVictims at h
    split_ifs at h
    simp_all
  | cons e es ih =>
    unfold takeVictims at h
    split_ifs at h with hle
    · simp_all
    · simp only [Option.map_eq_some_iff] at h
      obtain ⟨vs, hv, rfl⟩ := h
      simp [← ih _ _ hv]

/-- Together with what was available the victims free the amount. -/
theorem takeVictims_frees (amount available : Nat) (l victims : List Entry)
    (h : takeVictims amount available l = some victims) : amount ≤ available + granted victims := by
  induction l generalizing available victims with
  | nil =>
    unfold takeVictims at h
    split_ifs at h
    omega
  | cons e es ih =>
    unfold takeVictims at h
    split_ifs at h with hle
    · omega
    · simp only [Option.map_eq_some_iff] at h
      obtain ⟨vs, hv, rfl⟩ := h
      have := ih _ _ hv
      rw [granted_cons]
      omega

/-- None are found exactly where all candidates together do not free the amount. -/
theorem takeVictims_none (amount available : Nat) (l : List Entry) :
    takeVictims amount available l = none ↔ available + granted l < amount := by
  induction l generalizing available with
  | nil =>
    unfold takeVictims
    split_ifs
    · simp [granted]; omega
    · simp [granted]; omega
  | cons e es ih =>
    unfold takeVictims
    rw [granted_cons]
    split_ifs with hle
    · simp; omega
    · simp only [Option.map_eq_none_iff, ih]
      omega

/-! ### A demand record's standing and need (04 R57 to R66) -/

theorem DemandTx.ask_standing (d : DemandTx) (x : Resource) (k : PendKind) :
    (d.ask x k).rcd.standing = d.rcd.standing ∧ (d.ask x k).rcd.need = d.rcd.need := ⟨rfl, rfl⟩

theorem DemandTx.drop_standing (d : DemandTx) (x : Resource) :
    (d.drop x).rcd.standing = d.rcd.standing ∧ (d.drop x).rcd.need = d.rcd.need := ⟨rfl, rfl⟩

theorem DemandTx.refresh_rcd (d : DemandTx) (x : Resource) : (d.refresh x).rcd = d.rcd := by
  unfold DemandTx.refresh
  split <;> rfl

theorem DemandRec.settle_standing (a : Bool) (r : DemandRec) :
    (r.settle a).standing = r.standing ∧ (r.settle a).need = r.need ∧ (r.settle a).pending = r.pending := by
  unfold DemandRec.settle
  split_ifs <;> exact ⟨rfl, rfl, rfl⟩

theorem DemandTx.reconcile_standing (d : DemandTx) (a : Bool) (x : Resource) :
    (d.reconcile a x).rcd.standing = d.rcd.standing ∧ (d.reconcile a x).rcd.need = d.rcd.need := by
  unfold DemandTx.reconcile
  split_ifs
  · split <;> exact ⟨rfl, rfl⟩
  · exact ⟨rfl, rfl⟩

/-- A published need becomes the need of the record, and its standing stays. -/
theorem DemandTx.publish_need (d : DemandTx) (a : Bool) (x : Resource) (n : Option Need) :
    (d.publish a x n).rcd.need = n ∧ (d.publish a x n).rcd.standing = d.rcd.standing := by
  unfold DemandTx.publish
  simp only [(DemandRec.settle_standing _ _).1, (DemandRec.settle_standing _ _).2.1]
  split_ifs with h1 h2
  · exact ⟨h1, rfl⟩
  · exact ⟨rfl, rfl⟩
  · split
    · unfold DemandTx.needAppears
      dsimp only
      split
      · exact ⟨rfl, rfl⟩
      · split_ifs <;> exact ⟨rfl, rfl⟩
      · exact ⟨rfl, rfl⟩
    · unfold DemandTx.needDisappears
      dsimp only
      repeat' split
      all_goals exact ⟨rfl, rfl⟩
    · unfold DemandTx.needChanges
      dsimp only
      repeat' split
      all_goals first
        | exact ⟨rfl, rfl⟩
        | (rw [DemandTx.refresh_rcd]; exact ⟨rfl, rfl⟩)
    · exact ⟨by simp_all, rfl⟩

/-- A need that changes its amount or class clears the resend mark, whatever the demand state (04 R65). -/
theorem DemandTx.needChanges_resend (d : DemandTx) (x : Resource) (n : Need) : (d.needChanges x n).rcd.resend = false := by
  unfold DemandTx.needChanges
  dsimp only
  repeat' split
  all_goals first
    | rfl
    | (rw [DemandTx.refresh_rcd])

/-- Outside ACTIVE a published need changes the need alone, and no frame. -/
theorem DemandTx.publish_inactive (d : DemandTx) (x : Resource) (n : Option Need) :
    (d.publish false x n).tx = d.tx ∧ (d.publish false x n).rcd.pending = d.rcd.pending := by
  unfold DemandTx.publish
  simp only [(DemandRec.settle_standing _ _).2.2]
  split_ifs <;> exact ⟨rfl, rfl⟩

end Sys2Proof.Machine
end

