-- ==== Sys2Proof/WellFormed.lean ====
section
/-! DEFINITION. What the world can supply as a command's operands. exec gives every command a meaning, well formed or not; a
run on commands that are not well formed says nothing of the part. -/

namespace Sys2Proof

/-- A reading the part can report in a field of two characters (06 R100, 11 R185). -/
def Reading.wf (r : Int) : Bool := decide (-32768 ≤ r ∧ r ≤ 32767)

/-- The stop bit's majority value is low: a framing error (01 R2). -/
def RxChar.stopLow (ch : RxChar) : Bool :=
  !((ch.stop.a && ch.stop.b) || (ch.stop.a && ch.stop.c) || (ch.stop.b && ch.stop.c))

/-- The start bit's majority value is high: a false start, which begins no character (01 R5, R6). -/
def RxChar.startHigh (ch : RxChar) : Bool :=
  (ch.start.a && ch.start.b) || (ch.start.a && ch.start.c) || (ch.start.b && ch.start.c)

/-- A character has eight data bits and a start bit read low (01 R1, R6). -/
def RxChar.wf (ch : RxChar) : Bool := ch.data.length == 8 && !ch.startHigh

/-- Some input settles, and none is named twice. -/
def Inputs.wf (inputs : List Input) : Bool := decide inputs.Nodup

/-- The operands of a command are ones the world can supply. -/
def Instr.wf : Instr → Bool
  | .configLoadEnd (.record bytes) => bytes.length == 48
  | .secondEvent probe pressure => Reading.wf probe && Reading.wf pressure
  | .inputSettled inputs => !inputs.isEmpty && Inputs.wf inputs
  | .frameEnd _ chars => chars.length ≤ 44 && chars.all (fun ch => ch.wf && !ch.stopLow)
  | .frameBroken .breakInside _ chars => chars.length ≤ 44 && chars.all (fun ch => ch.wf && !ch.stopLow)
  | .frameBroken .framing _ chars =>
    chars.length ≤ 44 && chars.all RxChar.wf && chars.dropLast.all (fun ch => !ch.stopLow) &&
      (chars.getLast?.map RxChar.stopLow == some true)
  | .frameBroken .tooLong _ chars => chars.length == 44 && chars.all (fun ch => ch.wf && !ch.stopLow)
  | .lostArbitration bit => decide (14 ≤ bit ∧ bit < 26)
  | .sendFault bit => decide (bit < 456)
  | .rosterEntryRemoved address => decide (1 ≤ address ∧ address ≤ 12)
  | .pourPortion settled => Inputs.wf settled
  | .configLoadEnd .noResponse | .coldStart _ | .dipStart _ | .supplyFall | .orderedStart _ | .configLoad
  | .minuteEvent | .hourEvent | .pinChange _ _ | .meterPulse | .lineIdle | .breakSeen | .stub | .slotBegin _
  | .quietWindow | .frameComplete | .frameRejected | .frameNoBlock | .claim | .renew | .yield | .yieldAll | .expire
  | .syncTable | .syncAsk | .announce | .answerWaitExpiry | .restEnd | .announceTimer | .renewPoint _ | .lapse _
  | .expiryPoint _ | .starveLimit _ | .driftLimit | .emptyEnd | .foamEnd | .settlingEnd | .readStatus | .readKeg
  | .readStep | .readPourLog | .readNotices | .clearNotices | .setNoticeEnable | .raiseNotice | .setFill | .setServe
  | .loadStep | .clearProgram | .startProgram | .pauseProgram | .resumeProgram | .advanceStep | .stopPour
  | .restartBay | .unknownOrder => true

end Sys2Proof
end

