-- ==== Sys2Proof/Tests/Slice0.lean ====
section
/-! SUPPORT. Tests: ill-formed commands the check refuses, the checks of 02 section 2.2, the worked examples of the spec, and for
each statement a state and operands that meet its hypotheses, clause by clause, with what the row then gives. -/

set_option Elab.async false

namespace Sys2Proof.Tests

open Sys2Proof.Machine

/-! ### Helpers -/

/-- The state after one command. -/
def after (i : Instr) (s : State) : State :=
  match exec i s with
  | .next t => t
  | .fault _ | .refused _ => s

/-- Bay 2 once its load has ended with the keg in the bay and coupled, ACTIVE with a table just founded. -/
def bay2 : State :=
  let s := State.started .cold 2 none .initial [] .initial .initial .high 0 []
  let down : InputState := ⟨false, some false, 0⟩
  let up : InputState := ⟨true, some true, 0⟩
  { s with
    load := .ended, share := Share.founded,
    mode := { s.mode with mode := .active, configDigest := configDigestOf .defaults },
    inputs := ⟨down, down, up, up, up, up⟩ }

/-- Bay 2 with finished beer at 3.5 degrees and 100 kPa. -/
def serving : State :=
  { bay2 with
    keg := { bay2.keg with fill := 19000, phase := .serving }
    thermal := { bay2.thermal with probe := .good, sample := some 35 }
    pressure := { bay2.pressure with sensor := .good, sample := some 100 } }

/-- Bay 2 with a pour under way. -/
def pouring (o : Outlet) (k : PourKind) (portion : Option Nat) (volume : Nat) : State :=
  { serving with
    pour := { serving.pour with state := .pouring, record := some ⟨o, k, portion, volume, none⟩ }
    staged := { serving.staged with frontValve := o == .front, fillValve := o == .fill } }

/-- A step that holds 18.0 degrees, band 0.5, for a time. -/
def hold (duration : Nat) : StepRecord := ⟨.hold, .time, 180, 5, duration, 0, 0, 0, 100, 0⟩

/-- A step that falls from where it starts to 12.0 degrees at 2.5 degrees an hour. -/
def fall : StepRecord := ⟨.ramp, .time, 120, 5, 0, 0, 0, 25, 0, 0⟩

/-- A step that ends when the last six hours hold at most ten openings. -/
def quiet : StepRecord := ⟨.hold, .activity, 180, 5, 60, 10, 6, 0, 100, 0⟩

/-- A step that carbonates to 120 kPa. -/
def carbonate : StepRecord := ⟨.condition, .order, 20, 5, 0, 0, 0, 0, 0, 120⟩

/-- Bay 2 with a program RUNNING in its first step, the beer in band at 18.0 degrees. -/
def brewing (steps : List StepRecord) (elapsed : Nat) (ramp : Option Ramp) : State :=
  { bay2 with
    keg := { bay2.keg with fill := 19000, phase := .fermenting }
    thermal := { bay2.thermal with probe := .good, sample := some 180, regime := .step, effective := some ⟨180, 5⟩ }
    program := { bay2.program with steps := steps, state := .running, current := some 0, elapsed := elapsed, ramp := ramp }
    timebase := { bay2.timebase with minuteDue := true, hourDue := true } }

/-- Bay 2 JOINING, two sections adopted. -/
def joining : State :=
  { bay2 with
    mode := { bay2.mode with mode := .joining, suspect := true, sync := ⟨.listening, 0, false, 1, 0⟩ }
    share := ⟨some ⟨Section.unreceived, Section.founded, Section.founded⟩, 0⟩ }

/-- A state with a frame in hand. -/
def heard (s : State) (e : RxEntry) : State := { s with handler := { s.handler with inHand := some e } }

/-- A state whose roster holds bay 1, ACTIVE, and a given silence age. -/
def peered (s : State) (silence : Nat) : State :=
  { s with mode := { s.mode with roster := [⟨1, some 4, 0, 0, 0, silence⟩] } }

/-- An ORDER of the panel at address 12 for bay 2. -/
def order (o : OrderCode) (args : List Byte) : RxEntry := ⟨2, 12, 0x31, nat8 2 :: o.code :: args, false⟩

/-- The body of the one ANSWER queued, without its destination. -/
def reply (s : State) : Option (List Byte) :=
  match s.tx.queue.map TxEntry.frame with
  | [.answer (_ :: rest)] => some rest
  | _ => none

/-- A table with one section given, the own record's standing to match. -/
def withSection (s : State) (x : Resource) (sec : Section) : State :=
  { s with
    share := s.share.setSection x sec
    demand := s.demand.set x { s.demand.get x with standing := standingIn s.line.address sec } }

/-- One sample of a level, three times. -/
def level (b : Bool) : Samples := ⟨b, b, b⟩

/-- A byte as a receiver takes it from an undisturbed wire. -/
def charOf (b : Byte) : RxChar := ⟨level false, [0, 1, 2, 3, 4, 5, 6, 7].map (fun i => level (b.getLsbD i)), level true⟩

/-- A byte whose start bit one sample disagrees with. -/
def noisy (b : Byte) : RxChar := { charOf b with start := ⟨true, false, false⟩ }

/-- The receive side of a line whose break has been seen. -/
def listening (s : State) : State := { s with line := { s.line with rx := .inBreak } }

/-- The digits 1 to 9 as characters. -/
def digits : List Byte := [0x31, 0x32, 0x33, 0x34, 0x35, 0x36, 0x37, 0x38, 0x39]

/-- A usable record: the defaults, an input polarity, and the checksum over the 46 bytes before it. -/
def record (polarity : Byte) : List Byte :=
  let front := ([12, 2, 3, 0, 120, 0, 20, 0, 120, 0x07, 0xD0, 110, 0x01, 0x4A, 0, 70, 20, 0, 250, 70, 0, 120, 30, 10,
    polarity] : List Byte) ++ List.replicate 21 0
  front ++ bytes16 (check16 front)

/-! ### Well-formed commands -/

theorem test_wf_record_length : Instr.wf (.configLoadEnd (.record [])) = false := by decide
theorem test_wf_record_good : Instr.wf (.configLoadEnd (.record (record 0))) = true := by decide +kernel
theorem test_wf_probe_above : Instr.wf (.secondEvent 32768 0) = false := by decide
theorem test_wf_pressure_below : Instr.wf (.secondEvent 0 (-32769)) = false := by decide
theorem test_wf_inputs_empty : Instr.wf (.inputSettled []) = false := by decide
theorem test_wf_inputs_twice : Instr.wf (.inputSettled [.leak, .leak]) = false := by decide
theorem test_wf_portion_twice : Instr.wf (.pourPortion [.handle, .handle]) = false := by decide
theorem test_wf_char_bits : Instr.wf (.frameEnd false [⟨level false, [], level true⟩]) = false := by decide
theorem test_wf_char_start : Instr.wf (.frameEnd false [{ charOf 0 with start := level true }]) = false := by decide
theorem test_wf_frame_stop : Instr.wf (.frameEnd false [{ charOf 0 with stop := level false }]) = false := by decide
theorem test_wf_frame_length : Instr.wf (.frameEnd false (List.replicate 45 (charOf 0))) = false := by decide +kernel
theorem test_wf_inside_stop : Instr.wf (.frameBroken .breakInside false [{ charOf 0 with stop := level false }]) = false := by
  decide
theorem test_wf_inside_length : Instr.wf (.frameBroken .breakInside false (List.replicate 45 (charOf 0))) = false := by
  decide +kernel
theorem test_wf_framing_last : Instr.wf (.frameBroken .framing false [charOf 0]) = false := by decide
theorem test_wf_framing_earlier :
    Instr.wf (.frameBroken .framing false [{ charOf 0 with stop := level false }, { charOf 0 with stop := level false }]) =
      false := by decide
theorem test_wf_too_long : Instr.wf (.frameBroken .tooLong false [charOf 0]) = false := by decide
theorem test_wf_arbitration_low : Instr.wf (.lostArbitration 13) = false := by decide
theorem test_wf_arbitration_high : Instr.wf (.lostArbitration 26) = false := by decide
theorem test_wf_send_fault : Instr.wf (.sendFault 456) = false := by decide
theorem test_wf_roster_low : Instr.wf (.rosterEntryRemoved 0) = false := by decide
theorem test_wf_roster_high : Instr.wf (.rosterEntryRemoved 13) = false := by decide

/-! ### Worked examples of the spec -/

/-- The check values of the nine digits (02 section 2.2). -/
theorem test_checks_of_nine_digits : checkChar digits = 0x20 ∧ check16 digits = 0x29B1 := by decide +kernel

/-- The first slot is urgency 0 of address 1, the last urgency 3 of address 12 (01 R10). -/
theorem test_slots : slotOf 0 1 = 0 ∧ slotOf 1 1 = 12 ∧ slotOf 3 12 = 47 := by decide

/-- The ramp of R122: 18.0 to 12.0 degrees at 2.5 an hour. -/
theorem test_ramp :
    rampTarget 180 120 2 25 = 180 ∧ rampTarget 180 120 3 25 = 179 ∧ rampTarget 180 120 24 25 = 170 ∧
      rampTarget 180 120 144 25 = 120 ∧ rampTarget 180 120 145 25 = 120 := by decide

/-- The band of R103: 18.0 degrees and 0.5. -/
theorem test_band :
    [174, 175, 180, 185, 186].map (fun v => Thermal.inBand ⟨.good, some v, .step, some ⟨180, 5⟩, none, none, none, 0, false⟩) =
      [false, true, true, true, false] := by decide

/-- A temperature in two characters, signed (02 R23). -/
theorem test_temperature : temp16 (-20) = [0xFF, 0xEC] ∧ tempOf16 0xFF 0xEC = -20 := by decide

/-- A record is good or not by its checksum (02 R32). -/
theorem test_record : configOf (record 0) = some .defaults ∧ configOf ((record 0).set 0 13) = none := by decide +kernel

/-- A flag is cleared only once it has been seen (10 R179). -/
theorem test_two_step_clear :
    (Notice.cleared ⟨0x0003, 0x0001, 0⟩ 0x0003) = ⟨0x0002, 0x0000, 0⟩ := by decide

/-- The summary is the priority of the first set and enabled flag (02 R29). -/
theorem test_summary : Notice.summary ⟨0x0802, 0, 0x67FF⟩ = 2 ∧ Notice.summary ⟨0x1800, 0, 0x67FF⟩ = 0 := by decide

/-! ### The step, starts and the load -/

theorem test_step_runs_front :
    let s := { bay2 with pending := [.stub, .lineIdle] }
    s.pending = .stub :: [.lineIdle] ∧ step s = exec .stub { s with pending := [.lineIdle] } := by
  exact ⟨rfl, rfl⟩

theorem test_step_idle :
    bay2.pending = [] ∧ bay2.power = .running ∧ (after .supplyFall bay2).power ≠ .running ∧
      bay2.tick = { bay2 with timebase := { bay2.timebase with ms := 1 } } ∧ step bay2 = .next bay2.tick := by
  and_intros
  · decide +kernel
  · decide +kernel
  · decide +kernel
  · decide +kernel
  · rfl

theorem test_cold_start : (after (.coldStart 3) serving).line.address = 3 ∧ (after (.coldStart 3) serving).keg = .initial := by
  decide +kernel

theorem test_dip_start :
    (after (.dipStart 2) (pouring .front .handle none 40)).pour.log = [⟨.front, .handle, 40, .interrupted, 19000⟩] ∧
      (after (.dipStart 2) serving).notice.flags = 0x2000 := by decide +kernel

theorem test_ordered_start :
    (after (.orderedStart 2) { serving with power := .restarting }).mode.startReason = .ordered ∧
      after (.orderedStart 2) serving = serving := by decide +kernel

theorem test_supply_fall : (after .supplyFall (pouring .front .handle none 40)).driven = .closed := by decide +kernel

theorem test_config_load :
    State.reset.power = .running ∧ State.reset.load = .delay ∧ (after .configLoad State.reset).timebase.ms = 350 := by
  decide +kernel

/-- The hypotheses of the load's end at a reset part, at an address of a keg station and at one that is not. -/
theorem test_config_load_end :
    let s := { State.reset with load := .reading }
    let down : InputState := ⟨false, some false, 0⟩
    (s.power = .running ∧ s.load = .reading ∧ s.mode.mode = .starting) ∧
      (after (.configLoadEnd .noResponse) s).mode.mode = .vacant ∧
      (after (.configLoadEnd .noResponse) s).notice.flags.getLsbD 14 = true ∧
      (after (.configLoadEnd (.record (record 0))) { s with inputs := { s.inputs with kegPresent := down } }).mode.mode =
        .joining ∧
      (after (.configLoadEnd .noResponse) { s with line := { s.line with address := 9 } }).mode.mode = .starting := by
  decide +kernel

/-- What the load's end judges: a keg not coupled pauses a program kept, LEAK and DRIP are raised, and a NOTICE is asked for; in
STARTING none is. -/
theorem test_config_load_end_inputs :
    let down : InputState := ⟨false, some false, 0⟩
    let kept := { State.reset with
      load := .reading, program := (brewing [hold 9] 3 none).program, keg := (brewing [hold 9] 3 none).keg
      pressure := { State.reset.pressure with sensor := .good, sample := some 250 } }
    let t (i : Inputs) := after (.configLoadEnd (.record (record 0))) { kept with inputs := i }
    (readsAsserted Inputs.high.leak 0 2 = false ∧ readsAsserted { Inputs.high with leak := down }.leak 0 2 = true) ∧
      ((t Inputs.high).program.state = .paused ∧ (t Inputs.high).program.reasons = ⟨false, false, true⟩) ∧
      ((t { Inputs.high with kegPresent := down, coupled := down }).program.state = .running ∧
        SyncBegun (t { Inputs.high with kegPresent := down })) ∧
      (t { Inputs.high with leak := down, drip := down }).notice.flags = 0x0023 ∧
      (t { Inputs.high with leak := down, drip := down }).tx.holds (· == .notice) = true ∧
      (t Inputs.high).pressure.tripped = true ∧
      (after (.configLoadEnd .noResponse) { kept with line := { kept.line with address := 9 } }).tx.holds (· == .notice) = false := by
  and_intros <;> decide +kernel

/-! ### The timebase -/

theorem test_second_event_ranges :
    [-101, -100, 600, 601].map (fun v => (after (.secondEvent v 0) bay2).thermal.probe) = [.fault, .good, .good, .fault] ∧
      [-1, 0, 400, 401].map (fun v => (after (.secondEvent 0 v) bay2).pressure.sensor) = [.fault, .good, .good, .fault] ∧
      after (.secondEvent 0 0) State.reset = State.reset := by decide +kernel

theorem test_second_event_counts :
    let t (sec min : Nat) := (after (.secondEvent 0 0) { bay2 with timebase := ⟨0, sec, min, false, false⟩ }).timebase
    t 58 0 = ⟨0, 59, 0, false, false⟩ ∧ t 59 58 = ⟨0, 0, 59, true, false⟩ ∧ t 59 59 = ⟨0, 0, 0, true, true⟩ := by
  decide +kernel

/-- The counts of one second with nothing left over: a pour with and without pulses, a settling one, the silence ages, the announce
timer, the wait and the rest. -/
theorem test_second_event_timers :
    let t (s : State) := after (.secondEvent 35 100) s
    let running (seconds pulses : Nat) : State := { pouring .front .handle none 40 with
      pour := { (pouring .front .handle none 40).pour with seconds := seconds, dry := 1, foam := 1, pulses := pulses } }
    let counts (s : State) := ((t s).pour.seconds, (t s).pour.dry, (t s).pour.foam, (t s).pour.pulses)
    let waiting (stage : SyncStage) : State := { joining with mode := { joining.mode with sync := ⟨stage, 0, false, 0, 3⟩ } }
    (NothingLeftOver (running 1 0) ∧ NothingLeftOver (peered bay2 14) ∧ NothingLeftOver (waiting .listening)) ∧
      [counts (running 1 0), counts (running 2 0), counts (running 9 110), counts (running 9 111)] =
        [(2, 0, 0, 0), (3, 2, 0, 0), (10, 0, 0, 0), (10, 0, 2, 0)] ∧
      (t { serving with pour := { serving.pour with state := .settling, pulses := 4 } }).pour =
        { serving.pour with state := .settling, settle := 1 } ∧
      (t (peered bay2 14)).mode.roster.map RosterEntry.silence = [15] ∧
      (t { bay2 with mode := { bay2.mode with announceTimer := some 4 } }).mode.announceTimer = some 5 ∧
      (t (waiting .listening)).mode.sync.wait = 1 ∧ (t (waiting .resting)).mode.sync.rest = 4 := by
  and_intros <;> decide +kernel

/-- The drift timer out of band, in band and with the regime OFF, and the starve timer of a need that stands and of one that is
met. -/
theorem test_second_event_drift_and_starve :
    let s := { brewing [hold 9] 3 none with timebase := bay2.timebase }
    let drifting (s : State) : State := { s with thermal := { s.thermal with drift := 7, driftNoticed := true } }
    let starving (s : State) (n : Need) (standing : Standing) : State := { s with
      demand := s.demand.set .chill
        { s.demand.chill with need := some n, standing := standing, starve := 7, starveNoticed := true } }
    let kept : State := { s with thermal := { s.thermal with cooling := some ⟨2, .ferment⟩ } }
    let t (v : Int) (s : State) := after (.secondEvent v 100) s
    (NothingLeftOver s ∧ (t 186 s).demand.chill.need = some ⟨2, .ferment⟩) ∧
      [(t 186 (drifting s)).thermal.drift, (t 185 (drifting s)).thermal.drift, (t 35 (drifting bay2)).thermal.drift] = [8, 0, 7] ∧
      (t 185 (drifting s)).thermal.driftNoticed = false ∧
      (t 185 (starving kept ⟨2, .ferment⟩ .absent)).demand.chill.starve = 8 ∧
      (t 185 (starving kept ⟨2, .ferment⟩ (.granted ⟨2, .ferment⟩))).demand.chill.starve = 0 ∧
      (t 180 (starving kept ⟨2, .ferment⟩ .absent)).demand.chill.starve = 0 := by
  and_intros <;> decide +kernel

/-- Nothing counts outside RUNNING; in band the elapsed rises, and at the duration the step ends. -/
theorem test_minute_event :
    bay2.program.state ≠ .running ∧ (brewing [hold 100] 98 none).thermal.inBand = true ∧
      (after .minuteEvent (brewing [hold 100] 98 none)).program.elapsed = 99 ∧
      (after .minuteEvent (brewing [hold 100, carbonate] 99 none)).program.current = some 1 ∧
      (after .minuteEvent (brewing [hold 100] 99 none)).keg.phase = .serving := by decide +kernel

/-- An ORDER step becomes due at its duration, once, and raises STEP-DONE unless the duration is 0. -/
theorem test_minute_event_due :
    let step (d : Nat) : StepRecord := { hold d with stepEnd := .order }
    let t (d e : Nat) (due : Bool) := after .minuteEvent { (brewing [step d] e none) with
      program := { (brewing [step d] e none).program with due := due } }
    ((t 9 7 false).program.due = false ∧ (t 9 8 false).program.due = true ∧ (t 9 8 false).notice.flags = 0x0800) ∧
      (t 0 8 false).program.due = true ∧ (t 0 8 false).notice.flags = 0 ∧ (t 9 8 true).notice.flags = 0 := by decide +kernel

/-- A RAMP of 25 tenths an hour moves its target by the first tenth at its third minute. -/
theorem test_minute_event_ramp :
    let s (m : Nat) := brewing [fall] 0 (some ⟨180, 180, m, false⟩)
    (s 2).timebase.minuteDue = true ∧ (s 2).program.currentStep = some fall ∧
      (after .minuteEvent (s 1)).program.ramp = some ⟨180, 180, 2, false⟩ ∧
      (after .minuteEvent (s 2)).program.ramp = some ⟨180, 179, 3, false⟩ := by decide +kernel

/-- Out of band nothing moves; a RAMP that reaches its target ends at once or counts its elapsed from the next minute; the ACTIVITY
test is made at a minute. -/
theorem test_minute_event_third :
    let adrift (s : State) : State := { s with thermal := { s.thermal with sample := some 186 } }
    let s (d : Nat) (r : Ramp) := brewing [{ fall with duration := d }, hold 9] 0 (some r)
    let t (s : State) := (after .minuteEvent s).program
    (adrift (s 5 ⟨180, 150, 9, false⟩)).thermal.inBand = false ∧
      t (adrift (s 5 ⟨180, 150, 9, false⟩)) = (adrift (s 5 ⟨180, 150, 9, false⟩)).program ∧
      (t (adrift (brewing [hold 100] 98 none))).elapsed = 98 ∧
      ((t (s 0 ⟨180, 121, 143, false⟩)).current = some 1 ∧ (t (s 5 ⟨180, 121, 143, false⟩)).ramp = some ⟨180, 120, 144, true⟩) ∧
      ((t (s 5 ⟨180, 121, 143, false⟩)).elapsed = 0 ∧ (t (s 5 ⟨180, 120, 144, true⟩)).elapsed = 1) ∧
      ((t (brewing [quiet, hold 9] 59 none)).current = some 1 ∧ (t (brewing [quiet, hold 9] 58 none)).current = some 0) := by
  decide +kernel

theorem test_hour_event :
    let busy := { (brewing [quiet] 60 none) with
      program := { (brewing [quiet] 60 none).program with currentHour := 11 } }
    (after .hourEvent (brewing [quiet, hold 1] 60 none)).program.current = some 1 ∧
      (after .hourEvent busy).program.current = some 0 ∧ (after .hourEvent busy).program.window.head? = some 11 ∧
      (after .hourEvent { bay2 with timebase := { bay2.timebase with hourDue := true } }).program.state = .empty := by
  decide +kernel

/-! ### The pins -/

theorem test_pin_change :
    (after (.pinChange .leak false) bay2).inputs.leak = ⟨false, some true, 0⟩ ∧ after (.pinChange .leak true) bay2 = bay2 := by
  decide +kernel

/-- A pin of an input, moved and about to settle. -/
def moved (s : State) (x : Input) : State :=
  { s with inputs := s.inputs.set x ⟨!(s.inputs.get x).pin, (s.inputs.get x).settled, 20⟩ }

theorem test_settling_before_the_load :
    let s := moved State.reset .handle
    s.load ≠ .ended ∧ (s.inputs.get .handle).settled ≠ some (s.inputs.get .handle).pin ∧
      after (.inputSettled [.handle]) s = { s with inputs := s.inputs.set .handle ⟨false, some false, 0⟩ } := by decide +kernel

theorem test_drip_taken :
    let s := moved bay2 .drip
    s.asserted .drip = false ∧ s.inputs.drip.settled ≠ some s.inputs.drip.pin ∧
      s.inputs.drip.pin = s.cfg.polarity.getLsbD 3 ∧ (after (.inputSettled [.drip]) s).notice.flags = 0x0020 := by
  decide +kernel

theorem test_leak_taken :
    let s := moved bay2 .leak
    let t := after (.inputSettled [.leak]) s
    s.inputs.leak.pin = s.cfg.polarity.getLsbD 2 ∧ t.pressure.leak = true ∧ t.notice.flags = 0x0001 ∧
      (moved t .leak).asserted .leak = true ∧
      (after (.inputSettled [.leak]) (moved t .leak)).pressure.leak = false := by decide +kernel

theorem test_keg_lift :
    let s := moved (pouring .front .handle none 40) .kegPresent
    let t := after (.inputSettled [.kegPresent]) s
    s.power = .running ∧ s.load = .ended ∧ s.mode.mode = .active ∧ s.asserted .kegPresent = true ∧
      s.inputs.kegPresent.settled ≠ some s.inputs.kegPresent.pin ∧ t.mode.mode = .vacant ∧ t.pour.state = .settling ∧
      (after (.inputSettled [.kegPresent]) (moved (brewing [hold 9] 0 none) .kegPresent)).program.state = .paused := by
  decide +kernel

/-- The hypotheses of the arbiter's statement; the row itself reads the free value of log 20. -/
theorem test_front_and_fill_together :
    let s := moved (moved serving .handle) .fillButton
    s.pour.state = .idle ∧ s.asserted .handle = false ∧ s.inputs.handle.settled ≠ some s.inputs.handle.pin ∧
      s.inputs.handle.pin = s.cfg.polarity.getLsbD 4 ∧ s.asserted .fillButton = false ∧
      s.inputs.fillButton.settled ≠ some s.inputs.fillButton.pin ∧
      s.inputs.fillButton.pin = s.cfg.polarity.getLsbD 5 ∧ s.pourRefusal = none := by decide +kernel

theorem test_handle_taken :
    (after (.inputSettled [.handle]) (moved serving .handle)).driven.frontValve = true := by decide +kernel

/-- A request alone: FILL-BUTTON begins a portion; HANDLE is refused while a pour runs, in the wrong phase, and is none in
STARTING; a HANDLE pour ends at its release and a portion does not. -/
theorem test_requests_alone :
    let fill := after (.inputSettled [.fillButton]) (moved serving .fillButton)
    let ask (s : State) := (after (.inputSettled [.handle]) (moved s .handle)).keg.lastRefusal
    let starting := moved { bay2 with mode := { bay2.mode with mode := .starting } } .handle
    let hold (k : PourKind) : State :=
      moved { pouring .front k none 9 with inputs := { serving.inputs with handle := ⟨false, some false, 0⟩ } } .handle
    let freed (k : PourKind) := (after (.inputSettled [.handle]) (hold k)).pour
    (Asserts (moved serving .handle) .handle ∧ Asserts (moved serving .fillButton) .fillButton ∧ Asserts starting .handle ∧
      (moved serving .handle).pourRefusal = none ∧ (moved bay2 .handle).pourRefusal = some .notServing) ∧
      (fill.pour.record = some ⟨.fill, .portion, some serving.cfg.portion, 0, none⟩ ∧ fill.driven.fillValve = true) ∧
      [ask (pouring .fill .portion none 9), ask bay2] = [some .busy, some .notServing] ∧
      after (.inputSettled [.handle]) starting = settledAt starting .handle ∧
      (Deasserts (hold .handle) .handle ∧ Deasserts (hold .portion) .handle) ∧
      ((freed .handle).record.bind OpenPour.reason = some .release ∧ (freed .portion).state = .pouring) := by
  and_intros <;> decide +kernel

/-- The end of DRIP and of FILL-BUTTON does nothing; COUPLED coming has the gas need judged, and going ends it and a pour. -/
theorem test_other_changes :
    let on (x : Input) (s : State) : State := moved { s with inputs := s.inputs.set x ⟨false, some false, 0⟩ } x
    let apart := { serving with
      inputs := { serving.inputs with coupled := ⟨true, some true, 0⟩ }
      pressure := { serving.pressure with sample := some 80 } }
    let p := on .coupled (pouring .front .handle none 9)
    let t := after (.inputSettled [.coupled]) p
    (Deasserts (on .drip bay2) .drip ∧ Deasserts (on .fillButton bay2) .fillButton) ∧
      after (.inputSettled [.drip]) (on .drip bay2) = settledAt (on .drip bay2) .drip ∧
      (Asserts (moved apart .coupled) .coupled ∧
        (after (.inputSettled [.coupled]) (moved apart .coupled)).pressure.gasNeed = some ⟨1, .carb⟩) ∧
      (Deasserts p .coupled ∧ KegGone p t ∧ t.mode = p.mode ∧ t.pour.record.bind OpenPour.reason = some .kegLost) := by
  and_intros <;> decide +kernel

/-- A keg lifted while JOINING leaves the sync; in MUTED the mode stays; one put into a VACANT bay begins a sync, and in MUTED the
mode stays. -/
theorem test_keg_lift_by_mode :
    let inMode (m : Mode) (s : State) : State := { s with mode := { s.mode with mode := m }, share := ⟨none, 0⟩ }
    let asked : State := { joining with tx := joining.tx.askSync }
    let empty : State := { bay2 with inputs := Inputs.high }
    let t (s : State) := after (.inputSettled [.kegPresent]) (moved s .kegPresent)
    (Deasserts (moved asked .kegPresent) .kegPresent ∧ Asserts (moved (inMode .vacant empty) .kegPresent) .kegPresent) ∧
      ((t asked).mode.mode = .vacant ∧ (t asked).tx.holds (· == .syncAsk) = false ∧ (t asked).mode.sync = Sync.initial ∧
        (t asked).tx.holds (· == .yieldAll) = false) ∧
      (KegGone (moved (inMode .muted bay2) .kegPresent) (t (inMode .muted bay2)) ∧
        (t (inMode .muted bay2)).mode.mode = .muted) ∧
      ((t (inMode .vacant empty)).mode.mode = .joining ∧ SyncBegun (t (inMode .vacant empty))) ∧
      (t (inMode .muted empty)).mode.mode = .muted := by
  and_intros <;> decide +kernel

/-- The metering of R160 at 2300 pulses a litre: the third pulse meters the first millilitre. -/
theorem test_meter_pulse :
    let s := { (pouring .front .handle none 0) with cfg := { WorkingCopy.defaults with flowK := 2300 } }
    let two := after .meterPulse (after .meterPulse s)
    after .meterPulse serving = serving ∧ two.pour.remainder = 2000 ∧ two.keg.dispensed = 0 ∧
      (after .meterPulse two).pour.remainder = 700 ∧ (after .meterPulse two).keg.dispensed = 1 := by decide +kernel

/-- A portion is met, the limit is reached, the keg runs past its fill volume, and a settling pour is metered on. -/
theorem test_meter_pulse_ends :
    let near (s : State) : State := { s with pour := { s.pour with remainder := 1000 } }
    let dry (s : State) : State := { s with keg := { s.keg with dispensed := 19000 } }
    let t (s : State) := after .meterPulse (near s)
    (t (pouring .fill .portion (some 330) 329)).pour.record.bind OpenPour.reason = some .portionMet ∧
      (t (pouring .front .handle none 1999)).pour.record.bind OpenPour.reason = some .limit ∧
      (t (pouring .front .handle none 1998)).pour.state = .pouring ∧
      (t (dry (pouring .front .handle none 5))).keg.unaccounted = 1 := by decide +kernel

/-- The low mark of 1000 mL at 10 percent is passed at 99 mL, once. -/
theorem test_meter_pulse_low :
    let s (dispensed : Nat) (passed : Bool) : State := { pouring .front .handle none 5 with
      pour := { (pouring .front .handle none 5).pour with remainder := 1000 }
      keg := { serving.keg with fill := 1000, dispensed := dispensed, lowPassed := passed } }
    let flags (s : State) := (after .meterPulse s).notice.flags
    [flags (s 899 false), flags (s 900 false), flags (s 900 true), flags (s 1000 false)] = [0, 0x0100, 0, 0] ∧
      (after .meterPulse (s 900 false)).keg.lowPassed = true := by decide +kernel

/-- A pulse that meters under the relief law: it completes, raises no flag but KEG-LOW, and leaves what the two controllers do not
write. -/
theorem test_meter_pulse_completes :
    let p := pouring .fill .portion (some 330) 329
    let s := { p with pour := { p.pour with remainder := 1000 }, pressure := { p.pressure with sample := some 250, tripped := true } }
    let t := after .meterPulse s
    reliefLaw s = true ∧ exec .meterPulse s = .next t ∧ t.pour.state = .settling ∧ t.notice = s.notice ∧
      EvaluationsOnly { s with pour := t.pour, keg := t.keg, staged := t.staged } t := by
  and_intros
  · decide +kernel
  · rfl
  all_goals decide +kernel

/-! ### The line -/

theorem test_receiver :
    let at' (rx : RxState) : State := { bay2 with line := { bay2.line with rx := rx, round := some ⟨3, false⟩ } }
    (after .lineIdle (at' .hunt)).line.round = some ⟨0, false⟩ ∧ (after .breakSeen (at' .idle)).line.rx = .inBreak ∧
      (after .breakSeen (at' .hunt)).line.rx = .inBreak ∧ (after .stub (at' .idle)).line.rx = .hunt ∧
      (after .stub (at' .inBreak)).line.rx = .idle ∧ after .stub (at' .hunt) = at' .hunt ∧
      (after .lineIdle (at' .inBreak)).line.rx = .idle := by decide +kernel

/-- A RENEW of address 3 for CHILL, as characters. -/
def renewFrame : List Byte := frameChars 3 .renew [0x01]

theorem test_frame_end :
    let chars := renewFrame.map charOf
    let e : RxEntry := ⟨0, 3, 0x12, [0x01], false⟩
    (listening bay2).line.rx = .inBreak ∧ (chars.all fun ch => !charNoisy ch && !charFraming ch) = true ∧
      chars.map charValue = renewFrame ∧ (after (.frameEnd false chars) (listening bay2)).handler.inHand = some e ∧
      (let busy (n : Nat) := heard { listening bay2 with
         line := { (listening bay2).line with rxQueue := List.replicate n e } } e
       let t (n : Nat) := after (.frameEnd false chars) (busy n)
       (t 0).line.rxQueue = [e] ∧ (t 3).line.rxQueue.length = 4 ∧ (t 3).line.overruns = 0 ∧ (t 4).line.rxQueue.length = 4 ∧
         (t 4).line.overruns = 1 ∧ (t 4).mode.suspect = true) := by decide +kernel

/-- A frame is discarded for a false start, a noisy character, a wrong length, a wrong check; it is counted if its header was
clean. -/
theorem test_frame_discarded :
    let count (falseStart : Bool) (chars : List RxChar) := (after (.frameEnd falseStart chars) (listening bay2)).line.broken
    count true (renewFrame.map charOf) = 1 ∧ count false (noisy 0x03 :: renewFrame.tail.map charOf) = 0 ∧
      count false ((renewFrame.take 4).map charOf) = 1 ∧ count false [charOf 0x03] = 1 ∧
      count false ((renewFrame.dropLast ++ [0x00]).map charOf) = 1 ∧ count false [] = 0 := by decide +kernel

theorem test_frame_broken :
    let t (c : BreakCause) (chars : List RxChar) := (after (.frameBroken c false chars) (listening bay2)).line
    (t .breakInside [charOf 0x03]).rx = .inBreak ∧ (t .breakInside [charOf 0x03]).broken = 1 ∧ (t .framing []).rx = .hunt ∧
      (t .framing []).broken = 0 ∧ (t .tooLong [charOf 0x03]).rx = .hunt := by decide +kernel

/-- A set suspect mark: set alone in MUTED, in JOINING with no LIVE section and in ACTIVE beside a lower ACTIVE peer; it begins
the sync again in JOINING with a LIVE section, and makes an ACTIVE station with no such peer DOUBTFUL. -/
theorem test_suspect_mark_by_mode :
    let t (s : State) := after (.frameBroken .breakInside false [charOf 0x03]) (listening s)
    let quiet (s : State) : Bool :=
      t s == { listening s with
        line := { (listening s).line with broken := 1 }, mode := { (listening s).mode with suspect := true } }
    let inMode (m : Mode) (sh : Share) : State := { bay2 with mode := { bay2.mode with mode := m }, share := sh }
    let live : Share := ⟨some ⟨Section.founded, Section.unreceived, Section.unreceived⟩, 3⟩
    NoClearInHand bay2 ∧ ([inMode .muted ⟨none, 0⟩, inMode .joining clearedTable, peered bay2 0].all quiet) = true ∧
      HasLowerActive 2 (peered bay2 0).mode.roster ∧ ¬ HasLowerActive 2 bay2.mode.roster ∧
      (t (inMode .joining live)).share = clearedTable ∧ (t (inMode .joining live)).mode.sync.stage = .asking ∧
      (t bay2).mode.mode = .doubtful ∧ (t bay2).mode.suspect = true ∧ (t bay2).notice.flags = 0x0200 := by
  and_intros <;> decide +kernel

/-- Bay 2 beside bay 1, an own completed frame awaiting its judgement, and the record of GAS as given. -/
def awaiting (f : TxFrame) (need : Option Need) (standing : Standing) (k : PendKind) : State :=
  let s := listening (peered bay2 0)
  { s with
    line := { s.line with ownAwaited := some ⟨f, 0⟩ }
    lease := { s.lease with expiry := s.lease.expiry.set .gas (some ⟨3, 1, true⟩) }
    demand := s.demand.set .gas { s.demand.gas with need := need, standing := standing, pending := some ⟨k, .sent⟩ } }

/-- The own receiver discards an own completed frame: the mark is set with a noisy header too, which is not counted; the owner asks
again, yields or rests, and an EXPIRE's record ends. -/
theorem test_own_frame_discarded :
    let n : Need := ⟨1, .carb⟩
    let t (header : RxChar) (s : State) := after (.frameBroken .tooLong false [header]) s
    let clean := charOf 0x12
    let claim := awaiting (.claim .gas) (some n) .absent .claim
    let barred := { claim with tx := claim.tx.putYieldAll }
    ((t clean claim).line.broken = 1 ∧ (t clean claim).mode.suspect = true ∧ (t clean claim).line.ownAwaited = none) ∧
      ((t (noisy 0x12) claim).line.broken = 0 ∧ (t (noisy 0x12) claim).mode.suspect = true) ∧
      (t clean claim).demand.gas.pending = some ⟨.claim, .inQueue⟩ ∧
      (t clean barred).demand.gas.pending = some ⟨.claim, .requested⟩ ∧
      (t clean (awaiting (.renew .gas) none (.granted n) .renew)).demand.gas.pending = some ⟨.yield, .inQueue⟩ ∧
      (t clean (awaiting (.yield .gas) none .absent .yield)).demand.gas.pending = none ∧
      (t clean (awaiting (.expire .gas 3 1) none .absent .claim)).lease.expiry.gas = none ∧
      (t clean (awaiting .announce none .absent .claim)).lease.expiry.gas.isSome = true ∧
      (after (.frameEnd true [noisy 0x12]) claim).mode.suspect = true := by decide +kernel

/-- Bay 2 with a CLAIM of CHILL and an ANNOUNCE queued and a round at a slot. -/
def queued (next : Nat) (barred : Bool) : State :=
  { bay2 with
    line := { bay2.line with rx := .idle, round := some ⟨next, barred⟩ }
    demand := bay2.demand.set .chill { bay2.demand.chill with need := some ⟨2, .ferment⟩, pending := some ⟨.claim, .inQueue⟩ }
    tx := { queue := [⟨.claim .chill, 0⟩, ⟨.announce, 1⟩], inFlight := none, stamp := 2 } }

/-- The CLAIM of bay 2 goes in slot 13; a slot of another passes; a bar gives up the round, and a low wire ends it. -/
theorem test_slot_begin :
    (after (.slotBegin true) (queued 13 false)).tx.inFlight.map InFlight.chars =
        some (frameChars 2 .claim [0x01, 0x02, 0x03]) ∧
      (after (.slotBegin true) (queued 12 false)).line.round = some ⟨13, false⟩ ∧
      (after (.slotBegin false) (queued 13 false)).line.round = none ∧
      (after (.slotBegin false) (queued 12 false)).line.round = none ∧
      (after (.slotBegin true) (queued 13 true)).line.round = some ⟨14, true⟩ ∧
      (after (.slotBegin true) { queued 47 false with tx := .initial }).line.round = some ⟨48, false⟩ := by decide +kernel

/-- A send leaves its round to the fall of the wire, which the next slot shows, or a fault in any bit but the first. -/
theorem test_round_of_a_send :
    let sent := after (.slotBegin true) (queued 13 false)
    sent.tx.inFlight.isSome = true ∧ sent.line.round = some ⟨14, false⟩ ∧ (after (.slotBegin true) sent).line.round = none ∧
      (after (.sendFault 0) sent).line.round = some ⟨14, false⟩ ∧ (after (.sendFault 1) sent).line.round = none ∧
      (after (.lostArbitration 14) sent).line.round = none ∧ (after .frameComplete sent).line.round = none := by decide +kernel

/-- Addresses 8 and 9, a frame waiting to be handled, and a spent mark that holds back an ANNOUNCE alone. -/
theorem test_slot_begin_conditions :
    let at' (address next : Nat) (frame : TxFrame) (spent : Bool) : State :=
      { queued next false with
        line := { (queued next false).line with address := address, spent := spent }
        tx := { queue := [⟨frame, 0⟩], inFlight := none, stamp := 1 } }
    let sent (s : State) := (after (.slotBegin true) s).tx.inFlight.isSome
    [sent (at' 8 7 .yieldAll true), sent (at' 9 8 .yieldAll true), sent (at' 8 43 .announce true),
        sent (at' 8 43 .announce false)] = [true, false, false, true] ∧
      sent (heard (queued 13 false) ⟨0, 3, 0x12, [0x01], false⟩) = false := by decide +kernel

/-- The bodies of R27 to R29 and the digest form, of a section with one grant and one waiter. -/
theorem test_bodies :
    let s := { bay2 with
      share := ⟨some ⟨⟨true, [⟨1, 10, .crash, 3⟩], [⟨4, 4, .ferment, 2⟩]⟩, .founded, .founded⟩, 0x0102⟩
      demand := bay2.demand.set .gas { bay2.demand.gas with need := some ⟨1, .carb⟩ }
      notice := ⟨0x0802, 0, 0x67FF⟩ }
    let quiet := { s with mode := { s.mode with mode := .muted } }
    let digest := check16 [1, 1, 10, 4, 1, 3, 4, 4, 3, 0, 2, 2, 3]
    [s.bodyOf (.claim .gas), s.bodyOf (.renew .heat), s.bodyOf (.yield .chill), s.bodyOf .yieldAll,
        s.bodyOf (.expire .gas 5 9), s.bodyOf .syncAsk, s.bodyOf (.answer [12, 1, 0])] =
        [[2, 1, 5], [3], [1], [0x0F], [5, 2, 9], [], [12, 1, 0]] ∧
      s.bodyOf (.syncTable 3 .chill) = [3, 1, 1, 2, 1, 1, 1, 10, 0x84, 3, 4, 4, 3, 2] ∧
      s.share.digest = digest ∧ s.bodyOf .notice = [0x08, 0x02, 2] ∧
      s.bodyOf .announce = [0x14, 0, 0, 1, 2] ++ bytes16 digest ++ bytes16 s.mode.configDigest ++ [2] ∧
      quiet.bodyOf .announce = [0x16, 0, 0, 0, 0, 0, 0] ++ bytes16 s.mode.configDigest ++ [2] := by decide +kernel

theorem test_quiet_window :
    let s := { queued 48 true with line := { (queued 48 true).line with spent := true } }
    (after .quietWindow s).line.spent = false ∧ (after .quietWindow s).line.round = some ⟨0, false⟩ := by decide +kernel

/-- The CLAIM in flight. -/
def flying : State := after (.slotBegin true) (queued 13 false)

/-- The same, its frame in flight withdrawn. -/
def withdrawn (s : State) : State :=
  { s with tx := { s.tx with inFlight := s.tx.inFlight.map (fun f => { f with withdrawn := true }) } }

/-- Bit 14 is the delimiter, released; bit 16 the header's start bit, low; bit 25 its stop bit; bit 26 the next start bit. -/
theorem test_lost_arbitration :
    (flying.tx.inFlight.map (fun f => [14, 16, 25, 26].map (fun i => (frameLevels f.chars)[i]?))) =
        some [some true, some false, some true, some false] ∧
      (after (.lostArbitration 14) flying).tx.queue = (queued 13 false).tx.queue ∧
      (after (.lostArbitration 25) flying).line.lostArbs = 1 ∧
      (after (.lostArbitration 25) (withdrawn flying)).tx.queue = flying.tx.queue := by decide +kernel

/-- A send fault returns the entry, unless it was withdrawn, and sets the mark; where the mark leads out of ACTIVE it acts on the
queue with the entry back in it. -/
theorem test_send_fault :
    let t := after (.sendFault 26) (peered flying 0)
    (t.line.sendFaults = 1 ∧ t.mode.suspect = true ∧ t.tx.queue = (queued 13 false).tx.queue) ∧
      (after (.sendFault 26) (peered (withdrawn flying) 0)).tx.queue = flying.tx.queue ∧
      (after (.sendFault 0) flying).mode.mode = .doubtful ∧ (after (.sendFault 0) flying).tx.holds TxFrame.ofActive = false := by
  decide +kernel

/-- A state with a frame in flight. -/
def sending (s : State) (f : TxFrame) : State :=
  { s with tx := { s.tx with inFlight := some ⟨⟨f, 0⟩, false, []⟩ } }

theorem test_frame_complete :
    (after .frameComplete flying).demand.chill.pending = some ⟨.claim, .sent⟩ ∧
      (after .frameComplete (sending bay2 .announce)).line.ownAwaited = some ⟨.announce, 0⟩ ∧
      (after .frameComplete { sending bay2 (.expire .gas 3 1) with
        lease := { bay2.lease with expiry := bay2.lease.expiry.set .gas (some ⟨3, 1, false⟩) } }).lease.expiry.gas =
          some ⟨3, 1, true⟩ := by decide +kernel

/-- Word of a withdrawn frame, or of one that is no longer pending, moves nothing; a YIELD and a RENEW move as a CLAIM does; the
owner of a SYNC-TABLE does nothing. -/
theorem test_frame_complete_withdrawn :
    let s (k : PendKind) : State := { bay2 with
      demand := bay2.demand.set .heat { bay2.demand.heat with pending := some ⟨k, .inQueue⟩ }
      lease := { bay2.lease with expiry := bay2.lease.expiry.set .gas (some ⟨3, 1, false⟩) } }
    let stage (s : State) (f : TxFrame) := (after .frameComplete (sending s f)).demand.heat.pending.map Pending.stage
    [stage (s .renew) (.renew .heat), stage (s .yield) (.yield .heat), stage (s .claim) (.yield .heat)] =
        [some .sent, some .sent, some .inQueue] ∧
      (after .frameComplete (withdrawn (sending (s .claim) (.claim .heat)))).demand = (s .claim).demand ∧
      (after .frameComplete (withdrawn (sending (s .claim) (.expire .gas 3 1)))).lease = (s .claim).lease ∧
      (after .frameComplete (sending bay2 (.expire .gas 3 1))).lease = bay2.lease ∧
      (after .frameComplete (sending bay2 (.syncTable 3 .gas))).demand = bay2.demand ∧
      (after .frameComplete (sending bay2 .syncAsk)).mode = bay2.mode := by decide +kernel

theorem test_frame_complete_orders :
    let asking := { bay2 with mode := { bay2.mode with mode := .joining, sync := Sync.asking } }
    let marked := { bay2 with orders := ⟨1, 0, true⟩ }
    (after .frameComplete (sending asking .syncAsk)).mode.sync.stage = .listening ∧
      (after .frameComplete (sending { bay2 with orders := ⟨1, 0, false⟩ } (.answer [12, 0x01, 0x00]))).orders = ⟨0, 0, false⟩ ∧
      (after .frameComplete (sending marked (.answer [12, 0x3F, 0x00]))).power = .restarting := by decide +kernel

/-! ### The frame in hand -/

/-- The four tests of R25 in their order, at the edges of the sender's range. -/
theorem test_frame_rejected :
    let h (e : RxEntry) := (after .frameRejected (heard bay2 e)).handler
    h ⟨1, 3, 0x10, [], false⟩ = ⟨none, 1, 0, 0, 0⟩ ∧ h ⟨0, 3, 0x11, [1, 1, 3], false⟩ = ⟨none, 0, 1, 0, 0⟩ ∧
      h ⟨1, 0, 0x11, [1, 1, 3], false⟩ = ⟨none, 0, 1, 0, 0⟩ ∧ h ⟨1, 13, 0x11, [1, 1, 3], false⟩ = ⟨none, 0, 1, 0, 0⟩ ∧
      h ⟨1, 2, 0x11, [1, 1, 3], false⟩ = ⟨none, 0, 1, 0, 0⟩ ∧ h ⟨1, 12, 0x11, [1, 1], false⟩ = ⟨none, 0, 0, 1, 0⟩ ∧
      h ⟨2, 12, 0x31, [13, 1], false⟩ = ⟨none, 0, 0, 0, 1⟩ := by decide +kernel

theorem test_frame_no_block :
    let e : RxEntry := ⟨2, 12, 0x31, [3, 0x01], false⟩
    (rosterLaw (heard bay2 e) = true ∧ e.sender ≠ bay2.line.address) ∧
      (after .frameNoBlock (heard bay2 e)).mode.roster = [⟨12, none, 0, 0, 0, 0⟩] ∧
      (after .frameNoBlock (heard bay2 ⟨2, 3, 0x3A, [0, 4, 3], false⟩)).mode.roster = [⟨3, none, 0, 0, 0, 0⟩] ∧
      (after .frameNoBlock (heard bay2 ⟨1, 3, 0x32, [12, 1, 0], false⟩)).tx = bay2.tx := by decide +kernel

/-- Bay 1 holds ten of the twelve CHILL units and bay 4 waits for four. -/
def held : Section := ⟨true, [⟨1, 10, .crash, 0⟩], [⟨4, 4, .crash, 2⟩]⟩

theorem test_claim :
    let s := withSection bay2 .chill held
    let t := after .claim (heard s ⟨1, 3, 0x11, [0x01, 4, 2], false⟩)
    (s.share.table.map (fun t => t.chill)) = some held ∧ sectionLaw s.cfg .chill held = true ∧
      (t.share.table.map (fun t => t.chill.grants)) = some [⟨3, 4, .hold, 0⟩] ∧ t.share.changeCount = 1 := by decide +kernel

theorem test_claim_without_effect :
    let e : RxEntry := ⟨1, 12, 0x11, [0x01, 4, 2], false⟩
    let none' : State := { bay2 with mode := { bay2.mode with mode := .muted }, share := Share.discarded }
    (after .claim (heard bay2 e)).share = bay2.share ∧
      (after .claim (heard none' { e with sender := 3 })).share = Share.discarded ∧
      (after .claim (heard joining { e with sender := 3 })).share = joining.share ∧
      [[0x01, 0, 2], [0x01, 13, 2], [0x01, 4, 0], [0x01, 4, 6]].map (fun b =>
        (after .claim (heard bay2 ⟨1, 3, 0x11, b, false⟩)).share.changeCount) = [0, 0, 0, 0] ∧
      (after .claim (heard bay2 ⟨1, 3, 0x11, [0x01, 12, 2], false⟩)).share.changeCount = 1 := by decide +kernel

/-- The own CLAIM at an UNRECEIVED section leaves SENT; the own EXPIRE, stale there, ends its record. -/
theorem test_own_frame_without_effect :
    let s := { joining with
      demand := joining.demand.set .chill { joining.demand.chill with pending := some ⟨.claim, .sent⟩ }
      lease := { joining.lease with expiry := joining.lease.expiry.set .chill (some ⟨3, 1, true⟩) } }
    (after .claim (heard s ⟨1, 2, 0x11, [0x01, 4, 2], true⟩)).demand.chill.pending = none ∧
      (after .expire (heard s ⟨0, 2, 0x14, [3, 0x01, 1], true⟩)).lease.expiry.chill = none := by decide +kernel

theorem test_renew :
    let s := withSection bay2 .chill held
    (after .renew (heard s ⟨0, 4, 0x12, [0x01], false⟩)).share.table.map (fun t => t.chill.waits) =
      some [⟨4, 4, .crash, 3⟩] := by decide +kernel

theorem test_yield :
    let s := withSection bay2 .chill held
    (after .yield (heard s ⟨0, 1, 0x13, [0x01], false⟩)).share.table.map (fun t => t.chill.grants) =
      some [⟨4, 4, .crash, 2⟩] := by decide +kernel

theorem test_expire :
    let s := withSection bay2 .chill held
    let t (count : Byte) := (after .expire (heard s ⟨0, 3, 0x14, [4, 0x01, count], false⟩)).share.table.map (fun t => t.chill)
    t 2 = some { held with waits := [] } ∧ t 1 = some held := by decide +kernel

/-- An EXPIRE whose target is no bay does nothing to a table, and the own one ends its record. -/
theorem test_expire_no_bay :
    let s := withSection bay2 .chill held
    let kept := { s with lease := { s.lease with expiry := s.lease.expiry.set .chill (some ⟨3, 1, true⟩) } }
    let t (s : State) (own : Bool) := after .expire (heard s ⟨0, if own then 2 else 3, 0x14, [9, 0x01, 1], own⟩)
    (t kept false).share = kept.share ∧ (t kept false).lease = kept.lease ∧ (t kept true).lease = s.lease := by decide +kernel

theorem test_yield_all :
    let s := withSection (withSection bay2 .chill held) .gas ⟨true, [⟨1, 1, .carb, 0⟩], []⟩
    let t := after .yieldAll (heard s ⟨0, 1, 0x13, [0x0F], false⟩)
    (t.share.table.map (fun t => t.gas.grants)) = some [] ∧ t.share.changeCount = 1 := by decide +kernel

theorem test_sync_table :
    let e : RxEntry := ⟨2, 1, 0x22, nat8 2 :: sectionBody .chill 7 held, false⟩
    let t := after .syncTable (heard joining e)
    (sectionLaw joining.cfg .chill held = true ∧ poolOf joining.cfg .chill ≤ 255 ∧
      (joining.share.table.map (fun t => t.chill.live)) = some false) ∧
      t.mode.mode = .active ∧ t.share.changeCount = 7 ∧ (t.share.table.map (fun t => t.chill)) = some held ∧
      (let two := { joining with share := ⟨some (.all .unreceived), 0⟩ }
       (after .syncTable (heard two e)).mode.mode = .joining) ∧
      (let held := { joining with mode := { joining.mode with suspectHeld := true } }
       let u := after .syncTable (heard held e)
       u.mode.mode = .doubtful ∧ u.mode.suspect = true ∧ u.mode.suspectHeld = false) := by decide +kernel

/-- A SYNC-TABLE that changes no section: refused for a grant without its mark, for a section already LIVE, for no section, or for
another asker; the wait begins again where it is for the station. -/
theorem test_sync_table_unchanged :
    let s := { joining with mode := { joining.mode with sync := ⟨.listening, 0, false, 1, 0⟩ } }
    let t (asker res mark : Byte) := after .syncTable (heard s ⟨2, 1, 0x22, [asker, res, 0, 7, 1, 0, 1, 4, mark, 0], false⟩)
    let seen (u : State) := (u.share, u.mode.sync.wait)
    SectionRefused 12 .chill [⟨1, 4, 0x04, 0⟩] [] ∧
      [t 2 1 0x04, t 2 2 0x85, t 2 7 0x84].map seen = List.replicate 3 (s.share, 0) ∧ seen (t 3 1 0x84) = (s.share, 1) ∧
      (t 2 1 0x84).mode.mode = .active ∧
      (let e : RxEntry := ⟨2, 1, 0x22, [2, 1, 0, 7, 0, 0], false⟩
       holdingLaw bay2 = true ∧ after .syncTable (heard bay2 e) = (heard bay2 e).popFrame e) := by
  and_intros
  · exact Or.inr (Or.inr (Or.inl ⟨_, List.mem_singleton.2 rfl, by decide⟩))
  all_goals decide +kernel

/-- No answer to a SYNC-ASK where a lower ACTIVE peer stands, a SYNC-TABLE holds the sort, the asker is no bay, or the station is
not ACTIVE. -/
theorem test_sync_ask_unanswered :
    let e : RxEntry := ⟨2, 3, 0x21, [], false⟩
    let busy := { bay2 with tx := bay2.tx.enqueue (.syncTable 5 .gas) }
    let silent (s : State) (e : RxEntry) : Bool := after .syncAsk (heard s e) == (heard s e).popFrame e
    (silent (peered bay2 0) e && silent busy e && silent bay2 { e with sender := 9 } && silent joining e) = true ∧
      silent bay2 e = false := by decide +kernel

theorem test_sync_ask :
    let e : RxEntry := ⟨2, 3, 0x21, [], false⟩
    ((bay2.popFrame e).mode.roster.all (fun r => r.reported != some 4)) = true ∧
      (after .syncAsk (heard bay2 e)).tx.queue.map TxEntry.frame =
        [.syncTable 3 .chill, .syncTable 3 .gas, .syncTable 3 .heat] := by decide +kernel

/-- An ANNOUNCE of bay 1, ACTIVE, with a config digest, a change count and a table digest. -/
def announce (config count digest : Word) : RxEntry :=
  ⟨3, 1, 0x0A, [0x14, 0, 0] ++ bytes16 count ++ bytes16 digest ++ bytes16 config ++ [0], false⟩

theorem test_announce :
    let s := { bay2 with mode := { bay2.mode with suspect := true } }
    let t (e : RxEntry) := (after .announce (heard s e)).mode
    let c := bay2.mode.configDigest
    let d := bay2.share.digest
    ((t (announce c 0 d)).mode = .active ∧ (t (announce c 0 d)).suspect = false) ∧
      (t (announce c 1 d)).mode = .doubtful ∧ (t (announce c 0 (d + 1))).mode = .doubtful ∧
      (t (announce (c + 1) 0 d)).mode = .muted := by decide +kernel

/-- The ANNOUNCE of an ACTIVE bay of the same config digest ends a rest, and does nothing in another stage. -/
theorem test_announce_ends_a_rest :
    let s (stage : SyncStage) : State := { joining with mode := { joining.mode with sync := ⟨stage, 3, true, 0, 1⟩ } }
    let t (stage : SyncStage) := after .announce (heard (s stage) (announce bay2.mode.configDigest 5 6))
    (t .resting).mode.sync = ⟨.asking, 3, true, 0, 1⟩ ∧ (t .resting).tx.queue.map TxEntry.frame = [.syncAsk] ∧
      (t .listening).mode.sync = ⟨.listening, 3, true, 0, 1⟩ ∧ (t .listening).tx = joining.tx := by decide +kernel

/-- A conflict found while JOINING: MUTED, its SYNC-ASK and its NOTICE withdrawn, a YIELD-ALL left as it stood. -/
theorem test_conflict_while_joining :
    let s := { joining with tx := joining.tx.askSync.askNotice.putYieldAll }
    let t := after .announce (heard s (announce (bay2.mode.configDigest + 1) 0 0))
    t.mode.mode = .muted ∧ t.mode.sync = Sync.initial ∧ t.notice.flags = 0x0008 ∧ t.share = ⟨none, 0⟩ ∧
      t.tx.queue.map TxEntry.frame = [.yieldAll, .announce] := by decide +kernel

/-- A setting of the mark while an equal ANNOUNCE is in hand waits for it: the ANNOUNCE clears the mark, then it is set. -/
theorem test_held_suspect_mark :
    let e := announce bay2.mode.configDigest 0 bay2.share.digest
    let s := heard (withdrawn flying) e
    let t := after (.sendFault 0) s
    let u := after .announce t
    FrameInHand s e 0x0A 3 ∧ t = { s with
        line := { s.line with sendFaults := 1 }, tx := { s.tx with inFlight := none }
        mode := { s.mode with suspectHeld := true } } ∧
      u.mode.mode = .active ∧ u.mode.suspect = true ∧ u.mode.suspectHeld = false := by
  and_intros <;> decide +kernel

/-- A set mark doubts once the last lower ACTIVE peer is removed or reports JOINING, and not while another one stands. -/
theorem test_suspect_mark_and_roster :
    let suspected (s : State) : State := { s with mode := { s.mode with suspect := true } }
    let two (s : State) : State := { s with
      line := { s.line with address := 3 }, mode := { s.mode with roster := s.mode.roster ++ [⟨2, some 4, 0, 0, 0, 0⟩] } }
    let gone (s : State) := (after (.rosterEntryRemoved 1) s).mode.mode
    let left := announce 0 0 0
    let moved (s : State) := (after .announce (heard s { left with body := left.body.set 0 0x13 })).mode.mode
    gone (suspected (peered bay2 15)) = .doubtful ∧ gone (two (suspected (peered bay2 15))) = .active ∧
      gone (peered bay2 15) = .active ∧ moved (suspected (peered bay2 0)) = .doubtful ∧
      moved (two (suspected (peered bay2 0))) = .active ∧ rosterLaw (two (suspected (peered bay2 0))) = true := by
  decide +kernel

/-! ### Records and reports -/

/-- A demand record and a queue with nothing in it. -/
def recordOf (need : Option Need) (standing : Standing) (pending : Option Pending) : DemandTx :=
  ⟨{ DemandRec.initial with need := need, standing := standing, pending := pending }, Tx.initial⟩

/-- Two needs of CHILL. -/
def mild : Need := ⟨1, .hold⟩
def urgent : Need := ⟨2, .protect⟩

/-- Each report at a record, and what R64 then asks. -/
theorem test_reports :
    let t (need : Option Need) (standing : Standing) (own : Option PendKind) (rep : Report) :=
      (recordOf need standing (own.map (fun k => ⟨k, .sent⟩))).finish true .chill own (some rep)
    let seen (d : DemandTx) := (d.rcd.standing, d.rcd.pending.map Pending.kind)
    seen (t (some mild) .absent (some .claim) (.granted mild)) = (.granted mild, none) ∧
      seen (t (some urgent) .absent (some .claim) (.waiting mild)) = (.waiting mild, some .claim) ∧
      (t (some urgent) (.granted mild) (some .claim) .refused).rcd.resend = true ∧
      seen (t (some urgent) (.granted mild) (some .claim) .refused) = (.granted mild, none) ∧
      seen (t none (.granted mild) (some .renew) .renewed) = (.granted mild, some .yield) ∧
      seen (t (some mild) (.granted mild) (some .yield) (.yielded true)) = (.absent, some .claim) ∧
      seen (t (some mild) (.granted mild) none .bumped) = (.waiting mild, none) ∧
      seen (t (some mild) (.waiting mild) none .promoted) = (.granted mild, none) ∧
      seen (t (some mild) (.granted mild) none .expired) = (.absent, some .claim) := by decide +kernel

/-- FREED claims a refused change again where the free amount makes up the difference, and EXPIRED withdraws a RENEW not yet in
flight. -/
theorem test_freed_and_expired :
    let d := recordOf (some urgent) (.granted mild) none
    let refused : DemandTx := ⟨{ d.rcd with resend := true }, d.tx⟩
    let freed (n : Nat) := (refused.finish true .chill none (some (.freed n))).rcd
    let renewing (st : Stage) := recordOf none (.granted mild) (some ⟨.renew, st⟩)
    let queued : DemandTx := ⟨(renewing .inQueue).rcd, Tx.initial.putShare .chill .renew⟩
    ((freed 0).resend = true ∧ (freed 0).pending = none) ∧ ((freed 1).resend = false ∧ (freed 1).pending.isSome = true) ∧
      (queued.finish true .chill none (some .expired)) = ⟨DemandRec.initial, { Tx.initial with stamp := 1 }⟩ ∧
      ((renewing .requested).finish true .chill none (some .expired)).rcd.pending = none ∧
      ((renewing .sent).finish true .chill none (some .expired)).rcd.pending = some ⟨.renew, .sent⟩ ∧
      ((recordOf (some mild) .absent none).finish false .chill none (some (.freed 0))).rcd.pending = none := by decide +kernel

/-- What a frame brings to the station's own record: a bump, a removal, another bay's YIELD. -/
theorem test_applied_effects :
    let s := withSection bay2 .chill ⟨true, [⟨2, 12, .crash, 0⟩], []⟩
    let bumped := (after .claim (heard s ⟨1, 3, 0x11, [0x01, 4, 2], false⟩))
    bumped.demand.chill.standing = .waiting ⟨12, .crash⟩ ∧
      (after .yield (heard bumped ⟨0, 3, 0x13, [0x01], false⟩)).demand.chill.standing = .granted ⟨12, .crash⟩ ∧
      (after .expire (heard s ⟨0, 3, 0x14, [2, 0x01, 0], false⟩)).demand.chill.standing = .absent := by decide +kernel

/-- The ages by report, and the expiry record of bay 5 with renew count 9 (03 R55, 04 R73). -/
theorem test_lease_reports :
    let l : LeaseTx := ⟨{ Lease.initial with
        ages := ⟨[(3, 7), (5, 200)], [], []⟩, expiry := ⟨some ⟨5, 9, false⟩, none, none⟩ },
      Tx.initial.request (TxFrame.isExpire .chill) (.expire .chill 5 9)⟩
    let t (r : LeaseReport) := (LeaseTx.report l .chill r).lease
    (t (.created 4)).ages.chill = [(3, 7), (4, 0), (5, 200)] ∧ (t (.renewed 3 1)).ages.chill = [(3, 0), (5, 200)] ∧
      (t (.removed 3)).ages.chill = [(5, 200)] ∧ l.report .chill .unaffected = l ∧
      ((t (.renewed 5 10)).expiry.chill = none ∧ (t (.renewed 5 9)).expiry.chill.isSome = true) ∧
      ((t (.removed 5)).expiry.chill = none ∧ (LeaseTx.report l .chill (.removed 5)).tx.queue = []) := by decide +kernel

/-- A change of need by demand state: appearing, going, changing (04 R61). -/
theorem test_changes_of_need :
    let t (need : Option Need) (st : Standing) (k : Option PendKind) (stage : Stage) (new : Option Need) :=
      ((recordOf need st (k.map (fun k => ⟨k, stage⟩))).publish true .chill new).rcd.pending
    t none .absent none .sent (some mild) = some ⟨.claim, .inQueue⟩ ∧
      t none (.granted mild) (some .yield) .requested (some mild) = none ∧
      t none (.granted mild) (some .yield) .sent (some mild) = some ⟨.yield, .sent⟩ ∧
      t (some mild) .absent (some .claim) .requested none = none ∧
      t (some mild) .absent (some .claim) .sent none = some ⟨.yield, .inQueue⟩ ∧
      t (some mild) (.granted mild) none .sent none = some ⟨.yield, .inQueue⟩ ∧
      t (some mild) .absent (some .claim) .sent (some urgent) = some ⟨.claim, .sent⟩ ∧
      t (some mild) (.waiting urgent) (some .claim) .requested (some urgent) = none ∧
      t (some mild) (.waiting mild) none .sent (some urgent) = some ⟨.claim, .inQueue⟩ ∧
      t (some mild) (.granted mild) none .sent (some urgent) = some ⟨.claim, .inQueue⟩ ∧
      t (some urgent) (.granted mild) (some .claim) .requested (some mild) = none ∧
      t (some mild) (.granted mild) (some .renew) .sent (some mild) = some ⟨.renew, .sent⟩ := by decide +kernel

/-- A change in HELD, WAITING, SENDING or CHANGING clears the resend mark; outside ACTIVE the need alone changes; a CLAIM in flight
is replaced. -/
theorem test_changes_of_need_marks :
    let d := recordOf (some mild) (.granted urgent) none
    let refused : DemandTx := ⟨{ d.rcd with resend := true }, d.tx⟩
    let flying : DemandTx := ⟨(recordOf (some mild) .absent (some ⟨.claim, .inQueue⟩)).rcd,
      { Tx.initial with inFlight := some ⟨⟨.claim .chill, 0⟩, false, []⟩ }⟩
    let left (standing : Standing) (k : Option PendKind) :=
      let d := recordOf (some mild) standing (k.map (fun k => ⟨k, .sent⟩))
      ((⟨{ d.rcd with resend := true }, d.tx⟩ : DemandTx).publish true .chill (some urgent)).rcd.resend
    (refused.publish true .chill (some urgent)).rcd.resend = false ∧
      [left (.waiting mild) none, left .absent (some .claim), left (.granted mild) (some .claim)] = List.replicate 3 false ∧
      (refused.publish false .chill (some urgent)).rcd = { refused.rcd with need := some urgent } ∧
      (flying.publish true .chill (some urgent)).tx.queue = [⟨.claim .chill, 0⟩] ∧
      (flying.publish true .chill none).tx.queue = [⟨.yield .chill, 0⟩] := by decide +kernel

/-- A REQUESTED frame is asked for again at a second event and stays while a YIELD-ALL holds the sort; every age rises, to 750. -/
theorem test_second_event_retries :
    let s := { bay2 with
      keg := { bay2.keg with phase := .none }
      lease := { bay2.lease with ages := ⟨[(3, 7)], [(5, 750)], [(6, 749)]⟩ }
      demand := bay2.demand.set .gas { bay2.demand.gas with standing := .granted mild, pending := some ⟨.yield, .requested⟩ } }
    let stage (s : State) := (after (.secondEvent 35 100) s).demand.gas.pending.map Pending.stage
    stage s = some .inQueue ∧ stage { s with tx := s.tx.putYieldAll } = some .requested ∧
      (after (.secondEvent 35 100) s).lease.ages = ⟨[(3, 8)], [(5, 750)], [(6, 750)]⟩ := by decide +kernel

/-! ### One section -/

/-- The four outcomes of a fresh claim: it waits behind a waiter no worse, fits, waits for want of parts, bumps. -/
theorem test_fresh_claim :
    let sec : Section := ⟨true, [⟨1, 4, .crash, 0⟩, ⟨5, 4, .crash, 0⟩], []⟩
    (claimIn 12 held 3 1 .crash).sec.waits.map Entry.bay = [4, 3] ∧
      (claimIn 12 sec 3 4 .hold).sec.grants.map Entry.bay = [1, 5, 3] ∧
      (claimIn 12 sec 3 5 .crash).sec.waits.map Entry.bay = [3] ∧
      (claimIn 12 sec 3 8 .hold).sec = ⟨true, [⟨1, 4, .crash, 0⟩, ⟨3, 8, .hold, 0⟩], [⟨5, 4, .crash, 0⟩]⟩ := by
  decide +kernel

/-- A change fails for a waiter no worse or for want of parts, and otherwise keeps its place. -/
theorem test_change :
    let sec : Section := ⟨true, [⟨1, 4, .ferment, 0⟩, ⟨5, 7, .hold, 0⟩], []⟩
    findBay 1 held.grants = some ⟨1, 10, .crash, 0⟩ ∧ claimIn 12 held 1 2 .crash = ⟨held, false, .unaffected, false, true⟩ ∧
      claimIn 12 sec 1 6 .crash = ⟨sec, false, .unaffected, false, true⟩ ∧
      (claimIn 12 sec 1 5 .crash).sec.grants = [⟨1, 5, .crash, 1⟩, ⟨5, 7, .hold, 0⟩] := by decide +kernel

/-- A change is granted after bumping the newest of the worst rank, which waits ahead of its own rank; a smaller one draws FREED. -/
theorem test_change_after_bumping :
    let sec : Section := ⟨true, [⟨1, 4, .hold, 0⟩, ⟨5, 4, .crash, 0⟩, ⟨6, 4, .crash, 0⟩], []⟩
    claimIn 12 sec 1 8 .hold =
        ⟨⟨true, [⟨1, 8, .hold, 1⟩, ⟨5, 4, .crash, 0⟩], [⟨6, 4, .crash, 0⟩]⟩, true, .renewed 1 1, false, false⟩ ∧
      (claimIn 12 sec 1 3 .hold).freed = true ∧ (claimIn 12 sec 1 13 .hold).refused = true := by decide +kernel

/-- A claim of a bay that waits replaces its entry: renew count raised, FREED where it is granted or waits at a worse rank. -/
theorem test_wait_replacement :
    let t (amount : Nat) (c : Cls) := claimIn 12 held 4 amount c
    (t 2 .crash).sec = ⟨true, [⟨1, 10, .crash, 0⟩, ⟨4, 2, .crash, 3⟩], []⟩ ∧ (t 2 .crash).freed = true ∧
      (t 3 .crash).sec.waits = [⟨4, 3, .crash, 3⟩] ∧ (t 3 .crash).freed = false ∧
      (t 4 .hold).sec = ⟨true, [⟨4, 4, .hold, 3⟩], [⟨1, 10, .crash, 0⟩]⟩ := by decide +kernel

/-- A RENEW counts, modulo 256, in its place; a YIELD and an EXPIRE of the right count remove and promote; a stale one, and a bay
with no entry, do nothing. -/
theorem test_renew_yield_expire_in :
    let wrapped : Section := ⟨true, [⟨1, 10, .crash, 255⟩], [⟨4, 4, .crash, 2⟩]⟩
    let nothing : Effect := ⟨held, false, .unaffected, false, false⟩
    renewIn 12 wrapped 1 = ⟨⟨true, [⟨1, 10, .crash, 0⟩], [⟨4, 4, .crash, 2⟩]⟩, true, .renewed 1 0, false, false⟩ ∧
      yieldIn 12 held 1 = ⟨⟨true, [⟨4, 4, .crash, 2⟩], []⟩, true, .removed 1, true, false⟩ ∧
      expireIn 12 held 1 0 = yieldIn 12 held 1 ∧ expireIn 12 held 1 1 = nothing ∧
      [renewIn 12 held 3, yieldIn 12 held 3, expireIn 12 held 3 0] = List.replicate 3 nothing := by decide +kernel

/-- A smaller waiter does not pass a head that does not fit (03 R49). -/
theorem test_head_of_line :
    promote 12 ⟨true, [⟨1, 10, .hold, 0⟩], [⟨3, 4, .hold, 0⟩, ⟨4, 1, .crash, 0⟩]⟩ =
      ⟨true, [⟨1, 10, .hold, 0⟩], [⟨3, 4, .hold, 0⟩, ⟨4, 1, .crash, 0⟩]⟩ := by decide +kernel

theorem test_section_laws :
    held.live = true ∧ sectionLaw .defaults .chill held = true ∧ Cls.belongs .hold .chill = true ∧
      sectionLaw .defaults .chill (claimIn 12 held 8 12 .hold).sec = true := by decide +kernel

/-! ### Thresholds -/

/-- A JOINING bay 2 at the end of a stage. -/
def atEnd (stage : SyncStage) (failed : Nat) (slow : Bool) : State :=
  { joining with mode := { joining.mode with sync := ⟨stage, failed, slow, 2, 5⟩ } }

theorem test_answer_wait :
    let busy (s : State) : State := { s with mode := { s.mode with roster := [⟨1, some 4, 0, 0, 0, 0⟩] } }
    (after .answerWaitExpiry (atEnd .listening 1 false)).mode.sync.failedAsks = 2 ∧
      (after .answerWaitExpiry (atEnd .listening 2 false)).mode.mode = .active ∧
      (after .answerWaitExpiry (busy (atEnd .listening 2 false))).notice.flags = 0x0200 ∧
      (after .answerWaitExpiry (busy (atEnd .listening 3 true))).notice.flags = 0 := by decide +kernel

theorem test_rest_end : (after .restEnd (atEnd .resting 3 true)).tx.queue.map TxEntry.frame = [.syncAsk] := by decide +kernel

theorem test_announce_timer :
    let s := { bay2 with mode := { bay2.mode with announceTimer := some 5 } }
    (after .announceTimer s).tx.queue.map TxEntry.frame = [.announce] ∧ after .announceTimer bay2 = bay2 := by decide +kernel

theorem test_roster_entry_removed :
    let s := { bay2 with mode := { bay2.mode with roster := [⟨1, some 4, 0, 0, 0, 15⟩, ⟨3, none, 0, 0, 0, 14⟩] } }
    (after (.rosterEntryRemoved 1) s).mode.roster = [⟨3, none, 0, 0, 0, 14⟩] ∧ s.mode.suspect = false := by decide +kernel

/-- Bay 2 with a grant of CHILL of a given age and a peer's grant of another. -/
def aged (own peer : Nat) : State :=
  let s := withSection bay2 .chill ⟨true, [⟨2, 2, .ferment, 0⟩, ⟨5, 2, .ferment, 9⟩], []⟩
  { s with
    lease := { s.lease with ages := s.lease.ages.set .chill [(2, own), (5, peer)] }
    demand := s.demand.set .chill { s.demand.chill with need := some ⟨2, .ferment⟩ } }

/-- The lease of CHILL is 120 s: renew point 60, lapse point 120, expiry point 150. -/
theorem test_lease_points :
    (after (.renewPoint .chill) (aged 60 0)).tx.queue.map TxEntry.frame = [.renew .chill] ∧
      after (.renewPoint .chill) (aged 59 0) = aged 59 0 ∧ after (.renewPoint .chill) (aged 120 0) = aged 120 0 ∧
      (after (.lapse .chill) (aged 120 0)).permitted .chill = false ∧ after (.lapse .chill) (aged 119 0) = aged 119 0 := by
  decide +kernel

theorem test_expiry_point :
    (after (.expiryPoint .chill) (aged 0 150)).tx.queue.map TxEntry.frame = [.expire .chill 5 9] ∧
      after (.expiryPoint .chill) (aged 0 149) = aged 0 149 := by decide +kernel

theorem test_starve_limit :
    let s := { joining with demand := joining.demand.set .gas { joining.demand.gas with need := some ⟨1, .carb⟩, starve := 1800 } }
    (after (.starveLimit .gas) s).notice.flags = 0x0080 ∧
      (let t := after (.starveLimit .gas) s; after (.starveLimit .gas) t = t) := by decide +kernel

/-- The need of an ACTIVE bay that waits is unmet, and that of one that holds what it needs is not. -/
theorem test_starve_limit_active :
    let s (n : Nat) : State := { aged 0 0 with
      demand := bay2.demand.set .chill { (aged 0 0).demand.chill with need := some ⟨n, .ferment⟩, starve := 1800 } }
    (after (.starveLimit .chill) (s 4)).notice.flags = 0x0080 ∧ after (.starveLimit .chill) (s 2) = s 2 := by decide +kernel

theorem test_drift_limit :
    let s := { bay2 with thermal := { bay2.thermal with drift := 7200 } }
    (after .driftLimit s).notice.flags = 0x0040 ∧ (let t := after .driftLimit s; after .driftLimit t = t) := by decide +kernel

theorem test_empty_and_foam :
    let p := pouring .front .handle none 500
    (after .emptyEnd { p with pour := { p.pour with dry := 3 } }).keg.phase = .spent ∧
      (after .foamEnd { p with pour := { p.pour with foam := 2 } }).pour.record =
        some ⟨.front, .handle, none, 500, some .foam⟩ := by decide +kernel

theorem test_settling_end :
    let s := { serving with
      pour := { serving.pour with
        state := .settling, settle := 2, record := some ⟨.front, .handle, none, 500, some .release⟩
        log := List.replicate 8 ⟨.fill, .portion, 330, .portionMet, 9⟩ } }
    (after .settlingEnd s).pour.log.length = 8 ∧
      (after .settlingEnd s).pour.log.head? = some ⟨.front, .handle, 500, .release, 19000⟩ := by decide +kernel

/-- The safety state at 250, 249, 231 and 230 kPa from TRIPPED, and in a fault. -/
theorem test_safety_state :
    let s (v : Int) (sensor : SensorState) : State :=
      { bay2 with pressure := { bay2.pressure with sensor := sensor, sample := some v, tripped := true } }
    [250, 249, 231, 230].map (fun v => (s v .good).pressureEval.pressure.tripped) = [true, true, true, false] ∧
      (s 100 .fault).pressureEval.pressure.tripped = true := by decide +kernel

/-- The regimes of R104, with the target and band of each. -/
theorem test_regimes :
    let t (s : State) := (s.thermalEval.thermal.regime, s.thermalEval.thermal.effective)
    let s := brewing [hold 9] 0 none
    let paused (r : PauseReasons) : State := { s with
      program := { s.program with state := .paused, reasons := r }, thermal := { s.thermal with frozen := some ⟨90, 3⟩ } }
    t s = (.step, some ⟨180, 5⟩) ∧ t (brewing [fall] 0 (some ⟨180, 150, 9, false⟩)) = (.step, some ⟨150, 5⟩) ∧
      t serving = (.serve, some ⟨30, 5⟩) ∧ t (paused ⟨true, false, false⟩) = (.frozen, some ⟨90, 3⟩) ∧
      t (paused ⟨true, true, false⟩) = (.off, none) ∧ t (paused ⟨true, false, true⟩) = (.off, none) ∧ t bay2 = (.off, none) ∧
      t { s with mode := { s.mode with mode := .vacant } } = (.off, none) ∧
      t { s with thermal := { s.thermal with probe := .fault } } = (.off, none) := by decide +kernel

/-- Needs at the edges of a band of 0.5 about 18.0 degrees, present before or not, and their classes. -/
theorem test_thermal_needs :
    let t (step : StepRecord) (v : Int) (cooling heating : Bool) :=
      let s := brewing [step] 0 none
      let u := (State.thermalEval { s with thermal := { s.thermal with
        sample := some v
        cooling := if cooling then some ⟨2, .ferment⟩ else none
        heating := if heating then some ⟨1, .ferment⟩ else none } }).thermal
      (u.cooling, u.heating)
    let serve (v : Int) := (State.thermalEval { serving with thermal := { serving.thermal with sample := some v } }).thermal.cooling
    let cold : Option Need := some ⟨2, .ferment⟩
    let warm : Option Need := some ⟨1, .ferment⟩
    [t (hold 9) 185 false false, t (hold 9) 186 false false, t (hold 9) 181 true false, t (hold 9) 180 true false] =
        [(none, none), (cold, none), (cold, none), (none, none)] ∧
      [t (hold 9) 175 false false, t (hold 9) 174 false false, t (hold 9) 179 false true, t (hold 9) 180 false true] =
        [(none, none), (none, warm), (none, warm), (none, none)] ∧
      [t (hold 9) 200 false false, t (hold 9) 201 false false, t { hold 9 with kind := .crash } 300 false false] =
        [(cold, none), (some ⟨2, .protect⟩, none), (some ⟨4, .crash⟩, none)] ∧
      [serve 35, serve 36, serve 70, serve 71] = [none, some ⟨1, .hold⟩, some ⟨1, .hold⟩, some ⟨2, .protect⟩] := by
  decide +kernel

/-- The spund staging about a point of 100 kPa, open before or not; and with no point, or outside FERMENTING, closed. -/
theorem test_spund_staging :
    let t (s : State) (v : Int) (open' : Bool) := (State.pressureEval { s with
      pressure := { s.pressure with sensor := .good, sample := some v }
      staged := { s.staged with reliefValve := open' } }).staged.reliefValve
    let s := brewing [hold 9] 0 none
    [t s 100 false, t s 99 true, t s 99 false, t s 91 true, t s 90 true] = [true, true, false, true, false] ∧
      t (brewing [fall] 0 none) 200 true = false ∧ t serving 200 true = false := by decide +kernel

/-- The gas need of a keg that holds 100 kPa: it arises below 90, ends at 100; in a pour it also arises below 70; a leak, a
safety trip and a keg not coupled end it. -/
theorem test_gas_need :
    let t (s : State) (v : Int) (before : Bool) := (State.pressureEval { s with
      pressure := { s.pressure with sample := some v, gasNeed := if before then some ⟨1, .carb⟩ else none } }).pressure.gasNeed
    let carb : Option Need := some ⟨1, .carb⟩
    let low := { serving with keg := { serving.keg with carbTarget := 60 } }
    let pour := { low with pour := (pouring .front .handle none 9).pour }
    [t serving 89 false, t serving 90 false, t serving 90 true, t serving 99 true, t serving 100 true] =
        [carb, none, carb, carb, none] ∧
      [t pour 69 false, t pour 70 true, t low 69 false] = [some ⟨1, .serve⟩, none, none] ∧
      [t { serving with pressure := { serving.pressure with leak := true } } 50 true, t bay2 50 true,
        t { serving with pressure := { serving.pressure with tripped := true }, cfg := { serving.cfg with safetyLimit := 60 } } 50 true,
        t { serving with inputs := Inputs.high } 50 true] = List.replicate 4 none := by decide +kernel

/-- A probe fault begins and ends, the program PAUSED for SENSOR throughout; a pressure fault opens the relief, counted while
FERMENTING. -/
theorem test_sensor_faults :
    let s := { brewing [hold 9] 3 none with timebase := bay2.timebase }
    let t := after (.secondEvent 601 50) s
    let u := after (.secondEvent 180 50) { t with notice := ⟨0x0004, 0x0004, 0x67FF⟩ }
    let p := after (.secondEvent 180 401) s
    (t.thermal.probe = .fault ∧ t.thermal.regime = .off ∧ t.program.state = .paused ∧ t.program.reasons = ⟨false, true, false⟩ ∧
        t.notice.flags = 0x0004) ∧
      (u.thermal.probe = .good ∧ u.program.reasons = ⟨false, true, false⟩ ∧ u.thermal.regime = .off ∧
        u.notice.seen = 0x0004) ∧
      (p.notice.flags = 0x0004 ∧ p.driven.reliefValve = true ∧ p.staged.reliefValve = false ∧ p.program.state = .running ∧
        p.program.currentHour = 1) ∧
      (after (.secondEvent 180 50) p).driven.reliefValve = false ∧
      (after (.secondEvent 601 401) { p with program := bay2.program }).program.currentHour = 0 := by decide +kernel

/-! ### Orders -/

/-- An order of bay 2's panel meets the conditions of being taken, at both ends of the panel's addresses. -/
theorem test_order_taken :
    OrderTaken (heard bay2 (order .readKeg [])) (order .readKeg []) .readKeg [] ∧
      OrderTaken (heard bay2 { order .readKeg [] with sender := 9 }) { order .readKeg [] with sender := 9 } .readKeg [] := by
  and_intros <;> decide +kernel

/-- The first four steps of R183. -/
theorem test_order_steps :
    let full := { bay2 with orders := ⟨2, 0, false⟩ }
    let starting := { bay2 with mode := { bay2.mode with mode := .starting } }
    (after .readKeg (heard full (order .readKeg []))).orders = ⟨2, 1, false⟩ ∧
      reply (after .readKeg (heard starting (order .readKeg []))) = some [0x02, 0x01] ∧
      reply (after .readStep (heard bay2 (order .readStep []))) = some [0x03, 0x03] ∧
      reply (after (.pourPortion []) (heard bay2 (order .pourPortion [1]))) = some [0x30, 0x03] := by decide +kernel

theorem test_unknown_order :
    let e : RxEntry := ⟨2, 12, 0x31, [2, 0x0F], false⟩
    Machine.orderOf 0x0F = none ∧ reply (after .unknownOrder (heard bay2 e)) = some [0x0F, 0x04] ∧
      reply (after .unknownOrder (heard { bay2 with mode := { bay2.mode with mode := .starting } } e)) = some [0x0F, 0x01] := by
  decide +kernel

theorem test_read_status :
    (reply (after .readStatus (heard serving (order .readStatus [])))).map List.length = some 26 ∧
      (reply (after .readStatus (heard serving (order .readStatus [])))).map (List.take 10) =
        some [0x01, 0x00, 0x14, 0x03, 0x00, 0x00, 0x00, 0x23, 0x00, 0x64] := by decide +kernel

theorem test_read_keg :
    reply (after .readKeg (heard serving (order .readKeg []))) =
      some [0x02, 0x00, 0x4A, 0x38, 0, 0, 0, 0, 0x4A, 0x38, 0x03, 0x00, 0x1E, 0x64, 0x00, 0x00] := by decide +kernel

theorem test_read_step :
    let s := { bay2 with program := { bay2.program with steps := [hold 100], state := .ready } }
    reply (after .readStep (heard s (order .readStep [0]))) =
        some [0x03, 0x00, 0, 0x01, 0x01, 0x00, 0xB4, 5, 0, 100, 0, 0, 0, 100, 0] ∧
      reply (after .readStep (heard s (order .readStep [1]))) = some [0x03, 0x02] := by decide +kernel

theorem test_read_pour_log :
    let s := { bay2 with pour := { bay2.pour with log := [⟨.fill, .portion, 330, .portionMet, 9⟩] } }
    let r (i : Byte) := reply (after .readPourLog (heard s (order .readPourLog [i])))
    r 0 = some [0x04, 0x00, 0, 0x02, 0x02, 0x01, 0x4A, 0x02, 0x00, 0x09] ∧
      r 7 = some [0x04, 0x00, 7, 0, 0, 0, 0, 0, 0, 0] ∧ r 8 = some [0x04, 0x03] := by decide +kernel

/-- Bay 2 with two flags set, one of them seen. -/
def flagged : State := { bay2 with notice := ⟨0x0003, 0x0001, 0x67FF⟩ }

theorem test_read_notices :
    reply (after .readNotices (heard flagged (order .readNotices []))) = some [0x05, 0x00, 0, 3, 0, 1, 0x67, 0xFF] ∧
      (after .readNotices (heard flagged (order .readNotices []))).notice.seen = 0x0003 ∧
      (after .readNotices (heard { flagged with orders := ⟨2, 0, false⟩ } (order .readNotices []))).notice = flagged.notice := by
  decide +kernel

theorem test_clear_notices :
    noticeLaw flagged.notice = true ∧
      reply (after .clearNotices (heard flagged (order .clearNotices [0x00, 0x03]))) = some [0x06, 0x00, 0, 2] ∧
      reply (after .clearNotices (heard flagged (order .clearNotices [0x80, 0x03]))) = some [0x06, 0x03] := by decide +kernel

theorem test_set_notice_enable :
    (after .setNoticeEnable (heard flagged (order .setNoticeEnable [0x7F, 0xFF]))).notice.enabled = 0x7FFF ∧
      reply (after .setNoticeEnable (heard flagged (order .setNoticeEnable [0x80, 0x00]))) = some [0x07, 0x03] := by
  decide +kernel

theorem test_raise_notice :
    let t := after .raiseNotice (heard flagged (order .raiseNotice [0x00, 0x01]))
    let u := after .raiseNotice (heard flagged (order .raiseNotice [0x18, 0x00]))
    t.notice = ⟨0x0003, 0x0000, 0x67FF⟩ ∧ t.tx.holds (· == .notice) = true ∧ u.notice.flags = 0x1803 ∧
      u.tx.holds (· == .notice) = false ∧
      reply (after .raiseNotice (heard flagged (order .raiseNotice [0x80, 0x00]))) = some [0x08, 0x03] := by decide +kernel

theorem test_set_fill :
    let r (s : State) (args : List Byte) := reply (after .setFill (heard s (order .setFill args)))
    r bay2 [0x4E, 0x20, 0x00] = some [0x10, 0x00] ∧ r bay2 [0x4E, 0x21, 0x00] = some [0x10, 0x03] ∧
      r bay2 [0x4E, 0x20, 0x01] = some [0x10, 0x03] ∧ r (brewing [hold 9] 0 none) [0x4E, 0x20, 0x00] = some [0x10, 0x02] ∧
      (after .setFill (heard bay2 (order .setFill [0x4E, 0x20, 0x03]))).keg.fill = 20000 ∧
      (after .setFill (heard serving (order .setFill [0x4E, 0x20, 0x03]))).thermal = serving.thermal := by decide +kernel

theorem test_set_serve :
    let r (args : List Byte) := reply (after .setServe (heard bay2 (order .setServe args)))
    [r [0, 0, 50], r [0, 120, 250]] = [some [0x11, 0x00], some [0x11, 0x00]] ∧
      [r [0xFF, 0xFF, 50], r [0, 121, 50], r [0, 0, 49], r [0, 0, 251]] = List.replicate 4 (some [0x11, 0x03]) := by
  decide +kernel

theorem test_load_step :
    let r (s : State) (i : Byte) (st : List Byte) := reply (after .loadStep (heard s (order .loadStep (i :: st))))
    let running := brewing [hold 9] 0 none
    r bay2 0 (hold 9).bytes = some [0x20, 0x00] ∧ r bay2 1 (hold 9).bytes = some [0x20, 0x02] ∧
      r bay2 0 (hold 0).bytes = some [0x20, 0x03] ∧ r running 0 (hold 9).bytes = some [0x20, 0x02] ∧
      r running 1 (hold 9).bytes = some [0x20, 0x00] := by decide +kernel

theorem test_load_step_stores :
    let t := after .loadStep (heard bay2 (order .loadStep (0 :: fall.bytes)))
    let u := after .loadStep (heard { t with tx := .initial } (order .loadStep (0 :: quiet.bytes)))
    t.program.steps = [fall] ∧ t.program.state = .ready ∧ u.program.steps = [quiet] ∧ u.program.state = .ready := by
  decide +kernel

theorem test_step_records :
    [hold 9, fall, quiet, carbonate].all StepRecord.valid = true ∧
      [hold 9, fall, quiet, carbonate].map (fun st => stepOf st.bytes) =
        [some (hold 9), some fall, some quiet, some carbonate] := by decide +kernel

theorem test_clear_program :
    let paused := { (brewing [hold 9] 4 none) with program := { (brewing [hold 9] 4 none).program with state := .paused } }
    reply (after .clearProgram (heard (brewing [hold 9] 4 none) (order .clearProgram []))) = some [0x21, 0x02] ∧
      (after .clearProgram (heard paused (order .clearProgram []))).program = .initial ∧
      (let e := order .clearProgram []
       after .clearProgram (heard bay2 e) = answered ((heard bay2 e).popFrame e) e 0x21 0x00 []) := by decide +kernel

theorem test_start_program :
    let s := { bay2 with
      program := { bay2.program with steps := [fall, hold 9], state := .ready }
      thermal := { bay2.thermal with probe := .good, sample := some 180 } }
    let t := after .startProgram (heard s (order .startProgram []))
    t.program.ramp = some ⟨180, 180, 0, false⟩ ∧ t.keg.phase = .fermenting ∧ reply t = some [0x22, 0x00] ∧
      reply (after .startProgram (heard bay2 (order .startProgram []))) = some [0x22, 0x02] := by decide +kernel

theorem test_pause_and_resume :
    let t := after .pauseProgram (heard (brewing [hold 9] 4 none) (order .pauseProgram []))
    let u := after .resumeProgram (heard { t with orders := ⟨0, 0, false⟩ } (order .resumeProgram []))
    t.program.state = .paused ∧ t.thermal.frozen = some ⟨180, 5⟩ ∧ t.thermal.regime = .frozen ∧
      u.program.state = .running ∧ u.program.elapsed = 4 ∧
      reply (after .pauseProgram (heard bay2 (order .pauseProgram []))) = some [0x23, 0x02] := by decide +kernel

/-- A program PAUSED for another reason gains ORDERED and keeps its frozen target. -/
theorem test_pause_again :
    let s := { (brewing [hold 9] 4 none) with
      program := { (brewing [hold 9] 4 none).program with state := .paused, reasons := ⟨false, true, false⟩ }
      thermal := { (brewing [hold 9] 4 none).thermal with frozen := some ⟨90, 5⟩ } }
    let t := after .pauseProgram (heard s (order .pauseProgram []))
    let again := { t with tx := Tx.initial }
    t.program.reasons = ⟨true, true, false⟩ ∧ t.thermal.frozen = some ⟨90, 5⟩ ∧ reply t = some [0x23, 0x00] ∧
      (after .pauseProgram (heard again (order .pauseProgram []))).program = t.program := by decide +kernel

theorem test_resume_with_a_reason_left :
    let s := { (brewing [hold 9] 4 none) with
      program := { (brewing [hold 9] 4 none).program with state := .paused, reasons := ⟨true, true, false⟩ }
      thermal := { bay2.thermal with probe := .fault } }
    let t := after .resumeProgram (heard s (order .resumeProgram []))
    let again := { t with tx := Tx.initial }
    t.program.state = .paused ∧ t.program.reasons = ⟨false, true, false⟩ ∧ reply t = some [0x24, 0x02] ∧
      (after .resumeProgram (heard again (order .resumeProgram []))).program = t.program ∧
      reply (after .resumeProgram (heard bay2 (order .resumeProgram []))) = some [0x24, 0x02] := by decide +kernel

theorem test_advance_step :
    (after .advanceStep (heard (brewing [hold 9, carbonate] 0 none) (order .advanceStep []))).keg.phase = .conditioning ∧
      (after .advanceStep (heard (brewing [hold 9] 0 none) (order .advanceStep []))).program.state = .complete ∧
      reply (after .advanceStep (heard bay2 (order .advanceStep []))) = some [0x25, 0x02] := by decide +kernel

/-- The edges of a portion, and each refusal of R157 in its order. -/
theorem test_pour_portion :
    let t (s : State) (args : List Byte) := after (.pourPortion []) (heard s (order .pourPortion args))
    let why (s : State) := (t s [1, 0, 50]).keg.lastRefusal
    [t serving [1, 0, 49], t serving [3, 0, 50], t serving [1, 0x07, 0xD1]].map reply = List.replicate 3 (some [0x30, 0x03]) ∧
      (t serving [1, 0, 50]).driven.frontValve = true ∧ (t serving [2, 0x07, 0xD0]).driven.fillValve = true ∧
      why (pouring .front .handle none 0) = some .busy ∧ why bay2 = some .notServing ∧
      why { serving with inputs := Inputs.high } = some .notCoupled := by decide +kernel

theorem test_pour_portion_refused :
    let why (s : State) := (after (.pourPortion []) (heard s (order .pourPortion [2, 0, 50]))).keg.lastRefusal
    [70, 71].map (fun v => why { serving with thermal := { serving.thermal with sample := some v } }) = [none, some .tooWarm] ∧
      [70, 69].map (fun v => why { serving with pressure := { serving.pressure with sample := some v } }) =
        [none, some .lowPressure] ∧
      why { serving with keg := { serving.keg with dispensed := 19000 } } = some .noBeer := by decide +kernel

/-- A POUR-PORTION that makes no request beside a HANDLE that is accepted: the pour's GAS CLAIM is queued before the ANSWER (log
41), whichever way its arguments fail. -/
theorem test_pour_portion_beside_an_input :
    let s := moved { serving with pressure := { serving.pressure with sample := some 80 } } .handle
    let t (args : List Byte) := after (.pourPortion [.handle]) (heard s (order .pourPortion args))
    let order' (args : List Byte) := (t args).tx.queue.map TxEntry.frame
    (t [3, 0, 50]).pour.record = some ⟨.front, .handle, none, 0, none⟩ ∧
      [order' [3, 0, 50], order' [1]] = List.replicate 2 [.claim .gas, .answer [12, 0x30, 0x03]] := by decide +kernel

theorem test_stop_pour :
    (after .stopPour (heard (pouring .fill .portion (some 330) 20) (order .stopPour []))).pour.record.bind OpenPour.reason =
        some .stopped ∧
      reply (after .stopPour (heard serving (order .stopPour []))) = some [0x31, 0x02] := by decide +kernel

theorem test_restart_bay :
    let t := after .restartBay (heard bay2 (order .restartBay []))
    t.orders = ⟨1, 0, true⟩ ∧ reply t = some [0x3F, 0x00] ∧
      reply (after .restartBay (heard { bay2 with orders := ⟨0, 0, true⟩ } (order .restartBay []))) = some [0x3F, 0x02] := by
  decide +kernel

/-! ### Outputs and laws -/

/-- The chill valve is driven where it is staged and the grant is held, and not where the grant is bumped. -/
theorem test_outputs :
    let s := { aged 0 0 with staged := { Outputs.closed with chillValve := true } }
    s.power = .running ∧ s.driven.chillValve = true ∧ standingLaw s = true ∧
      (after .claim (heard s ⟨1, 8, 0x11, [0x01, 12, 2], false⟩)).driven.chillValve = false := by decide +kernel

/-- The relief is driven open at the safety limit and in a fault, in any mode. -/
theorem test_relief :
    let t := after (.secondEvent 35 250) serving
    reliefLaw t = true ∧ t.driven.reliefValve = true ∧ t.notice.flags.getLsbD 1 = true ∧
      (after (.secondEvent 35 401) serving).driven.reliefValve = true := by decide +kernel

/-- Every law the statements say a step keeps stands at a state that is not the reset state, and a step answers from it. -/
theorem test_laws_of_a_pour :
    let s := { pouring .front .handle none 40 with pending := [.meterPulse] }
    (kegLaw s.keg = true ∧ noticeLaw s.notice = true ∧ thermalLaw s = true ∧ reliefLaw s = true ∧ countLaw s = true ∧
      answerLaw s = true ∧ orderLaw s.tx = true ∧ framesLaw s = true ∧ loadLaw s = true) ∧
      (rosterLaw s = true ∧ programLaw s = true ∧ pourLaw s = true ∧ tableLaw s = true ∧ standingLaw s = true ∧
        receiveLaw s = true) := by
  decide +kernel

theorem test_step_of_a_pour :
    step { pouring .front .handle none 40 with pending := [.meterPulse] } =
      .next (after .meterPulse (pouring .front .handle none 40)) := rfl

/-- An unseen flag stands before a step that is neither a read nor a COLD start. -/
theorem test_unseen_flag :
    let s := { flagged with pending := [.clearNotices] }
    s.notice.flags.getLsbD 1 = true ∧ s.notice.seen.getLsbD 1 = false ∧ s.pending.head? ≠ some .readNotices ∧
      (after .clearNotices (heard flagged (order .clearNotices [0x00, 0x03]))).notice.flags.getLsbD 1 = true := by
  decide +kernel

end Sys2Proof.Tests
end

section
/-! PROOFS. The bay line (01): the receiver, the round, the judgement of a frame, slots, and the frame in flight. The layer of
lemmas about the operations comes first, the statements after it. -/

namespace Sys2Proof.Machine

/-! ### The transmit queue: the frame in flight and the places held -/

@[simp] theorem Tx.inFlight_enqueue (tx : Tx) (f : TxFrame) : (tx.enqueue f).inFlight = tx.inFlight := rfl

@[simp] theorem Tx.inFlight_request (tx : Tx) (p : TxFrame → Bool) (f : TxFrame) :
    (tx.request p f).inFlight = tx.inFlight := by
  unfold Tx.request
  split_ifs <;> rfl

@[simp] theorem Tx.inFlight_withdraw_eq_none (tx : Tx) (p : TxFrame → Bool) :
    (tx.withdraw p).inFlight = none ↔ tx.inFlight = none := by
  simp [Tx.withdraw]

@[simp] theorem Tx.inFlight_replace_eq_none (tx : Tx) (p : TxFrame → Bool) (f : TxFrame) :
    (tx.replace p f).inFlight = none ↔ tx.inFlight = none := by
  simp [Tx.replace]

@[simp] theorem Tx.inFlight_askSync (tx : Tx) : tx.askSync.inFlight = tx.inFlight := by simp [Tx.askSync]

@[simp] theorem Tx.inFlight_askAnnounce (tx : Tx) : tx.askAnnounce.inFlight = tx.inFlight := by simp [Tx.askAnnounce]

@[simp] theorem Tx.inFlight_askNotice_eq_none (tx : Tx) : tx.askNotice.inFlight = none ↔ tx.inFlight = none := by
  unfold Tx.askNotice
  split_ifs <;> simp

@[simp] theorem Tx.inFlight_askYieldAll_eq_none (tx : Tx) : tx.askYieldAll.inFlight = none ↔ tx.inFlight = none := by
  unfold Tx.askYieldAll
  split_ifs <;> simp [Tx.putYieldAll]

/-- A request brings nothing of a sort that its frame is not of. -/
theorem Tx.holds_request_other (tx : Tx) (p q : TxFrame → Bool) (f : TxFrame) (hf : q f = false) :
    (tx.request p f).holds q = tx.holds q := by
  unfold Tx.request
  split_ifs <;> simp [hf]

/-- A replacement brings nothing of a sort that its frame is not of and the queue did not hold. -/
theorem Tx.holds_replace_false (tx : Tx) (p q : TxFrame → Bool) (f : TxFrame) (hf : q f = false) (h : tx.holds q = false) :
    (tx.replace p f).holds q = false := by
  rw [Tx.replace, Tx.holds_enqueue, hf, Tx.holds_withdraw_false tx p q h, Bool.false_or]

theorem Tx.holds_askNotice_false (tx : Tx) (q : TxFrame → Bool) (hf : q .notice = false) (h : tx.holds q = false) :
    tx.askNotice.holds q = false := by
  unfold Tx.askNotice
  split_ifs
  · exact h
  · exact Tx.holds_replace_false tx _ q _ hf h
  · simp [hf, h]

theorem Tx.holds_askYieldAll_false (tx : Tx) (q : TxFrame → Bool) (hf : q .yieldAll = false) (h : tx.holds q = false) :
    tx.askYieldAll.holds q = false := by
  unfold Tx.askYieldAll
  split_ifs
  · exact h
  · exact Tx.holds_replace_false tx _ q _ hf h

/-- A frame that did not go out takes the first place of its urgency again, unless it was withdrawn (01 R14, R15). -/
theorem Tx.returned_eq (tx : Tx) (f : InFlight) (h : tx.inFlight = some f) :
    tx.returned = { tx with
      inFlight := none
      queue := if f.withdrawn then tx.queue else
        tx.queue.takeWhile (fun q => decide (q.frame.urgency < f.entry.frame.urgency)) ++
          f.entry :: tx.queue.dropWhile (fun q => decide (q.frame.urgency < f.entry.frame.urgency)) } := by
  simp only [Tx.returned, h, insertReturned_eq]

theorem Tx.launch_cons (tx : Tx) (e : TxEntry) (rest : List TxEntry) (chars : List Byte) (h : tx.queue = e :: rest) :
    tx.launch chars = { tx with queue := rest, inFlight := some ⟨e, false, chars⟩ } := by
  simp only [Tx.launch, h]

/-! ### A setting of the suspect mark (05 R93, R94, R96) -/

/-- The three ways a setting of the mark is acted on. -/
theorem State.setSuspect_eq (s : State) :
    s.setSuspect = if (s.syncing && s.share.anyLive) = true then (marked s).spoilSync
      else if (s.active && !s.lowerActive) = true then (marked s).enterDoubtful else marked s := by
  simp [State.setSuspect, State.doubtTest, State.syncing, State.active, State.lowerActive]

theorem State.setSuspect_suspect (s : State) : s.setSuspect.mode.suspect = true := by
  rw [State.setSuspect_eq]
  split_ifs <;> rfl

theorem State.raise_inFlight_eq_none (s : State) (m : Word) : (s.raise m).tx.inFlight = none ↔ s.tx.inFlight = none := by
  simp only [State.raise]
  split_ifs <;> simp

theorem State.setSuspect_inFlight (s : State) (h : s.tx.inFlight = none) : s.setSuspect.tx.inFlight = none := by
  rw [State.setSuspect_eq]
  split_ifs
  · simpa [State.spoilSync] using h
  · simpa [State.enterDoubtful, State.enterSync, State.enterMode, State.announceRequest, State.raise_inFlight_eq_none,
      State.leaveActive, Tx.putYieldAll] using h
  · exact h

theorem State.lowerActive_iff (s : State) : s.lowerActive = true ↔ HasLowerActive s.line.address s.mode.roster := by
  simp only [State.lowerActive, List.any_eq_true, Bool.and_eq_true, isKeg, reportsActive, decide_eq_true_eq, beq_iff_eq]
  exact exists_congr fun r => and_congr_right fun _ => by tauto

/-- The queue of a station that has just become DOUBTFUL holds no frame of an ACTIVE station. -/
theorem State.enterDoubtful_holds_ofActive (s : State) : s.enterDoubtful.tx.holds TxFrame.ofActive = false := by
  have hleft : (s.leaveActive Share.cleared).tx.holds TxFrame.ofActive = false :=
    Tx.holds_replace_false _ _ _ _ rfl (Tx.holds_withdraw_self _ _)
  have hraised : ((s.leaveActive Share.cleared).raise Flag.lineTrouble.mask).tx.holds TxFrame.ofActive = false := by
    unfold State.raise
    dsimp only
    split_ifs
    · exact Tx.holds_askNotice_false _ _ rfl hleft
    · exact hleft
  simp only [State.enterDoubtful, State.enterSync, State.enterMode, State.announceRequest, State.setTable_tx,
    Tx.askAnnounce, Tx.askSync]
  rw [Tx.holds_request_other _ _ _ _ rfl, Tx.holds_request_other _ _ _ _ rfl]
  exact Tx.holds_askYieldAll_false _ _ rfl hraised

/-- A station that enters JOINING or DOUBTFUL holds a YIELD-ALL and a SYNC-ASK (05 R87). -/
theorem State.enterSync_holds (s : State) (m : Mode) :
    (s.enterSync m).tx.holds (· == .yieldAll) = true ∧ (s.enterSync m).tx.holds (· == .syncAsk) = true := by
  simp only [State.enterSync, State.enterMode, State.announceRequest, State.setTable_tx, Tx.askAnnounce]
  rw [Tx.holds_request_other _ _ _ _ rfl, Tx.holds_request_other _ _ _ _ rfl]
  refine ⟨?_, Tx.holds_askSync _⟩
  rw [Tx.askSync, Tx.holds_request_other _ _ _ _ rfl]
  exact Tx.holds_askYieldAll _

/-- Outside ACTIVE no shared output is permitted (04 R75). -/
theorem permission_inactive (r : DemandRec) : permission false r = false := by
  unfold permission demandState
  cases r.need <;> rfl

theorem State.permitted_of_not_active (s : State) (h : s.mode.mode ≠ .active) (x : Resource) : s.permitted x = false := by
  have hactive : s.active = false := by simpa [State.active] using h
  rw [State.permitted, hactive, permission_inactive]

/-- ACTIVE left for DOUBTFUL (05 R82, R87, R96). -/
theorem State.enterDoubtful_doubts (s : State) : Doubts s s.enterDoubtful := by
  have hmode : s.enterDoubtful.mode.mode = .doubtful := rfl
  have hnotice : s.enterDoubtful.notice = s.notice.raised Flag.lineTrouble.mask := by simp [State.enterDoubtful]
  refine ⟨rfl, rfl, rfl, rfl, ?_, ?_, s.enterDoubtful_holds_ofActive, (State.enterSync_holds _ _).1,
    (State.enterSync_holds _ _).2, fun x => ⟨State.permitted_of_not_active _ (by rw [hmode]; decide) x, ?_, ?_⟩⟩
  · rw [hnotice, Notice.raised_flags]
    simp [Flag.mask, Flag.bit]
  · rw [hnotice, Notice.raised_seen]
    simp [Flag.mask, Flag.bit]
  · cases x <;> rfl
  · cases x <;> rfl

/-- A setting of the mark is acted on by mode, as R93, R94 and R96 say. -/
theorem State.setSuspect_actedOn (s : State) : SettingActedOn s s.setSuspect := by
  rw [State.setSuspect_eq]
  refine ⟨fun h => ?_, fun h => ⟨fun hdead => ?_, fun hlive => ?_⟩, fun h => ⟨fun hlow => ?_, fun hlow => ?_⟩⟩
  · rcases h with h | h | h <;> simp [State.syncing, State.active, h]
  · rcases h with h | h <;> simp [State.active, h, hdead]
  · have hsync : s.syncing = true := by rcases h with h | h <;> simp [State.syncing, h]
    simp only [hsync, hlive, Bool.and_self, if_true]
    rfl
  · have := (State.lowerActive_iff s).mpr hlow
    simp [State.syncing, h, this]
  · have hnot : s.lowerActive = false := by
      rw [← Bool.not_eq_true]
      exact fun hl => hlow ((State.lowerActive_iff s).mp hl)
    simp only [State.syncing, State.active, h, hnot]
    exact ⟨rfl, State.enterDoubtful_doubts (marked s)⟩

/-! ### A setting by the line interface (05 R94, log 38) -/

theorem kindOf_eq_some {b : Byte} {k : Kind} (h : kindOf b = some k) : b = k.code := by
  have hcode := List.find?_some h
  exact (beq_iff_eq.mp hcode).symm

/-- A frame that no test of R25 rejects was dispatched by its kind. -/
theorem classify_dispatched (own : Nat) (e : RxEntry) (h : (classify own e).rejected = false) :
    ∃ k : Kind, e.kind = k.code ∧ classify own e = dispatchClass own k e.body := by
  unfold classify at h ⊢
  split at h
  · cases h
  · next k hk =>
    refine ⟨k, kindOf_eq_some hk, ?_⟩
    split_ifs at h ⊢ with hurgency hsender hlength haddress
    · cases h
    · cases h
    · cases h
    · cases h
    · rfl

/-- Only a SYNC-TABLE and an ANNOUNCE are dispatched as one. -/
theorem dispatchClass_clears {own : Nat} {k : Kind} {body : List Byte}
    (h : dispatchClass own k body = .syncTable ∨ dispatchClass own k body = .announce) : k = .syncTable ∨ k = .announce := by
  cases k
  case syncTable => exact .inl rfl
  case announce => exact .inr rfl
  case yield | order =>
    unfold dispatchClass at h
    grind
  all_goals simp [dispatchClass] at h

theorem State.handClears_of_noClear (s : State) (h : NoClearInHand s) : s.handClears = false := by
  have hkind : ∀ e, s.handler.inHand = some e →
      classify s.line.address e ≠ .syncTable ∧ classify s.line.address e ≠ .announce := by
    intro e he
    have hnot : ¬ (classify s.line.address e = .syncTable ∨ classify s.line.address e = .announce) := by
      intro hc
      obtain ⟨k, hk, hd⟩ := classify_dispatched s.line.address e (by rcases hc with hc | hc <;> rw [hc] <;> rfl)
      rw [hd] at hc
      obtain ⟨hsync, hann⟩ := h e he
      rcases dispatchClass_clears hc with rfl | rfl
      · exact hsync hk
      · exact hann hk
    exact not_or.mp hnot
  unfold State.handClears
  dsimp only
  split
  · rfl
  · next e he =>
    obtain ⟨hsync, hann⟩ := hkind e he
    split
    · exact absurd ‹_› hsync
    · exact absurd ‹_› hann
    · rfl

theorem State.lineSuspect_of_noClear (s : State) (h : NoClearInHand s) : s.lineSuspect = s.setSuspect := by
  simp [State.lineSuspect, State.handClears_of_noClear s h]

/-- The mark is set, or its setting waits for a frame in hand that can clear it. -/
theorem State.lineSuspect_markSet (s : State) : MarkSet s s.lineSuspect := by
  refine ⟨?_, fun h => ?_⟩
  · unfold State.lineSuspect
    split_ifs
    · exact .inr rfl
    · exact .inl s.setSuspect_suspect
  · rw [s.lineSuspect_of_noClear h]
    exact s.setSuspect_suspect

theorem State.lineSuspect_actedOn (s : State) (h : NoClearInHand s) : SettingActedOn s s.lineSuspect := by
  rw [s.lineSuspect_of_noClear h]
  exact s.setSuspect_actedOn

/-- Beside a lower ACTIVE peer the setting moves no mode (05 R96). -/
theorem State.lineSuspect_peered (s : State) (h : NoClearInHand s) (hm : s.mode.mode = .active)
    (hl : HasLowerActive s.line.address s.mode.roster) : s.lineSuspect = marked s := by
  obtain ⟨-, -, hactive⟩ := s.lineSuspect_actedOn h
  exact (hactive hm).1 hl

theorem State.lineSuspect_line (s : State) : s.lineSuspect.line = s.line := by simp

theorem State.lineSuspect_handler (s : State) : s.lineSuspect.handler = s.handler := by simp

theorem State.lineSuspect_keg (s : State) : s.lineSuspect.keg = s.keg := by simp

theorem State.lineSuspect_orders (s : State) : s.lineSuspect.orders = s.orders := by simp

theorem State.lineSuspect_inFlight (s : State) (h : s.tx.inFlight = none) : s.lineSuspect.tx.inFlight = none := by
  unfold State.lineSuspect
  split_ifs
  · exact h
  · exact s.setSuspect_inFlight h

/-! ### The rows of the line while the part runs -/

theorem exec_lineIdle (s : State) (h : s.power = .running) :
    exec .lineIdle s = .next (if s.line.rx = .hunt ∨ s.line.rx = .inBreak ∨ s.line.rx = .delimiter then
      { s with line := s.line.idled } else s) :=
  whileRunning_on s _ h

theorem exec_breakSeen (s : State) (h : s.power = .running) :
    exec .breakSeen s =
      .next (if s.line.rx = .hunt ∨ s.line.rx = .idle then { s with line := s.line.outside .inBreak } else s) :=
  whileRunning_on s _ h

theorem exec_frameEnd (s : State) (falseStart : Bool) (chars : List RxChar) (h : s.power = .running)
    (hrx : s.line.rx = .inBreak) : exec (.frameEnd falseStart chars) s = .next (s.judgeFrame falseStart chars) := by
  have hrec : s.line.receiving = true := by simp [Line.receiving, hrx]
  exact (whileRunning_on s _ h).trans (by rw [if_pos hrec])

theorem exec_frameBroken (s : State) (cause : BreakCause) (falseStart : Bool) (chars : List RxChar) (h : s.power = .running)
    (hrx : s.line.rx = .inBreak) :
    exec (.frameBroken cause falseStart chars) s =
      .next ((State.judgeOwn { s with line := s.line.outside (BreakCause.leadsTo cause) } false).discardFrame
        s.line.ownAwaited.isSome (headerClean chars)) := by
  have hrec : s.line.receiving = true := by simp [Line.receiving, hrx]
  exact (whileRunning_on s _ h).trans (by rw [if_pos hrec]; rfl)

theorem exec_slotBegin (s : State) (r : Round) (wireHigh : Bool) (h : s.power = .running) (hr : s.line.round = some r)
    (hn : r.next < 48) : exec (.slotBegin wireHigh) s = .next (s.slot r wireHigh) := by
  change execSlotBegin wireHigh s = _
  rw [execSlotBegin, whileRunning_on s _ h]
  simp only [hr, if_pos hn]

theorem exec_quietWindow (s : State) (barred : Bool) (h : s.power = .running) (hr : s.line.round = some ⟨48, barred⟩) :
    exec .quietWindow s = .next { s with line := { s.line with spent := false, round := some Round.start } } := by
  change execQuietWindow s = _
  rw [execQuietWindow, whileRunning_on s _ h]
  simp only [hr, if_true]

theorem exec_lostArbitration (s : State) (f : InFlight) (bit : Nat) (h : s.power = .running) (hf : s.tx.inFlight = some f)
    (hbit : arbitrationBit bit = true) (hlevel : f.level bit = some true) :
    exec (.lostArbitration bit) s =
      .next { s with tx := s.tx.returned, line := { s.line.fell with lostArbs := bump 255 s.line.lostArbs } } := by
  change execLostArbitration bit s = _
  rw [execLostArbitration, whileRunning_on s _ h]
  simp only [hf, hbit, hlevel, and_self, if_true]

theorem exec_sendFault (s : State) (f : InFlight) (bit : Nat) (h : s.power = .running) (hf : s.tx.inFlight = some f)
    (hbit : faultBit f bit = true) :
    exec (.sendFault bit) s = .next (State.lineSuspect { s with tx := s.tx.returned, line := s.line.faulted bit }) := by
  change execSendFault bit s = _
  rw [execSendFault, whileRunning_on s _ h]
  simp only [hf, hbit, if_true]

theorem exec_frameComplete (s : State) (f : InFlight) (h : s.power = .running) (hf : s.tx.inFlight = some f) :
    exec .frameComplete s = .next (State.ownerSent { s with
      tx := s.tx.completed
      line := { s.line.fell with spent := true, ownAwaited := some f.entry } } f.entry.frame f.withdrawn) := by
  change execFrameComplete s = _
  rw [execFrameComplete, whileRunning_on s _ h]
  simp only [hf]

/-- Settles O15, by the receiver's state at each of the three rows. -/
theorem receiverFollowsIdleBreakAndStub : Obligations.ReceiverFollowsIdleBreakAndStub := by
  intro s hrun
  have hstub : exec .stub s = execStub s := rfl
  rw [hstub, execStub, whileRunning_on s _ hrun]
  refine ⟨fun hrx => ?_, fun hrx => ?_, fun hrx => ?_, fun hrx => ?_, fun hrx => ?_⟩
  · rw [exec_lineIdle s hrun, if_pos (hrx.imp_right .inl)]
    rfl
  · rw [exec_breakSeen s hrun, if_pos hrx]
    rfl
  · simp only [hrx]
    rfl
  · simp only [hrx]
    rfl
  · simp only [hrx]

/-! ### What the own receiver's judgement of a frame does (01 R8, R9, R16) -/

/-- The wait for the own frame ends. -/
theorem State.judgeOwn_accepted (s : State) : s.judgeOwn true = { s with line := { s.line with ownAwaited := none } } := by
  unfold State.judgeOwn
  cases s.line.ownAwaited <;> rfl

/-- An accepted frame ends the wait for the own frame and is received. -/
theorem State.judgeFrame_accepted (s : State) (falseStart : Bool) (chars : List RxChar) (e : RxEntry)
    (ha : frameAccepted falseStart chars = true)
    (he : rxEntryOf (chars.map charValue) s.line.ownAwaited.isSome = some e) :
    s.judgeFrame falseStart chars = State.receive { s with line := { s.line.idled with
      ownAwaited := none, spent := s.line.spent && !clearsSpent s.line.address chars } } e := by
  simp only [State.judgeFrame, ha, he, State.judgeOwn_accepted]

theorem State.judgeFrame_discarded (s : State) (falseStart : Bool) (chars : List RxChar)
    (ha : frameAccepted falseStart chars = false) :
    s.judgeFrame falseStart chars = (State.judgeOwn { s with line := { s.line.idled with
      spent := s.line.spent && !clearsSpent s.line.address chars } } false).discardFrame s.line.ownAwaited.isSome
        (headerClean chars) := by
  simp only [State.judgeFrame, ha]
  rfl

theorem State.judgeOwn_none (s : State) (accepted : Bool) (h : s.line.ownAwaited = none) : s.judgeOwn accepted = s := by
  simp only [State.judgeOwn, h]
  rw [← h]

/-- The wait for the own frame ends and the frame's owner is told. -/
theorem State.judgeOwn_discarded (s : State) (q : TxEntry) (h : s.line.ownAwaited = some q) :
    s.judgeOwn false = State.ownerLost { s with line := { s.line with ownAwaited := none } } q.frame := by
  simp only [State.judgeOwn, h, Bool.false_eq_true, if_false]

theorem State.discardFrame_passed_over (s : State) : s.discardFrame false false = s := rfl

theorem State.discardFrame_suspected (s : State) (own clean : Bool) (h : (own || clean) = true) :
    s.discardFrame own clean = State.lineSuspect { s with
      line := { s.line with broken := if clean then bump 255 s.line.broken else s.line.broken } } := by
  simp only [State.discardFrame, h, if_true]

/-- A false start, a noisy character, or a wrong length or check character fails a frame (01 R8). -/
theorem frameAccepted_false (falseStart : Bool) (chars : List RxChar)
    (h : falseStart = true ∨ (∃ ch ∈ chars, charNoisy ch = true) ∨ chars.length < 4 ∨
      (chars.map charValue)[2]?.map BitVec.toNat ≠ some (chars.length - 4) ∨
      (chars.map charValue).getLast? ≠ some (checkChar (chars.map charValue).dropLast)) :
    frameAccepted falseStart chars = false := by
  rw [← Bool.not_eq_true]
  intro hacc
  simp only [frameAccepted, checksOut, Bool.and_eq_true, Bool.not_eq_true', List.any_eq_false, decide_eq_true_eq, beq_iff_eq,
    List.length_map] at hacc
  obtain ⟨⟨⟨⟨hstart, hnoisy⟩, -⟩, -⟩, ⟨hlen, hlength⟩, hcheck⟩ := hacc
  rcases h with h | ⟨ch, hch, h⟩ | h | h | h
  · simp [hstart] at h
  · exact hnoisy ch hch h
  · omega
  · exact h hlength
  · exact h hcheck

/-! ### A frame that checks out -/

/-- A frame of the length its length character gives, with its check character right and no character noisy, is accepted
(01 R8). -/
theorem frameAccepted_of_checks (chars : List RxChar) (h k l c : Byte) (body : List Byte)
    (hclean : ∀ ch ∈ chars, charNoisy ch = false ∧ charFraming ch = false)
    (hchars : chars.map charValue = h :: k :: l :: (body ++ [c])) (hlen : body.length ≤ 40) (hl : l.toNat = body.length)
    (hc : c = checkChar (h :: k :: l :: body)) : frameAccepted false chars = true := by
  have hcount : chars.length = body.length + 4 := by
    rw [← List.length_map charValue, hchars]
    simp
  have hdrop : (h :: k :: l :: (body ++ [c])).dropLast = h :: k :: l :: body :=
    List.dropLast_concat (l₁ := h :: k :: l :: body)
  have hlast : (h :: k :: l :: (body ++ [c])).getLast? = some c :=
    List.getLast?_concat (l := h :: k :: l :: body)
  have hchecks : checksOut (chars.map charValue) = true := by
    rw [checksOut, hchars, hdrop, hlast, ← hc]
    simp [hl]
  have hnoisy : chars.any charNoisy = false := List.any_eq_false.mpr fun ch hch => by simp [(hclean ch hch).1]
  have hframing : chars.any charFraming = false := List.any_eq_false.mpr fun ch hch => by simp [(hclean ch hch).2]
  simp only [frameAccepted, hnoisy, hframing, hchecks, hcount]
  simp
  omega

/-- Only a clean header of another sender clears the spent mark (01 R12). -/
theorem clearsSpent_of_clean (own : Nat) (chars : List RxChar) (h : Byte) (rest : List Byte)
    (hclean : ∀ ch ∈ chars, charNoisy ch = false ∧ charFraming ch = false) (hchars : chars.map charValue = h :: rest) :
    clearsSpent own chars = !(h.toNat % 16 == own) := by
  obtain ⟨ch, tail, rfl, rfl, -⟩ := List.map_eq_cons_iff.mp hchars
  obtain ⟨hnoisy, hframing⟩ := hclean ch List.mem_cons_self
  simp [clearsSpent, cleanHeader, headerClean, headerSender, hnoisy, hframing, bne]

theorem State.receive_taken (s : State) (e : RxEntry) (hh : s.handler.inHand = none) (hq : s.line.rxQueue = []) :
    s.receive e = { s with handler := { s.handler with inHand := some e } } := by
  simp only [State.receive, hh, hq, List.length_nil, Nat.zero_lt_succ, if_true, List.nil_append]
  rw [← hq]

theorem State.receive_queued (s : State) (e q : RxEntry) (hh : s.handler.inHand = some q) (hl : s.line.rxQueue.length < 4) :
    s.receive e = { s with line := { s.line with rxQueue := s.line.rxQueue ++ [e] } } := by
  simp only [State.receive, hh, hl, if_true]

theorem State.receive_overrun (s : State) (e : RxEntry) (hl : 4 ≤ s.line.rxQueue.length) :
    s.receive e = State.lineSuspect { s with line := { s.line with overruns := bump 255 s.line.overruns } } := by
  simp only [State.receive, Nat.not_lt.mpr hl, if_false]

/-- Settles O16: the frame is accepted, and the handler and the receive queue decide where it goes. -/
theorem frameThatChecksOutIsQueued : Obligations.FrameThatChecksOutIsQueued := by
  intro s chars h k l c body hrun hrx hclean hchars hlen hl hc line e
  have hacc := frameAccepted_of_checks chars h k l c body hclean hchars hlen hl hc
  have hentry : rxEntryOf (chars.map charValue) s.line.ownAwaited.isSome = some e := by
    simp [hchars, rxEntryOf, e]
  have hexec : exec (.frameEnd false chars) s = .next (State.receive { s with line := line } e) := by
    rw [exec_frameEnd s false chars hrun hrx, s.judgeFrame_accepted false chars e hacc hentry,
      clearsSpent_of_clean s.line.address chars h _ hclean hchars, Bool.not_not]
    rfl
  rw [hexec]
  refine ⟨fun hhand hqueue => ?_, fun q hhand hroom => ?_, fun q hhand hfull => ?_⟩
  · exact congrArg Host.Outcome.next (State.receive_taken { s with line := line } e hhand hqueue)
  · exact congrArg Host.Outcome.next (State.receive_queued { s with line := line } e q hhand hroom)
  · rw [State.receive_overrun { s with line := line } e hfull]
    exact ⟨_, rfl, State.lineSuspect_line _, State.lineSuspect_handler _, State.lineSuspect_markSet _,
      State.lineSuspect_actedOn _⟩

/-! ### A frame of another station that is discarded (01 R8) -/

/-- A broken frame of another station. -/
theorem exec_frameBroken_other (s : State) (cause : BreakCause) (falseStart : Bool) (chars : List RxChar)
    (h : s.power = .running) (hrx : s.line.rx = .inBreak) (hown : s.line.ownAwaited = none) :
    exec (.frameBroken cause falseStart chars) s =
      .next (State.discardFrame { s with line := s.line.outside (BreakCause.leadsTo cause) } false (headerClean chars)) := by
  rw [exec_frameBroken s cause falseStart chars h hrx, State.judgeOwn_none, hown]
  · rfl
  · exact hown

/-- A frame of another station that fails a test at line idle. -/
theorem exec_frameEnd_other (s : State) (falseStart : Bool) (chars : List RxChar) (h : s.power = .running)
    (hrx : s.line.rx = .inBreak) (hown : s.line.ownAwaited = none) (ha : frameAccepted falseStart chars = false) :
    exec (.frameEnd falseStart chars) s =
      .next (State.discardFrame { s with line := { s.line.idled with
        spent := s.line.spent && !clearsSpent s.line.address chars } } false (headerClean chars)) := by
  rw [exec_frameEnd s falseStart chars h hrx, s.judgeFrame_discarded falseStart chars ha, State.judgeOwn_none, hown]
  · rfl
  · exact hown

theorem BreakCause.leadsTo_eq (cause : BreakCause) :
    BreakCause.leadsTo cause = if cause = .breakInside then .inBreak else .hunt := by cases cause <;> rfl

theorem clearsSpent_of_unclean (own : Nat) (chars : List RxChar) (h : headerClean chars = false) :
    clearsSpent own chars = false := by simp [clearsSpent, cleanHeader, h]

theorem clearsSpent_of_headerClean (own : Nat) (chars : List RxChar) (h : headerClean chars = true) :
    clearsSpent own chars = !(chars.head?.map (fun ch => (charValue ch).toNat % 16) == some own) := by
  simp [clearsSpent, cleanHeader, h, headerSender, bne]

/-- Settles O17: a discarded frame of another station is passed over with an unclean header, and sets the mark with a clean one. -/
theorem discardedFramesAreCountedIfClean : Obligations.DiscardedFramesAreCountedIfClean := by
  intro s chars hrun hrx hown
  refine ⟨fun cause falseStart => ⟨fun hclean => ?_, fun hclean => ?_⟩,
    fun falseStart hfails => ⟨fun hclean => ?_, fun hclean => ?_⟩⟩
  · rw [exec_frameBroken_other s cause falseStart chars hrun hrx hown, hclean, State.discardFrame_passed_over,
      BreakCause.leadsTo_eq]
    rfl
  · rw [exec_frameBroken_other s cause falseStart chars hrun hrx hown, hclean, State.discardFrame_suspected _ _ _ rfl,
      BreakCause.leadsTo_eq]
    exact ⟨_, rfl, State.lineSuspect_line _, State.lineSuspect_markSet _, State.lineSuspect_actedOn _⟩
  · rw [exec_frameEnd_other s falseStart chars hrun hrx hown (frameAccepted_false falseStart chars hfails), hclean,
      State.discardFrame_passed_over, clearsSpent_of_unclean _ _ hclean, Bool.not_false, Bool.and_true]
    rfl
  · rw [exec_frameEnd_other s falseStart chars hrun hrx hown (frameAccepted_false falseStart chars hfails), hclean,
      State.discardFrame_suspected _ _ _ rfl, clearsSpent_of_headerClean _ _ hclean, Bool.not_not]
    exact ⟨_, rfl, State.lineSuspect_line _, State.lineSuspect_markSet _, State.lineSuspect_actedOn _⟩

/-! ### What the owner of a discarded own frame does (04 R60, R64, R73) -/

/-- Word of a lost frame reaches the demand records, the expiry records and the queue alone. -/
theorem State.ownerLost_eq (s : State) (f : TxFrame) :
    s.ownerLost f = { s with demand := (s.ownerLost f).demand, lease := (s.ownerLost f).lease, tx := (s.ownerLost f).tx } := by
  cases f <;> rfl

theorem ownerLost_shareFrame (s : State) (x : Resource) (k : PendKind) :
    s.ownerLost (shareFrame x k) = s.onDemand x (fun d => d.frameLost s.active x k) := by cases k <;> rfl

theorem Lease.endSent_sent (l : Lease) (x : Resource) (r : ExpiryRec) (hr : l.expiry.get x = some r) (hs : r.sent = true) :
    l.endSent x = { l with expiry := l.expiry.set x none } := by
  simp only [Lease.endSent, hr, hs, if_true]

/-- A share frame asked for is IN-QUEUE in its resource's place, or REQUESTED while a YIELD-ALL holds the sort. -/
theorem DemandTx.ask_askedFor (d : DemandTx) (x : Resource) (k : PendKind) : AskedFor d.tx x k (d.ask x k) := by
  refine ⟨fun hbar => ?_, fun hfree => ?_⟩
  · simp [DemandTx.ask, Tx.putStage, Tx.putShare, Tx.shareBarred, hbar]
  · simp [DemandTx.ask, Tx.putStage, Tx.putShare, Tx.shareBarred, hfree, Tx.replace]

/-- What R64 wants of a record stands whatever frame was pending. -/
theorem DemandRec.wanted_pending (r : DemandRec) (p : Option Pending) : { r with pending := p }.wanted = r.wanted := rfl

/-- The loss of a SENT frame while ACTIVE: R64 asks for the frame it wants. -/
theorem DemandTx.frameLost_asks (d : DemandTx) (x : Resource) (k w : PendKind) (hp : d.rcd.pending = some ⟨k, .sent⟩)
    (hw : d.rcd.wanted = some w) : AskedFor d.tx x w (d.frameLost true x k) := by
  have hrec : DemandTx.reconcile ⟨{ d.rcd with pending := none }, d.tx⟩ true x =
      DemandTx.ask ⟨{ d.rcd with pending := none }, d.tx⟩ x w := by
    simp only [DemandTx.reconcile, DemandRec.freeToAsk, DemandRec.wanted_pending, hw, Bool.and_self, if_true]
  have hasked := DemandTx.ask_askedFor ⟨{ d.rcd with pending := none }, d.tx⟩ x w
  simp only [DemandTx.frameLost, hp, if_true, hrec]
  simpa only [AskedFor, (DemandRec.settle_standing _ _).2.2] using hasked

/-- The loss of a SENT frame where R64 wants none. -/
theorem DemandTx.frameLost_rests (d : DemandTx) (a : Bool) (x : Resource) (k : PendKind) (hp : d.rcd.pending = some ⟨k, .sent⟩)
    (hw : d.rcd.wanted = none) : (d.frameLost a x k).rcd.pending = none ∧ (d.frameLost a x k).tx = d.tx := by
  simp only [DemandTx.frameLost, hp, if_true, DemandTx.reconcile, DemandRec.wanted_pending, hw,
    (DemandRec.settle_standing _ _).2.2, ite_self, and_self]

theorem DemandRec.wanted_claim (r : DemandRec) (n : Need) (hn : r.need = some n) (hs : r.standing = .absent) :
    r.wanted = some .claim := by
  unfold DemandRec.wanted
  rw [hn, hs]

theorem DemandRec.wanted_yield (r : DemandRec) (hn : r.need = none) (hs : r.standing ≠ .absent) : r.wanted = some .yield := by
  unfold DemandRec.wanted
  rw [hn]
  cases hstand : r.standing
  · exact absurd hstand hs
  all_goals cases r.lapse <;> rfl

theorem DemandRec.wanted_none (r : DemandRec) (hn : r.need = none) (hs : r.standing = .absent) : r.wanted = none := by
  unfold DemandRec.wanted
  rw [hn, hs]

/-! ### The own frame that the own receiver discards (01 R8, R16, log 33) -/

/-- The state with the own frame's wait ended, its owner told and the line as given. -/
def State.told (s : State) (q : TxEntry) (l : Line) : State := { s.ownerLost q.frame with line := l }

/-- The own frame discarded: the wait ends, the owner is told, and the mark set whether the header was clean or not. -/
theorem State.judgeOwn_discardFrame (s : State) (q : TxEntry) (l : Line) (clean : Bool) (h : l.ownAwaited = some q) :
    (State.judgeOwn { s with line := l } false).discardFrame true clean = State.lineSuspect (s.told q { l with
      ownAwaited := none, broken := if clean then bump 255 l.broken else l.broken }) := by
  rw [State.judgeOwn_discarded _ q h, State.discardFrame_suspected _ _ _ (Bool.true_or clean), State.told]
  cases q.frame <;> rfl

theorem exec_frameBroken_own (s : State) (q : TxEntry) (cause : BreakCause) (falseStart : Bool) (chars : List RxChar)
    (h : s.power = .running) (hrx : s.line.rx = .inBreak) (hown : s.line.ownAwaited = some q) :
    exec (.frameBroken cause falseStart chars) s = .next (State.lineSuspect (s.told q { s.line with
      rx := if cause = .breakInside then .inBreak else .hunt, round := none, ownAwaited := none
      broken := if headerClean chars then min (s.line.broken + 1) 255 else s.line.broken })) := by
  rw [exec_frameBroken s cause falseStart chars h hrx, hown, Option.isSome_some, s.judgeOwn_discardFrame q,
    BreakCause.leadsTo_eq]
  · rfl
  · exact hown

theorem exec_frameEnd_own (s : State) (q : TxEntry) (falseStart : Bool) (chars : List RxChar) (h : s.power = .running)
    (hrx : s.line.rx = .inBreak) (hown : s.line.ownAwaited = some q) (ha : frameAccepted falseStart chars = false) :
    exec (.frameEnd falseStart chars) s = .next (State.lineSuspect (s.told q { s.line.idled with
      ownAwaited := none, spent := s.line.spent && !clearsSpent s.line.address chars
      broken := if headerClean chars then min (s.line.broken + 1) 255 else s.line.broken })) := by
  rw [exec_frameEnd s falseStart chars h hrx, s.judgeFrame_discarded falseStart chars ha, hown, Option.isSome_some,
    s.judgeOwn_discardFrame q]
  · rfl
  · exact hown

/-- The mark is set from the state before the word to the owner, which leaves the frame in hand. -/
theorem State.lineSuspect_told_markSet (s : State) (q : TxEntry) (l : Line) : MarkSet s (s.told q l).lineSuspect := by
  have hhand : (s.told q l).handler = s.handler := by simp [State.told]
  have hset := (s.told q l).lineSuspect_markSet
  rwa [MarkSet, NoClearInHand, hhand] at hset

/-- Beside a lower ACTIVE peer the mark moves no mode, and the owner's part is all that changes beside it. -/
theorem State.lineSuspect_told_peered (s : State) (q : TxEntry) (l : Line) (hn : NoClearInHand s) (hm : s.mode.mode = .active)
    (hl : HasLowerActive s.line.address s.mode.roster) (ha : l.address = s.line.address) :
    (s.told q l).lineSuspect = { marked s with
      line := l, demand := (s.ownerLost q.frame).demand, lease := (s.ownerLost q.frame).lease
      tx := (s.ownerLost q.frame).tx } := by
  have hmode : (s.told q l).mode = s.mode := by simp [State.told]
  have hline : (s.told q l).line = l := rfl
  have hhand : (s.told q l).handler = s.handler := by simp [State.told]
  rw [State.lineSuspect_peered _ (by rwa [NoClearInHand, hhand]) (by rw [hmode, hm]) (by rwa [hmode, hline, ha])]
  rw [State.told, State.ownerLost_eq]

/-- Settles O18: the owner is told by the kind of the frame, then the mark is set. -/
theorem ownFrameDiscardedByItsOwnReceiver : Obligations.OwnFrameDiscardedByItsOwnReceiver := by
  intro s q chars cause falseStart hrun hrx hown line
  have hbroken : exec (.frameBroken cause falseStart chars) s = .next (s.told q line).lineSuspect :=
    exec_frameBroken_own s q cause falseStart chars hrun hrx hown
  refine ⟨⟨_, hbroken, State.lineSuspect_line _, s.lineSuspect_told_markSet q line⟩, fun hfails => ?_, fun hn hm hl => ?_⟩
  · have hdiscarded := frameAccepted_false falseStart chars (hfails.imp_right (Or.imp_right .inl))
    refine ⟨_, exec_frameEnd_own s q falseStart chars hrun hrx hown hdiscarded, s.lineSuspect_told_markSet q _, ?_⟩
    simp only [State.lineSuspect_line]
    exact ⟨rfl, rfl, rfl, rfl⟩
  · rw [s.lineSuspect_told_peered q line hn hm hl rfl] at hbroken
    have hactive : s.active = true := by simp [State.active, hm]
    refine ⟨_, hbroken, rfl, fun hkind => ?_, fun x target count r hf hr hsent => ?_, fun x k n hf hp hneed hstand => ?_,
      fun x k hf hp hneed hstand => ?_, fun x k hf hp hneed hstand => ?_⟩ <;> dsimp only
    · rcases hkind with hf | hf | hf | hf | ⟨asker, x, hf⟩ | ⟨body, hf⟩ <;> rw [hf] <;> exact ⟨rfl, rfl, rfl⟩
    · rw [hf]
      exact ⟨rfl, rfl, Lease.endSent_sent s.lease x r hr hsent⟩
    · rw [hf, ownerLost_shareFrame, hactive, State.onDemand_demand, PerRes.get_set_self]
      exact ⟨rfl, DemandTx.frameLost_asks ⟨s.demand.get x, s.tx⟩ x k .claim hp (DemandRec.wanted_claim _ n hneed hstand)⟩
    · rw [hf, ownerLost_shareFrame, hactive, State.onDemand_demand, PerRes.get_set_self]
      exact ⟨rfl, DemandTx.frameLost_asks ⟨s.demand.get x, s.tx⟩ x k .yield hp (DemandRec.wanted_yield _ hneed hstand)⟩
    · rw [hf, ownerLost_shareFrame, hactive, State.onDemand_demand, PerRes.get_set_self]
      exact ⟨rfl, DemandTx.frameLost_rests ⟨s.demand.get x, s.tx⟩ true x k hp (DemandRec.wanted_none _ hneed hstand)⟩

/-! ### The quiet window and the frame that did not go out (01 R12, R14, R15) -/

/-- Settles O20: the row's effect, then the mark acted on with the entry back in the queue. -/
theorem quietWindowLostArbitrationSendFault : Obligations.QuietWindowLostArbitrationSendFault := by
  refine ⟨fun s hrun => ⟨fun barred hround => exec_quietWindow s barred hrun hround, ?_⟩, ?_⟩
  · intro f bit hf hlo hhi hlevel
    rw [exec_lostArbitration s f bit hrun hf (decide_eq_true ⟨hlo, hhi⟩) hlevel, Tx.returned_eq _ f hf]
    rfl
  · intro s f bit level hrun hf hlevel hcause u
    have hfault : faultBit f bit = true := by
      simp only [faultBit, InFlight.level, hlevel]
      rcases hcause with rfl | hafter <;> simp [*]
    rw [exec_sendFault s f bit hrun hf hfault, Line.faulted_eq, Tx.returned_eq _ f hf]
    exact ⟨_, rfl, State.lineSuspect_inFlight u rfl, State.lineSuspect_markSet u, State.lineSuspect_line u,
      State.lineSuspect_handler u, State.lineSuspect_keg u, State.lineSuspect_orders u, State.lineSuspect_actedOn u⟩

/-! ### The owner of a frame that went out whole (01 R16, 04 R60, R73, 05 R91, 11 R186) -/

theorem PerRes.set_get {α : Type} (p : PerRes α) (x : Resource) : p.set x (p.get x) = p := by cases x <;> rfl

theorem ownerSent_shareFrame (s : State) (x : Resource) (k : PendKind) (withdrawn : Bool) :
    s.ownerSent (shareFrame x k) withdrawn =
      { s with demand := s.demand.set x ((s.demand.get x).frameSent k withdrawn) } := by cases k <;> rfl

theorem DemandRec.frameSent_pending (r : DemandRec) (k : PendKind) (h : r.pending = some ⟨k, .inQueue⟩) :
    r.frameSent k false = { r with pending := some ⟨k, .sent⟩ } := by
  simp only [DemandRec.frameSent, h, and_self, if_true]

theorem DemandRec.frameSent_unmoved (r : DemandRec) (k : PendKind) (withdrawn : Bool)
    (h : withdrawn = true ∨ r.pending ≠ some ⟨k, .inQueue⟩) : r.frameSent k withdrawn = r := by
  refine if_neg fun hsent => ?_
  obtain ⟨hw, hp⟩ := hsent
  rcases h with h | h
  · rw [hw] at h; cases h
  · exact h hp

theorem Lease.expireSent_some (l : Lease) (x : Resource) (r : ExpiryRec) (h : l.expiry.get x = some r) :
    l.expireSent x false = { l with expiry := l.expiry.set x (some { r with sent := true }) } := by
  simp only [Lease.expireSent, h, Bool.false_eq_true, if_false]

theorem Lease.expireSent_unmoved (l : Lease) (x : Resource) (withdrawn : Bool)
    (h : withdrawn = true ∨ l.expiry.get x = none) : l.expireSent x withdrawn = l := by
  unfold Lease.expireSent
  rcases h with rfl | h
  · split <;> rfl
  · rw [h]

theorem Sync.askSent_asking (y : Sync) (h : y.stage = .asking) : y.askSent = { y with stage := .listening, wait := 0 } :=
  if_pos h

theorem Sync.askSent_unmoved (y : Sync) (h : y.stage ≠ .asking) : y.askSent = y := if_neg h

/-- The ANSWER that carries the DONE to a RESTART-BAY has the body of code 3Fh and result 00h. -/
theorem isRestartAnswer_iff (body : List Byte) : isRestartAnswer (.answer body) = true ↔ ∃ d, body = [d, 0x3F, 0x00] := by
  unfold isRestartAnswer
  split
  · next d c r hbody =>
    cases hbody
    simp [OrderCode.code, Result.code]
  · next hno =>
    simp only [Bool.false_eq_true, false_iff, not_exists]
    rintro d rfl
    exact hno d 0x3F 0x00 rfl

/-- Settles O21: the owner is told by the kind of the frame. -/
theorem frameCompleteTellsTheOwner : Obligations.FrameCompleteTellsTheOwner := by
  intro s f hrun hf u
  have hexec : exec .frameComplete s = .next (u.ownerSent f.entry.frame f.withdrawn) := exec_frameComplete s f hrun hf
  rw [hexec]
  refine ⟨fun hkind => ?_, fun x k hk => ?_, fun x target count hk => ?_, fun hk => ?_, fun body hk hplain => ?_,
    fun d hk hmark => ?_⟩
  · rcases hkind with hk | hk | hk | ⟨asker, x, hk⟩ <;> rw [hk] <;> rfl
  · rw [hk, ownerSent_shareFrame]
    refine ⟨fun hw hp => ?_, fun hstay => ?_⟩
    · rw [hw, DemandRec.frameSent_pending (u.demand.get x) k hp]
    · rw [DemandRec.frameSent_unmoved (u.demand.get x) k _ hstay, PerRes.set_get]
  · rw [hk]
    change (∀ r, _ → _ → Host.Outcome.next { u with lease := s.lease.expireSent x f.withdrawn } = _) ∧
      (_ → Host.Outcome.next { u with lease := s.lease.expireSent x f.withdrawn } = _)
    refine ⟨fun r hw hr => ?_, fun hstay => ?_⟩
    · rw [hw, Lease.expireSent_some s.lease x r hr]
    · rw [Lease.expireSent_unmoved s.lease x _ hstay]
  · rw [hk]
    refine ⟨fun hstage => ?_, fun hstage => ?_⟩
    · rw [State.ownerSent, Sync.askSent_asking u.mode.sync hstage]
    · rw [State.ownerSent, Sync.askSent_unmoved u.mode.sync hstage]
  · have hno : (u.orders.restartMark && isRestartAnswer (.answer body)) = false := by
      rw [Bool.and_eq_false_iff, ← Bool.not_eq_true (isRestartAnswer _), isRestartAnswer_iff, not_exists]
      exact hplain
    rw [hk, State.ownerSent, hno]
    rfl
  · have hrestart : (u.orders.restartMark && isRestartAnswer (.answer [d, 0x3F, 0x00])) = true := by
      rw [Bool.and_eq_true, isRestartAnswer_iff]
      exact ⟨hmark, d, rfl⟩
    rw [hk, State.ownerSent, hrestart]
    rfl

/-! ### Slots (01 R10, R11) -/

theorem State.slot_fell (s : State) (r : Round) (wireHigh : Bool) (h : wireHigh = false ∨ s.tx.inFlight ≠ none) :
    s.slot r wireHigh = { s with line := { s.line with round := none } } :=
  if_pos (h.imp_right Option.isSome_iff_ne_none.mpr)

/-- The slot is not that of the head, or there is none. -/
theorem State.slot_passed (s : State) (r : Round) (hf : s.tx.inFlight = none)
    (h : ∀ e rest, s.tx.queue = e :: rest → r.next ≠ slotOf e.frame.urgency s.line.address) :
    s.slot r true = { s with line := { s.line with round := some { r with next := r.next + 1 } } } := by
  rw [State.slot, if_neg (by simp [hf])]
  dsimp only
  split
  · next e rest hq => rw [if_neg (h e rest hq)]
  · rfl

/-- The slot is that of the head: the conditions of R11 decide between a send and the giving up of the round. -/
theorem State.slot_own (s : State) (r : Round) (e : TxEntry) (rest : List TxEntry) (hf : s.tx.inFlight = none)
    (hq : s.tx.queue = e :: rest) (h : r.next = slotOf e.frame.urgency s.line.address) :
    s.slot r true = if s.maySend r.barred e then { s with
        tx := s.tx.launch (s.compose e.frame), line := { s.line with round := some { r with next := r.next + 1 } } }
      else { s with line := { s.line with round := some ⟨r.next + 1, true⟩ } } := by
  rw [State.slot, if_neg (by simp [hf])]
  simp only [hq, if_pos h]

/-- The conditions of R11. -/
theorem State.maySend_iff (s : State) (barred : Bool) (e : TxEntry) :
    s.maySend barred e = true ↔ barred = false ∧ s.line.rxQueue = [] ∧ s.handler.inHand = none ∧ IsBay s.line.address ∧
      (e.frame.urgency ≤ 1 ∨ s.line.spent = false) := by
  simp [State.maySend, and_assoc]

/-- Some condition of R11 fails. -/
theorem State.maySend_false (s : State) (barred : Bool) (e : TxEntry)
    (h : barred = true ∨ s.line.rxQueue ≠ [] ∨ s.handler.inHand ≠ none ∨ ¬ IsBay s.line.address ∨
      (2 ≤ e.frame.urgency ∧ s.line.spent = true)) : s.maySend barred e = false := by
  rw [← Bool.not_eq_true, State.maySend_iff]
  rintro ⟨hbar, hqueue, hhand, hbay, hspent⟩
  rcases h with h | h | h | h | ⟨hurgent, h⟩
  · rw [hbar] at h; cases h
  · exact h hqueue
  · exact h hhand
  · exact h hbay
  · rcases hspent with hspent | hspent
    · omega
    · rw [hspent] at h; cases h

/-! ### The bodies (02 R27 to R29) and the digest form (02 R28) -/

theorem State.claimBody_some (s : State) (x : Resource) (n : Need) (h : (s.demand.get x).need = some n) :
    s.bodyOf (.claim x) = [resourceCode x, nat8 n.amount, nat8 n.cls.rank] := by
  simp only [State.bodyOf, State.claimBody, h]

theorem State.tableBody_some (s : State) (asker : Nat) (x : Resource) (t : PerRes Section) (h : s.share.table = some t) :
    s.bodyOf (.syncTable asker x) = nat8 asker :: sectionBody x s.share.changeCount (t.get x) := by
  simp only [State.bodyOf, State.tableBody, h]

/-- The share table's two fields of an ANNOUNCE are 0 outside ACTIVE (02 R29). -/
theorem State.announceBody_eq (s : State) :
    s.bodyOf .announce =
      [nat8 (reasonCode s.mode.startReason * 16 + modeCode s.mode.mode), phaseCode s.keg.phase, progCode s.program.state] ++
        (if s.mode.mode = .active then bytes16 s.share.changeCount ++ bytes16 s.share.digest else [0, 0, 0, 0]) ++
        bytes16 s.mode.configDigest ++ [s.notice.summary] := by
  by_cases hm : s.mode.mode = .active
  · simp [State.bodyOf, State.announceBody, State.modeByte, State.active, hm]
  · have hzero : bytes16 0#16 = [0#8, 0#8] := by decide
    simp [State.bodyOf, State.announceBody, State.modeByte, State.active, hm, hzero]

theorem lowestBit_none (w : Word) (h : ∀ i, i < 15 → w.getLsbD i = false) : lowestBit w = 0 := by
  have hfind : (List.range 15).find? (fun i => w.getLsbD i) = none := by
    simpa using h
  simp only [lowestBit, hfind]

theorem lowestBit_some (w : Word) (i : Nat) (hi : i < 15) (h : w.getLsbD i = true)
    (hlow : ∀ j, j < i → w.getLsbD j = false) : lowestBit w = i + 1 := by
  have hfind : (List.range 15).find? (fun i => w.getLsbD i) = some i := by
    rw [List.find?_range_eq_some]
    exact ⟨h, List.mem_range.mpr hi, fun j hj => by simp [hlow j hj]⟩
  simp only [lowestBit, hfind]

/-- The digest form, resource by resource. -/
theorem digestForm_eq (t : PerRes Section) :
    digestForm t = [Resource.chill, .gas, .heat].flatMap (fun x => digestSection x (t.get x)) := by
  simp [digestForm, PerRes.get]

theorem Share.digest_some (sh : Share) (t : PerRes Section) (h : sh.table = some t) : sh.digest = check16 (digestForm t) := by
  simp only [Share.digest, h]

/-- Settles O19: the slot's three outcomes, then the bodies kind by kind. -/
theorem slotBeginSendsTheHead : Obligations.SlotBeginSendsTheHead := by
  refine ⟨fun s r hrun hround hnext => ?_, fun s => ?_⟩
  · have hexec := fun wireHigh => exec_slotBegin s r wireHigh hrun hround hnext
    simp only [hexec, Host.Outcome.next.injEq]
    refine ⟨s.slot_fell r false (.inl rfl), fun hf => s.slot_fell r true (.inr hf), fun hf hq => ?_,
      fun e rest hf hq => ⟨?_, ?_⟩⟩
    · exact s.slot_passed r hf fun e rest hcons => by rw [hq] at hcons; cases hcons
    · intro hother
      refine s.slot_passed r hf fun e' rest' hcons => ?_
      rw [hq] at hcons
      cases hcons
      exact hother
    · intro hown
      rw [s.slot_own r e rest hf hq hown]
      refine ⟨fun hmay => ?_, fun hfails => ?_⟩
      · rw [if_pos ((s.maySend_iff r.barred e).mpr hmay), Tx.launch_cons _ e rest _ hq]
        rfl
      · rw [s.maySend_false r.barred e hfails]
        rfl
  · intro code entry digested
    have hcode : code = resourceCode := by funext x; cases x <;> rfl
    rw [hcode]
    refine ⟨fun x => ⟨rfl, rfl, s.claimBody_some x, fun _ _ => rfl, fun asker t ht => ?_⟩, rfl, rfl, fun _ => rfl,
      ⟨s.notice.summary, s.announceBody_eq, rfl, fun hnone => ?_, fun i hi hset hlow => ?_⟩, fun t ht => ?_⟩
    · rw [s.tableBody_some asker x t ht]
      rfl
    · rw [Notice.summary, lowestBit_none _ hnone]
      rfl
    · rw [Notice.summary, lowestBit_some _ i hi hset hlow]
    · rw [Share.digest_some _ t ht, digestForm_eq]
      rfl

end Sys2Proof.Machine
end

section
/-! PROOFS. The frame in hand (02 R25, R26): the test a frame fails first, the frames that are handed to no block, and the roster
entry of a frame's sender. -/

namespace Sys2Proof.Machine

/-! ### The test of R25 a frame fails first -/

theorem classify_unknownKind (own : Nat) (e : RxEntry) (hk : kindOf e.kind = none) : classify own e = .unknownKind := by
  simp only [classify, hk]

theorem classify_badHeader (own : Nat) (e : RxEntry) (k : Kind) (hk : kindOf e.kind = some k)
    (h : e.urgency ≠ k.urgency ∨ e.sender = 0 ∨ 13 ≤ e.sender ∨ (e.sender = own ∧ e.own = false)) :
    classify own e = .badHeader := by
  simp only [classify, hk]
  by_cases hu : e.urgency = k.urgency
  · rw [if_neg (not_not.mpr hu), if_pos (h.resolve_left (not_not.mpr hu))]
  · rw [if_pos hu]

section
variable (own : Nat) (e : RxEntry) (k : Kind) (hk : kindOf e.kind = some k) (hu : e.urgency = k.urgency)
  (hs : ¬ (e.sender = 0 ∨ 13 ≤ e.sender ∨ (e.sender = own ∧ e.own = false)))
include hk hu hs

/-- Past the tests of the header, the tests of length and address are left. -/
theorem classify_headerOk :
    classify own e =
      if k.lengthOk e.body = false then .badLength
      else if k.addressOk e.body = false then .badAddress
      else dispatchClass own k e.body := by
  simp only [classify, hk]
  rw [if_neg (not_not.mpr hu), if_neg hs]

theorem classify_badLength (hl : k.lengthOk e.body = false) : classify own e = .badLength := by
  rw [classify_headerOk own e k hk hu hs, if_pos hl]

theorem classify_badAddress (hl : k.lengthOk e.body = true) (ha : k.addressOk e.body = false) :
    classify own e = .badAddress := by
  rw [classify_headerOk own e k hk hu hs, if_neg (by simp [hl]), if_pos ha]

end

/-! ### A frame that fails a test -/

/-- The frame in hand is finished with, its sender not handed to the roster and the handler's counts as given. -/
def State.discardHand (s : State) (h : Handler) : State :=
  { s with line := { s.line with rxQueue := s.line.rxQueue.tail }, handler := { h with inHand := s.line.rxQueue.head? } }

theorem State.popFrame_of_rejected (s : State) (e : RxEntry) (h : (classify s.line.address e).rejected = true) :
    s.popFrame e = s.discardHand s.handler := by
  simp only [State.popFrame, h, Bool.or_true, if_true]
  rfl

/-- The counts of R25 do not read or move the frame in hand. -/
theorem Handler.reject_inHand (h : Handler) (q : Option RxEntry) (c : FrameClass) :
    Handler.reject { h with inHand := q } c = { h.reject c with inHand := q } := by cases c <;> rfl

theorem exec_frameRejected (s : State) (e : RxEntry) (hrun : s.power = .running) (hhand : s.handler.inHand = some e)
    (hrej : (classify s.line.address e).rejected = true) :
    exec .frameRejected s = .next (s.discardHand (s.handler.reject (classify s.line.address e))).setSuspect := by
  change execFrameRejected s = _
  rw [execFrameRejected, whileRunning_on s _ hrun, takeFrame_some s _ _ e hhand hrej, s.popFrame_of_rejected e hrej]
  simp only [State.discardHand, Handler.reject_inHand]

/-- No way of acting on a setting of the mark touches the roster (05 R93, R96). -/
theorem State.setSuspect_roster (s : State) : s.setSuspect.mode.roster = s.mode.roster := by
  rw [State.setSuspect_eq]
  split_ifs <;> rfl

/-- A rejected frame is counted by its class, and the mark is set and acted on (02 R25). -/
theorem frameRejected_counts (s : State) (e : RxEntry) (c : FrameClass) (hrun : s.power = .running)
    (hhand : s.handler.inHand = some e) (hc : classify s.line.address e = c) (hrej : c.rejected = true) :
    let u := s.discardHand (s.handler.reject c)
    ∃ t, exec .frameRejected s = .next t ∧ t.handler = u.handler ∧ t.line = u.line ∧ t.mode.suspect = true ∧
      t.mode.roster = s.mode.roster ∧ SettingActedOn u t := by
  subst hc
  exact ⟨_, exec_frameRejected s e hrun hhand hrej, by simp, by simp, State.setSuspect_suspect _,
    State.setSuspect_roster _, State.setSuspect_actedOn _⟩

/-! ### The roster entry of a sender (05 R85) -/

/-- The entry of another station stands. -/
theorem rosterOf_refreshRoster_other (a b : Nat) (l : List RosterEntry) (h : b ≠ a) :
    rosterOf b (refreshRoster a l) = rosterOf b l := by
  induction l with
  | nil => simp [refreshRoster, rosterOf, RosterEntry.unreported, h.symm]
  | cons r rest ih =>
    simp only [rosterOf] at ih ⊢
    unfold refreshRoster
    split_ifs with hlt heq
    · simp [RosterEntry.unreported, h.symm]
    · simp [← heq, h.symm]
    · simp only [List.find?_cons, ih]

/-- A sender with no entry gains one. -/
theorem rosterOf_refreshRoster_new (a : Nat) (l : List RosterEntry) (h : rosterOf a l = none) :
    rosterOf a (refreshRoster a l) = some (RosterEntry.unreported a) := by
  induction l with
  | nil => simp [refreshRoster, rosterOf, RosterEntry.unreported]
  | cons r rest ih =>
    obtain ⟨hr, hrest⟩ : r.address ≠ a ∧ rosterOf a rest = none := by simpa [rosterOf] using h
    unfold refreshRoster
    split_ifs with hlt heq
    · simp [rosterOf, RosterEntry.unreported]
    · exact absurd heq.symm hr
    · simpa [rosterOf, hr] using ih hrest

/-- In a roster by ascending address, the entry of a sender has its silence age returned to 0. -/
theorem rosterOf_refreshRoster_known (a : Nat) (l : List RosterEntry) (r : RosterEntry)
    (hl : (l.map RosterEntry.address).Pairwise (· < ·)) (h : rosterOf a l = some r) :
    rosterOf a (refreshRoster a l) = some { r with silence := 0 } := by
  induction l with
  | nil => cases h
  | cons q rest ih =>
    rw [List.map_cons, List.pairwise_cons] at hl
    obtain ⟨hfirst, hrest⟩ := hl
    by_cases heq : q.address = a
    · obtain rfl : q = r := by simpa [rosterOf, heq] using h
      simp [refreshRoster, rosterOf, heq]
    · have hfind : rosterOf a rest = some r := by simpa [rosterOf, heq] using h
      have hmem : a ∈ rest.map RosterEntry.address :=
        List.mem_map.mpr ⟨r, List.mem_of_find?_eq_some hfind, by simpa using List.find?_some hfind⟩
      have hlater : q.address < a := hfirst a hmem
      rw [refreshRoster, if_neg (by omega), if_neg (by omega)]
      simpa [rosterOf, heq] using ih hrest hfind

theorem rosterLaw_ascending (s : State) (h : rosterLaw s = true) :
    (s.mode.roster.map RosterEntry.address).Pairwise (· < ·) := by
  obtain ⟨-, hasc⟩ := Bool.and_eq_true_iff.mp h
  exact of_decide_eq_true hasc

/-! ### A frame that is handed to no block -/

section
variable (s : State) (e : RxEntry)

theorem classify_notice (h : FrameInHand s e 0x3A 2) (hl : e.body.length = 3) : classify s.line.address e = .noBlock := by
  obtain ⟨-, -, hkind, hurgency, hlow, hhigh, hsender⟩ := h
  exact classify_of _ e .notice hkind hurgency hlow hhigh hsender (beq_iff_eq.mpr hl) rfl

theorem classify_answer (d : Byte) (rest : List Byte) (h : FrameInHand s e 0x32 1) (hb : e.body = d :: rest)
    (hl : 3 ≤ e.body.length ∧ e.body.length ≤ 27) (hd : 1 ≤ d.toNat ∧ d.toNat ≤ 12) :
    classify s.line.address e = .noBlock := by
  obtain ⟨-, -, hkind, hurgency, hlow, hhigh, hsender⟩ := h
  refine classify_of _ e .answer hkind hurgency hlow hhigh hsender (decide_eq_true hl) ?_
  rw [hb]
  exact decide_eq_true hd

/-- An ORDER for another station. -/
theorem classify_order_elsewhere (d : Byte) (rest : List Byte) (h : FrameInHand s e 0x31 2) (hb : e.body = d :: rest)
    (hl : 2 ≤ e.body.length ∧ e.body.length ≤ 18) (hd : 1 ≤ d.toNat ∧ d.toNat ≤ 12) (hother : d.toNat ≠ s.line.address) :
    classify s.line.address e = .noBlock := by
  obtain ⟨-, -, hkind, hurgency, hlow, hhigh, hsender⟩ := h
  rw [classify_of _ e .order hkind hurgency hlow hhigh hsender (decide_eq_true hl) (by rw [hb]; exact decide_eq_true hd), hb]
  cases rest with
  | nil => rfl
  | cons c args => simp only [dispatchClass, if_neg hother]

/-- A frame handed to no block, its sender's entry refreshed. -/
theorem exec_frameNoBlock {kind : Byte} {urgency : Nat} (h : FrameInHand s e kind urgency) (hown : e.own = false)
    (hc : classify s.line.address e = .noBlock) :
    exec .frameNoBlock s = .next { s.discardHand s.handler with
      mode := { s.mode with roster := refreshRoster e.sender s.mode.roster } } := by
  obtain ⟨hrun, hhand, -⟩ := h
  change execFrameNoBlock s = _
  rw [execFrameNoBlock, whileRunning_on s _ hrun, takeFrame_some s _ _ e hhand (by rw [hc]; rfl)]
  simp only [State.popFrame, hown, hc, FrameClass.rejected, Bool.or_self, Bool.false_eq_true, if_false]
  rfl

end

/-- Settles O22: a rejected frame by the test it fails first, an unhanded one by its kind and its sender's roster entry. -/
theorem framesNoBlockTakes : Obligations.FramesNoBlockTakes := by
  refine ⟨fun s e hrun hhand => ?_, fun s e d rest hlaw hown _ hother hlow hhigh hframe => ?_⟩
  · have hcounted := fun c => frameRejected_counts s e c hrun hhand
    exact ⟨fun hk => hcounted .unknownKind (classify_unknownKind _ e hk) rfl,
      fun k hk hhead => hcounted .badHeader (classify_badHeader _ e k hk hhead) rfl,
      fun k hk hu hs hl => hcounted .badLength (classify_badLength _ e k hk hu hs hl) rfl,
      fun k hk hu hs hl ha => hcounted .badAddress (classify_badAddress _ e k hk hu hs hl ha) rfl⟩
  · have hexec : exec .frameNoBlock s = .next { s.discardHand s.handler with
        mode := { s.mode with roster := refreshRoster e.sender s.mode.roster } } := by
      rcases hframe with ⟨hf, hl⟩ | ⟨hf, hb, hl⟩ | ⟨hf, hb, hl⟩
      · exact exec_frameNoBlock s e hf hown (classify_notice s e hf hl)
      · exact exec_frameNoBlock s e hf hown (classify_answer s e d rest hf hb hl ⟨hlow, hhigh⟩)
      · exact exec_frameNoBlock s e hf hown (classify_order_elsewhere s e d rest hf hb hl ⟨hlow, hhigh⟩ hother)
    exact ⟨_, hexec, rfl, fun r hr => rosterOf_refreshRoster_known _ _ r (rosterLaw_ascending s hlaw) hr,
      fun hnone => rosterOf_refreshRoster_new _ _ hnone, fun a ha => rosterOf_refreshRoster_other _ a _ ha⟩

end Sys2Proof.Machine
end

section
/-! PROOFS. One section of the share table (03 R36, R42 to R53): promotion, the claims and their victims, and the laws of a LIVE
section through every share frame. -/

namespace Sys2Proof.Machine

/-! ### Promotion (03 R49) -/

/-- What promotion does to the two lists: a first part of the queue joins the grants, each fitting behind those before it, and the
head that is left does not fit. -/
theorem promoteLists_spec (pool : Nat) (grants waits : List Entry) :
    ∃ k, promoteLists pool grants waits = (grants ++ waits.take k, waits.drop k) ∧
      (∀ j, j < k → ∀ w, waits[j]? = some w → granted (grants ++ waits.take j) + w.amount ≤ pool) ∧
      (∀ w, (waits.drop k).head? = some w → pool < granted (grants ++ waits.take k) + w.amount) := by
  induction waits generalizing grants with
  | nil => exact ⟨0, by simp [promoteLists], by simp, by simp⟩
  | cons v vs ih =>
    unfold promoteLists
    split_ifs with hfits
    · obtain ⟨k, hlists, hgranted, hhead⟩ := ih (grants ++ [v])
      simp only [List.append_assoc, List.singleton_append] at hlists hgranted hhead
      refine ⟨k + 1, hlists, fun j hj w hw => ?_, hhead⟩
      cases j with
      | zero =>
        obtain rfl : v = w := by simpa using hw
        simpa using hfits
      | succ j => exact hgranted j (by omega) w (by simpa using hw)
    · refine ⟨0, by simp, fun j hj => absurd hj (Nat.not_lt_zero j), fun w hw => ?_⟩
      obtain rfl : v = w := by simpa using hw
      simpa using hfits

/-- The same of a section. -/
theorem promote_spec (pool : Nat) (sec : Section) :
    ∃ k, (promote pool sec).grants = sec.grants ++ sec.waits.take k ∧ (promote pool sec).waits = sec.waits.drop k ∧
      (promote pool sec).live = sec.live ∧
      (∀ j, j < k → ∀ w, sec.waits[j]? = some w → granted (sec.grants ++ sec.waits.take j) + w.amount ≤ pool) ∧
      (∀ w, (promote pool sec).waits.head? = some w → pool < granted (promote pool sec).grants + w.amount) := by
  obtain ⟨k, hlists, hgranted, hhead⟩ := promoteLists_spec pool sec.grants sec.waits
  refine ⟨k, by simp only [promote, hlists], by simp only [promote, hlists], rfl, hgranted, ?_⟩
  simpa only [promote, hlists] using hhead

/-- Promotion moves the boundary between the two lists alone. -/
theorem promote_entries (pool : Nat) (sec : Section) :
    (promote pool sec).grants ++ (promote pool sec).waits = sec.grants ++ sec.waits := by
  obtain ⟨k, hgrants, hwaits, -⟩ := promote_spec pool sec
  rw [hgrants, hwaits, List.append_assoc, List.take_append_drop]

theorem promote_headWaits (pool : Nat) (sec : Section) : headWaits pool (promote pool sec) = true := by
  obtain ⟨k, -, -, -, -, hhead⟩ := promote_spec pool sec
  unfold headWaits
  split
  · rfl
  · next w ws hw => exact decide_eq_true (hhead w (by rw [hw]; rfl))

theorem promoteLists_granted (pool : Nat) (grants waits : List Entry) (h : granted grants ≤ pool) :
    granted (promoteLists pool grants waits).1 ≤ pool := by
  induction waits generalizing grants with
  | nil => exact h
  | cons w ws ih =>
    unfold promoteLists
    split_ifs with hfits
    · exact ih _ (by simpa [granted_append, granted] using hfits)
    · exact h

/-! ### Victims (03 R44) -/

/-- A waiter of equal or better rank is what makes a class ineligible. -/
theorem eligible_eq (waits : List Entry) (c : Cls) :
    eligible waits c = !waits.any (fun w => decide (w.cls.rank ≤ c.rank)) := by
  simp [eligible, List.not_any_eq_all_not, ← decide_not]

/-- The candidates, with the rank 0 that no class is worse than. -/
theorem candidates_eq (grants : List Entry) (c : Cls) :
    candidates grants c =
      [5, 4, 3, 2, 1, 0].flatMap (fun rank =>
        (grants.filter (fun g => decide (g.cls.rank = rank ∧ c.rank < rank))).reverse) := by
  simp [candidates, Bool.beq_eq_decide_eq]

theorem mem_candidates {grants : List Entry} {c : Cls} {g : Entry} (h : g ∈ candidates grants c) : g ∈ grants := by
  simp only [candidates, List.mem_flatMap, List.mem_filter, List.mem_reverse] at h
  obtain ⟨_, _, hmem, _⟩ := h
  exact hmem

theorem candidates_nodup {grants : List Entry} (c : Cls) (h : grants.Nodup) : (candidates grants c).Nodup := by
  refine List.nodup_flatMap.mpr ⟨fun r _ => (List.nodup_reverse.mpr h).filter _, ?_⟩
  refine List.Pairwise.imp (R := (· ≠ ·)) (fun {a b} hab e ha hb => ?_) (by decide)
  simp only [List.mem_filter, Bool.and_eq_true, beq_iff_eq] at ha hb
  exact hab (ha.2.1.symm.trans hb.2.1)

/-- No fewer victims would have done. -/
theorem takeVictims_least (amount available : Nat) (l victims : List Entry)
    (h : takeVictims amount available l = some victims) (j : Nat) (hj : j < victims.length) :
    available + granted (victims.take j) < amount := by
  induction l generalizing available victims j with
  | nil =>
    unfold takeVictims at h
    split_ifs at h
    simp_all
  | cons e es ih =>
    unfold takeVictims at h
    split_ifs at h with hle
    · simp_all
    · obtain ⟨vs, hvs, rfl⟩ := Option.map_eq_some_iff.mp h
      cases j with
      | zero => simpa [granted] using hle
      | succ j =>
        have hrest := ih _ vs hvs j (by simpa using hj)
        rw [List.take_succ_cons, granted_cons]
        omega

/-- Where all candidates together would free the amount, the victims are the fewest of the first that do. -/
theorem takeVictims_fewest (amount available : Nat) (l : List Entry) (h : amount ≤ available + granted l) :
    ∃ k, k ≤ l.length ∧ takeVictims amount available l = some (l.take k) ∧ amount ≤ available + granted (l.take k) ∧
      ∀ j, j < k → available + granted (l.take j) < amount := by
  obtain ⟨victims, hv⟩ : ∃ victims, takeVictims amount available l = some victims := by
    refine Option.ne_none_iff_exists'.mp fun hnone => ?_
    have := (takeVictims_none amount available l).mp hnone
    omega
  have hprefix := takeVictims_prefix _ _ _ _ hv
  have hlen : victims.length ≤ l.length := by rw [hprefix]; simp
  refine ⟨victims.length, hlen, hprefix ▸ hv, hprefix ▸ takeVictims_frees _ _ _ _ hv, fun j hj => ?_⟩
  have hleast := takeVictims_least _ _ _ _ hv j hj
  rwa [hprefix, List.take_take, min_eq_left hj.le] at hleast

theorem withoutVictims_nil (grants : List Entry) : withoutVictims [] grants = grants := by simp [withoutVictims]

theorem placeVictims_nil (waits : List Entry) : placeVictims [] waits = waits := rfl

/-- Victims are placed each ahead of the waiters of its own rank. -/
theorem placeVictims_eq (victims waits : List Entry) :
    placeVictims victims waits = victims.foldl (fun ws v =>
      ws.takeWhile (fun w => decide (w.cls.rank < v.cls.rank)) ++
        v :: ws.dropWhile (fun w => decide (w.cls.rank < v.cls.rank))) waits := by
  simp only [placeVictims, insertByBump_eq]

/-! ### An entry placed (03 R43 to R45) -/

section
variable (pool : Nat) (sec : Section) (e : Entry)

theorem place_barred (h : eligible sec.waits e.cls = false) :
    place pool sec e = { sec with waits := insertByClaim e sec.waits } := by
  simp [place, h]

theorem place_bumping (victims : List Entry) (h : eligible sec.waits e.cls = true)
    (hv : takeVictims e.amount (freeOf pool sec) (candidates sec.grants e.cls) = some victims) :
    place pool sec e =
      { sec with grants := withoutVictims victims sec.grants ++ [e], waits := placeVictims victims sec.waits } := by
  simp [place, h, hv]

theorem place_fitting (h : eligible sec.waits e.cls = true) (hfree : e.amount ≤ freeOf pool sec) :
    place pool sec e = { sec with grants := sec.grants ++ [e] } := by
  rw [place_bumping pool sec e [] h (takeVictims_enough _ _ _ hfree), withoutVictims_nil, placeVictims_nil]

theorem place_unfitting (h : eligible sec.waits e.cls = true)
    (hfree : freeOf pool sec + granted (candidates sec.grants e.cls) < e.amount) :
    place pool sec e = { sec with waits := insertByClaim e sec.waits } := by
  simp [place, h, (takeVictims_none _ _ _).mpr hfree]

end

/-- A claim by a bay with no grant places its entry, the count and the report being those of a fresh claim or of one in place of
a wait. -/
theorem claimIn_ungranted (pool : Nat) (sec : Section) (bay amount : Nat) (c : Cls) (h : findBay bay sec.grants = none) :
    claimIn pool sec bay amount c =
      match findBay bay sec.waits with
      | some old => waitReplacement pool sec old bay amount c
      | none => freshClaim pool sec bay amount c := by
  unfold claimIn
  rw [h]
  cases findBay bay sec.waits <;> rfl

/-- A replacement draws FREED where the bay's entry ends GRANTED, or WAITING at a worse rank. -/
theorem replacementFrees_standingIn (old : Entry) (bay : Nat) (sec : Section) :
    replacementFrees old (standingIn bay sec) =
      match some old, findBay bay sec.grants, findBay bay sec.waits with
      | none, _, _ => false
      | some _, some _, _ => true
      | some w, none, some v => decide (w.cls.rank < v.cls.rank)
      | some _, none, none => false := by
  unfold standingIn
  cases findBay bay sec.grants <;> cases findBay bay sec.waits <;> rfl

/-- Settles O30: the entry is placed in the section the bay has no entry in, by the four cases of `place`. -/
theorem freshClaimOutcomes : Obligations.FreshClaimOutcomes := by
  intro pool sec0 bay amount c hnone old sec count new effect outcome free barred placed worse
  have hworse : candidates sec.grants c = worse := candidates_eq _ _
  have helig : eligible sec.waits new.cls = !barred := eligible_eq _ _
  have hplaced : insertByClaim new sec.waits = placed := insertByClaim_eq _ _
  have heffect : effect.changed = true ∧ effect.refused = false ∧
      effect.lease = (if old.isSome then .renewed bay count else .created bay) ∧
      effect.freed = (match old, findBay bay outcome.grants, findBay bay outcome.waits with
        | none, _, _ => false
        | some _, some _, _ => true
        | some w, none, some v => decide (w.cls.rank < v.cls.rank)
        | some _, none, none => false) ∧
      outcome = promote pool (place pool sec new) := by
    have hclaim := claimIn_ungranted pool sec0 bay amount c hnone
    rcases hold : findBay bay sec0.waits with _ | w
    · rw [hold] at hclaim
      have hsec : sec = sec0 := by simp only [sec, old, hold]; rfl
      simp only [effect, outcome, new, count, hclaim, old, hold, hsec, freshClaim]
      simp
    · rw [hold] at hclaim
      have hsec : sec = { sec0 with waits := dropBay bay sec0.waits } := by simp only [sec, old, hold]; rfl
      simp only [effect, outcome, new, count, hclaim, old, hold, hsec, waitReplacement,
        replacementFrees_standingIn]
      simp
  obtain ⟨hchanged, hrefused, hlease, hfreed, houtcome⟩ := heffect
  refine ⟨hchanged, hrefused, hlease, hfreed, fun hb => ?_, fun hb hfit => ?_, fun hb _ hlack => ?_, fun hb _ hmake => ?_⟩
  · rw [houtcome, place_barred pool sec new (by rw [helig, hb]; rfl), hplaced]
  · rw [houtcome, place_fitting pool sec new (by rw [helig, hb]; rfl) hfit]
  · rw [houtcome, place_unfitting pool sec new (by rw [helig, hb]; rfl) (by rw [hworse]; exact hlack), hplaced]
  · obtain ⟨k, hk, htake, henough, hleast⟩ := takeVictims_fewest amount (freeOf pool sec) worse hmake
    refine ⟨k, hk, henough, hleast, ?_⟩
    rw [houtcome, place_bumping pool sec new (worse.take k) (by rw [helig, hb]; rfl) (by rw [hworse]; exact htake),
      placeVictims_eq]
    rfl

/-! ### A change of a grant (03 R47, R48) -/

/-- A claim by a bay with a grant. -/
theorem claimIn_granted (pool : Nat) (sec : Section) (old : Entry) (bay amount : Nat) (c : Cls)
    (h : findBay bay sec.grants = some old) : claimIn pool sec bay amount c = changeClaim pool sec old bay amount c := by
  unfold claimIn
  rw [h]

section
variable (pool : Nat) (sec : Section) (old : Entry) (bay amount : Nat) (c : Cls)

theorem changeClaim_barred (h : eligible sec.waits c = false) :
    changeClaim pool sec old bay amount c = ⟨sec, false, .unaffected, false, true⟩ := by
  simp [changeClaim, h, Effect.none]

theorem changeClaim_unfitting
    (h : takeVictims amount (freeOf pool sec + old.amount) (candidates (dropBay bay sec.grants) c) = none) :
    changeClaim pool sec old bay amount c = ⟨sec, false, .unaffected, false, true⟩ := by
  simp [changeClaim, h, Effect.none]

theorem changeClaim_fitting (victims : List Entry) (h : eligible sec.waits c = true)
    (hv : takeVictims amount (freeOf pool sec + old.amount) (candidates (dropBay bay sec.grants) c) = some victims) :
    changeClaim pool sec old bay amount c =
      ⟨promote pool { sec with
          grants := (withoutVictims victims sec.grants).map
            (fun g => if g.bay = bay then ⟨bay, amount, c, old.renewCount + 1⟩ else g)
          waits := placeVictims victims sec.waits },
        true, .renewed bay (old.renewCount + 1), decide (amount < old.amount), false⟩ := by
  simp [changeClaim, h, hv]

end

/-- Settles O31: a change is barred, lacks the room, or fits after the fewest victims, none where the room is there. -/
theorem changeClaimFailsOrKeepsItsPlace : Obligations.ChangeClaimFailsOrKeepsItsPlace := by
  intro pool sec old bay amount c hold available barred new worse
  have hworse : candidates (dropBay bay sec.grants) c = worse := by
    rw [candidates_eq, dropBay]
    simp only [List.filter_filter, worse]
    congr! 5 with rank g
    simp [Bool.and_comm, bne, Bool.beq_eq_decide_eq, ← Bool.and_assoc]
  have helig : eligible sec.waits c = !barred := eligible_eq _ _
  rw [claimIn_granted pool sec old bay amount c hold]
  refine ⟨fun hfail => ?_, fun hb hfit => ?_, fun hb _ hmake => ?_⟩
  · rcases hfail with hb | hlack
    · exact changeClaim_barred pool sec old bay amount c (by rw [helig, hb]; rfl)
    · refine changeClaim_unfitting pool sec old bay amount c ?_
      rw [hworse]
      exact (takeVictims_none _ _ _).mpr hlack
  · rw [changeClaim_fitting pool sec old bay amount c [] (by rw [helig, hb]; rfl) (takeVictims_enough _ _ _ hfit),
      withoutVictims_nil, placeVictims_nil]
  · obtain ⟨k, hk, htake, henough, hleast⟩ := takeVictims_fewest amount available worse hmake
    refine ⟨k, hk, henough, hleast, ?_⟩
    rw [changeClaim_fitting pool sec old bay amount c (worse.take k) (by rw [helig, hb]; rfl) (by rw [hworse]; exact htake),
      placeVictims_eq]
    rfl

end Sys2Proof.Machine
end

section
/-! PROOFS. The laws of a LIVE section (03 R36, R38, R49) through every share frame. -/

namespace Sys2Proof.Machine

/-! ### The entries of a section (03 R38, R42) -/

/-- An entry names a bay, an amount of the pool and a class of the resource. -/
def EntryFits (cfg : WorkingCopy) (x : Resource) (e : Entry) : Prop :=
  IsBay e.bay ∧ 1 ≤ e.amount ∧ e.amount ≤ poolOf cfg x ∧ e.cls.belongs x = true

/-- Every entry fits, and no bay appears twice. -/
def EntriesFit (cfg : WorkingCopy) (x : Resource) (l : List Entry) : Prop :=
  (∀ e ∈ l, EntryFits cfg x e) ∧ (l.map Entry.bay).Nodup

/-- The laws of a LIVE section but for the head that does not fit, which promotion brings about. -/
structure SectionFits (cfg : WorkingCopy) (x : Resource) (sec : Section) : Prop where
  live    : sec.live = true
  entries : EntriesFit cfg x (sec.grants ++ sec.waits)
  pool    : granted sec.grants ≤ poolOf cfg x
  ranked  : (sec.waits.map (fun e => e.cls.rank)).Pairwise (· ≤ ·)

theorem sectionLaw_iff {cfg : WorkingCopy} {x : Resource} {sec : Section} (h : sec.live = true) :
    sectionLaw cfg x sec = true ↔ SectionFits cfg x sec ∧ headWaits (poolOf cfg x) sec = true := by
  have hentries : (entriesOk (poolOf cfg x) x sec = true ∧ baysOk sec = true) ↔ EntriesFit cfg x (sec.grants ++ sec.waits) := by
    simp only [entriesOk, baysOk, EntriesFit, EntryFits, Bool.and_eq_true, List.all_eq_true, decide_eq_true_eq]
    constructor
    · rintro ⟨⟨hall, hnodup⟩, hbays⟩
      exact ⟨fun e he => ⟨hbays e he, (hall e he).1.1, (hall e he).1.2, (hall e he).2⟩, hnodup⟩
    · rintro ⟨hall, hnodup⟩
      exact ⟨⟨fun e he => let ⟨_, h1, h2, h3⟩ := hall e he; ⟨⟨h1, h2⟩, h3⟩, hnodup⟩, fun e he => (hall e he).1⟩
  simp only [sectionLaw, h, if_true, sectionOk, Bool.and_eq_true, rankOrdered_iff, decide_eq_true_eq]
  constructor
  · rintro ⟨⟨⟨⟨hok, hpool⟩, hranked⟩, hhead⟩, hbays⟩
    exact ⟨⟨h, hentries.mp ⟨hok, hbays⟩, hpool, hranked⟩, hhead⟩
  · rintro ⟨⟨-, hfit, hpool, hranked⟩, hhead⟩
    obtain ⟨hok, hbays⟩ := hentries.mpr hfit
    exact ⟨⟨⟨⟨hok, hpool⟩, hranked⟩, hhead⟩, hbays⟩

section
variable {cfg : WorkingCopy} {x : Resource} {l m : List Entry}

theorem EntriesFit.perm (h : EntriesFit cfg x l) (hp : m.Perm l) : EntriesFit cfg x m :=
  ⟨fun e he => h.1 e (hp.mem_iff.mp he), (hp.map Entry.bay).nodup_iff.mpr h.2⟩

theorem EntriesFit.sublist (h : EntriesFit cfg x l) (hs : m.Sublist l) : EntriesFit cfg x m :=
  ⟨fun e he => h.1 e (hs.subset he), h.2.sublist (hs.map Entry.bay)⟩

theorem EntriesFit.cons {e : Entry} (h : EntriesFit cfg x l) (he : EntryFits cfg x e) (hnew : ∀ g ∈ l, g.bay ≠ e.bay) :
    EntriesFit cfg x (e :: l) :=
  ⟨List.forall_mem_cons.mpr ⟨he, h.1⟩, List.nodup_cons.mpr ⟨by simpa using hnew, h.2⟩⟩

/-- Entries rewritten each in its place, the bays as they were. -/
theorem EntriesFit.map {f : Entry → Entry} (h : EntriesFit cfg x l) (hbay : ∀ e, (f e).bay = e.bay)
    (hf : ∀ e ∈ l, EntryFits cfg x (f e)) : EntriesFit cfg x (l.map f) :=
  ⟨List.forall_mem_map.mpr hf, by simpa [Function.comp_def, hbay] using h.2⟩

theorem EntriesFit.nodup (h : EntriesFit cfg x l) : l.Nodup := h.2.of_map

/-- A bay names one entry. -/
theorem EntriesFit.bay_inj (h : EntriesFit cfg x l) {a b : Entry} (ha : a ∈ l) (hb : b ∈ l) (hbay : a.bay = b.bay) : a = b :=
  List.inj_on_of_nodup_map h.2 ha hb hbay

end

/-! ### Sorted lists of waiters (03 R36) -/

theorem insert_ranked (p : Entry → Bool) (e : Entry) (l : List Entry)
    (hbefore : ∀ w, p w = true → w.cls.rank ≤ e.cls.rank) (hafter : ∀ w, p w = false → e.cls.rank ≤ w.cls.rank)
    (h : (l.map (fun e => e.cls.rank)).Pairwise (· ≤ ·)) :
    ((l.takeWhile p ++ e :: l.dropWhile p).map (fun e => e.cls.rank)).Pairwise (· ≤ ·) := by
  induction l with
  | nil => simp
  | cons w ws ih =>
    obtain ⟨hw, hws⟩ := List.pairwise_cons.mp h
    cases hp : p w with
    | true =>
      simp only [List.takeWhile_cons, List.dropWhile_cons, hp, if_true, List.cons_append, List.map_cons]
      refine List.pairwise_cons.mpr ⟨fun r hr => ?_, ih hws⟩
      have hmem : r = e.cls.rank ∨ r ∈ ws.map (fun e => e.cls.rank) := by
        rw [← List.takeWhile_append_dropWhile (p := p) (l := ws)]
        simp only [List.map_append, List.map_cons, List.mem_append, List.mem_cons] at hr ⊢
        tauto
      rcases hmem with rfl | hr
      · exact hbefore w hp
      · exact hw r hr
    | false =>
      simp only [List.takeWhile_cons, List.dropWhile_cons, hp, Bool.false_eq_true, if_false, List.nil_append, List.map_cons]
      refine List.pairwise_cons.mpr ⟨fun r hr => ?_, h⟩
      rcases List.mem_cons.mp hr with rfl | hr
      · exact hafter w hp
      · exact (hafter w hp).trans (hw r hr)

theorem insertByClaim_ranked (e : Entry) (l : List Entry) (h : (l.map (fun e => e.cls.rank)).Pairwise (· ≤ ·)) :
    ((insertByClaim e l).map (fun e => e.cls.rank)).Pairwise (· ≤ ·) := by
  rw [insertByClaim_eq]
  exact insert_ranked _ e l (by simp) (fun w hw => by simp at hw; omega) h

theorem insertByBump_ranked (e : Entry) (l : List Entry) (h : (l.map (fun e => e.cls.rank)).Pairwise (· ≤ ·)) :
    ((insertByBump e l).map (fun e => e.cls.rank)).Pairwise (· ≤ ·) := by
  rw [insertByBump_eq]
  exact insert_ranked _ e l (fun w hw => by simp at hw; omega) (by simp) h

theorem placeVictims_ranked (victims waits : List Entry) (h : (waits.map (fun e => e.cls.rank)).Pairwise (· ≤ ·)) :
    ((placeVictims victims waits).map (fun e => e.cls.rank)).Pairwise (· ≤ ·) := by
  induction victims generalizing waits with
  | nil => exact h
  | cons v vs ih => exact ih _ (insertByBump_ranked v waits h)

/-! ### Entries rewritten in their places (03 R47, R50) -/

/-- Raising a renew count moves nothing that does not read it. -/
theorem renewBay_map {α : Type} (bay : Nat) (f : Entry → α) (hf : ∀ e n, f { e with renewCount := n } = f e) (l : List Entry) :
    (renewBay bay l).map f = l.map f := by
  rw [renewBay, List.map_map]
  refine List.map_congr_left fun e _ => ?_
  dsimp only [Function.comp_apply]
  split_ifs
  · exact hf e _
  · rfl

/-- A list with a bay's entry given up for another in its place, as a change that fits leaves the grants. -/
def replaceBay (bay : Nat) (new : Entry) (l : List Entry) : List Entry := l.map (fun g => if g.bay = bay then new else g)

theorem replaceBay_of_absent (bay : Nat) (new : Entry) (l : List Entry) (h : ∀ g ∈ l, g.bay ≠ bay) : replaceBay bay new l = l :=
  (List.map_congr_left fun g hg => if_neg (h g hg)).trans (List.map_id' l)

/-- A replacement moves the sum of amounts by the two entries' difference. -/
theorem replaceBay_granted {bay : Nat} {old new : Entry} {l : List Entry} (hnodup : (l.map Entry.bay).Nodup) (hold : old ∈ l)
    (hbay : old.bay = bay) : granted (replaceBay bay new l) + old.amount = granted l + new.amount := by
  obtain ⟨a, b, rfl⟩ := List.append_of_mem hold
  simp only [List.map_append, List.map_cons, List.nodup_append, List.nodup_cons, List.mem_map, List.mem_cons] at hnodup
  obtain ⟨-, ⟨hb, -⟩, ha⟩ := hnodup
  have habsent : replaceBay bay new a = a ∧ replaceBay bay new b = b :=
    ⟨replaceBay_of_absent bay new a fun g hg hgb => ha _ ⟨g, hg, rfl⟩ _ (.inl rfl) (hgb.trans hbay.symm),
      replaceBay_of_absent bay new b fun g hg hgb => hb ⟨g, hg, hgb.trans hbay.symm⟩⟩
  have hsplit : replaceBay bay new (a ++ old :: b) = a ++ new :: b := by
    conv_rhs => rw [← habsent.1, ← habsent.2]
    simp [replaceBay, hbay]
  rw [hsplit]
  simp only [granted_append, granted_cons]
  omega

/-! ### The section before promotion, frame by frame -/

section
variable {cfg : WorkingCopy} {x : Resource} {sec : Section}

/-- Promotion completes the laws. -/
theorem SectionFits.promoted (h : SectionFits cfg x sec) :
    (promote (poolOf cfg x) sec).live = true ∧ sectionLaw cfg x (promote (poolOf cfg x) sec) = true := by
  obtain ⟨k, -, hwaits, -⟩ := promote_spec (poolOf cfg x) sec
  refine ⟨h.live, ?_⟩
  refine (sectionLaw_iff (sec := promote (poolOf cfg x) sec) h.live).mpr
    ⟨⟨h.live, ?_, promoteLists_granted _ _ _ h.pool, ?_⟩, promote_headWaits _ _⟩
  · rw [promote_entries]
    exact h.entries
  · rw [hwaits]
    exact h.ranked.sublist ((List.drop_sublist k _).map _)

/-- A section that lost entries. -/
theorem SectionFits.shrunk {sec' : Section} (h : SectionFits cfg x sec) (hlive : sec'.live = sec.live)
    (hg : sec'.grants.Sublist sec.grants) (hw : sec'.waits.Sublist sec.waits) : SectionFits cfg x sec' :=
  ⟨hlive.trans h.live, h.entries.sublist (hg.append hw), ((hg.map Entry.amount).sum_le_sum (by simp)).trans h.pool,
    h.ranked.sublist (hw.map _)⟩

theorem SectionFits.dropped (h : SectionFits cfg x sec) (bay : Nat) :
    SectionFits cfg x { sec with grants := dropBay bay sec.grants, waits := dropBay bay sec.waits } :=
  h.shrunk rfl List.filter_sublist List.filter_sublist

theorem SectionFits.renewed (h : SectionFits cfg x sec) (bay : Nat) :
    SectionFits cfg x { sec with grants := renewBay bay sec.grants, waits := renewBay bay sec.waits } := by
  refine ⟨h.live, ?_, ?_, ?_⟩
  · simp only [renewBay, ← List.map_append]
    refine h.entries.map (fun e => by split_ifs <;> rfl) fun e he => ?_
    split_ifs <;> exact h.entries.1 e he
  · have hsum : granted (renewBay bay sec.grants) = granted sec.grants :=
      congrArg List.sum (renewBay_map bay Entry.amount (fun _ _ => rfl) sec.grants)
    exact hsum ▸ h.pool
  · rw [renewBay_map bay (fun e => e.cls.rank) fun _ _ => rfl]
    exact h.ranked

/-- An entry that waits by claim. -/
theorem SectionFits.waiting {e : Entry} (h : SectionFits cfg x sec) (he : EntryFits cfg x e)
    (hnew : ∀ g ∈ sec.grants ++ sec.waits, g.bay ≠ e.bay) :
    SectionFits cfg x { sec with waits := insertByClaim e sec.waits } := by
  refine ⟨h.live, ?_, h.pool, insertByClaim_ranked e _ h.ranked⟩
  refine (h.entries.cons he hnew).perm ?_
  exact ((insertByClaim_perm e sec.waits).append_left _).trans List.perm_middle

/-- The victims and the grants that remain are the grants there were. -/
theorem withoutVictims_perm {l victims : List Entry} (h : EntriesFit cfg x l) (hnodup : victims.Nodup)
    (hmem : ∀ v ∈ victims, v ∈ l) : (victims ++ withoutVictims victims l).Perm l := by
  have hvictims : victims.Perm (l.filter (fun g => victims.any (fun v => v.bay == g.bay))) := by
    refine (List.perm_ext_iff_of_nodup hnodup (h.nodup.filter _)).mpr fun g => ?_
    simp only [List.mem_filter, List.any_eq_true, beq_iff_eq]
    constructor
    · exact fun hg => ⟨hmem g hg, g, hg, rfl⟩
    · rintro ⟨hg, v, hv, hbay⟩
      exact h.bay_inj (hmem v hv) hg hbay ▸ hv
  exact (hvictims.append_right _).trans (List.filter_append_perm _ l)

/-- The grants once some of them have been bumped. -/
theorem SectionFits.bumped {l victims : List Entry} {c : Cls} {amount available : Nat} (h : SectionFits cfg x sec)
    (hl : l.Sublist sec.grants) (hv : takeVictims amount available (candidates l c) = some victims) :
    (victims ++ withoutVictims victims sec.grants).Perm sec.grants ∧ ∀ v ∈ victims, v ∈ l := by
  have hgrants := h.entries.sublist (List.sublist_append_left sec.grants sec.waits)
  have htake := takeVictims_prefix _ _ _ _ hv
  have hmem : ∀ v ∈ victims, v ∈ l := fun v hvm => mem_candidates (List.mem_of_mem_take (htake ▸ hvm))
  refine ⟨withoutVictims_perm hgrants ?_ fun v hvm => hl.subset (hmem v hvm), hmem⟩
  rw [htake]
  exact (candidates_nodup c (hgrants.nodup.sublist hl)).sublist (List.take_sublist _ _)

/-- A claim's entry placed in a section that holds none of its bay. -/
theorem SectionFits.placed {e : Entry} (h : SectionFits cfg x sec) (he : EntryFits cfg x e)
    (hnew : ∀ g ∈ sec.grants ++ sec.waits, g.bay ≠ e.bay) : SectionFits cfg x (place (poolOf cfg x) sec e) := by
  unfold place
  split_ifs
  · split
    · next victims hv =>
      obtain ⟨hperm, -⟩ := h.bumped (List.Sublist.refl _) hv
      refine ⟨h.live, (h.entries.cons he hnew).perm ?_, ?_, placeVictims_ranked _ _ h.ranked⟩
      · calc withoutVictims victims sec.grants ++ [e] ++ placeVictims victims sec.waits
            _ = withoutVictims victims sec.grants ++ e :: placeVictims victims sec.waits := by simp
            _ |>.Perm (e :: (withoutVictims victims sec.grants ++ placeVictims victims sec.waits)) := List.perm_middle
            _ |>.Perm (e :: (withoutVictims victims sec.grants ++ (victims ++ sec.waits))) :=
              ((placeVictims_perm victims sec.waits).append_left _).cons e
            _ |>.Perm (e :: (sec.grants ++ sec.waits)) := by
              rw [← List.append_assoc]
              exact ((List.perm_append_comm.trans hperm).append_right _).cons e
      · have hfrees := takeVictims_frees _ _ _ _ hv
        have hsum := granted_perm hperm
        have hpool := h.pool
        simp only [granted_append, freeOf] at hsum hfrees ⊢
        simp only [granted, List.map_cons, List.map_nil, List.sum_cons, List.sum_nil] at hsum hfrees hpool ⊢
        omega
    · exact h.waiting he hnew
  · exact h.waiting he hnew

theorem findBay_some {bay : Nat} {l : List Entry} {e : Entry} (h : findBay bay l = some e) : e ∈ l ∧ e.bay = bay :=
  ⟨List.mem_of_find?_eq_some h, by simpa using List.find?_some h⟩

theorem findBay_none {bay : Nat} {l : List Entry} (h : findBay bay l = none) : ∀ e ∈ l, e.bay ≠ bay := by
  simpa [findBay] using h

/-- A change that fits, its victims placed. -/
theorem SectionFits.changed {old new : Entry} {victims : List Entry} (h : SectionFits cfg x sec) (hnew : EntryFits cfg x new)
    (hold : findBay new.bay sec.grants = some old)
    (hv : takeVictims new.amount (freeOf (poolOf cfg x) sec + old.amount) (candidates (dropBay new.bay sec.grants) new.cls)
      = some victims) :
    SectionFits cfg x { sec with
      grants := replaceBay new.bay new (withoutVictims victims sec.grants), waits := placeVictims victims sec.waits } := by
  obtain ⟨hmem, hbay⟩ := findBay_some hold
  obtain ⟨hperm, hothers⟩ := h.bumped List.filter_sublist hv
  have hvictims : ∀ v ∈ victims, v.bay ≠ new.bay := fun v hvm => by
    simpa using (List.mem_filter.mp (hothers v hvm)).2
  have hwaits : ∀ w ∈ sec.waits, w.bay ≠ new.bay := fun w hw hwb => by
    have hdisjoint := (List.nodup_append.mp (List.map_append ▸ h.entries.2)).2.2
    exact hdisjoint _ (List.mem_map_of_mem hmem) _ (List.mem_map_of_mem hw) (hbay.trans hwb.symm)
  refine ⟨h.live, ?_, ?_, placeVictims_ranked _ _ h.ranked⟩
  · have hall : EntriesFit cfg x (replaceBay new.bay new (sec.grants ++ sec.waits)) := by
      refine h.entries.map (fun e => ?_) fun e he => ?_
      · split_ifs with hb
        exacts [hb.symm, rfl]
      · split_ifs
        exacts [hnew, h.entries.1 e he]
    refine hall.perm ?_
    calc replaceBay new.bay new (withoutVictims victims sec.grants) ++ placeVictims victims sec.waits
        _ |>.Perm (replaceBay new.bay new (withoutVictims victims sec.grants) ++ (victims ++ sec.waits)) :=
          (placeVictims_perm victims sec.waits).append_left _
        _ = replaceBay new.bay new (withoutVictims victims sec.grants ++ victims ++ sec.waits) := by
          simp only [replaceBay, List.map_append, List.append_assoc]
          rw [show victims.map _ = victims from replaceBay_of_absent _ new _ hvictims,
            show sec.waits.map _ = sec.waits from replaceBay_of_absent _ new _ hwaits]
        _ |>.Perm (replaceBay new.bay new (sec.grants ++ sec.waits)) :=
          ((List.perm_append_comm.trans hperm).append_right _).map _
  · have hsub : (withoutVictims victims sec.grants).Sublist sec.grants := List.filter_sublist
    have hkept : old ∈ withoutVictims victims sec.grants :=
      (List.mem_append.mp (hperm.mem_iff.mpr hmem)).resolve_left fun hvm => hvictims old hvm hbay
    have hnodup := (h.entries.sublist (hsub.trans (List.sublist_append_left _ sec.waits))).2
    have hreplaced := replaceBay_granted (new := new) hnodup hkept hbay
    have hsum := granted_perm hperm
    have hfrees := takeVictims_frees _ _ _ _ hv
    have hpool := h.pool
    simp only [granted_append, freeOf] at hsum hfrees ⊢
    omega

/-! ### Every share frame keeps the laws -/

/-- What every share frame leaves of a section that keeps the laws. -/
def KeepsLaw (cfg : WorkingCopy) (x : Resource) (eff : Effect) : Prop := eff.sec.live = true ∧ sectionLaw cfg x eff.sec = true

section
variable (hlive : sec.live = true) (hlaw : sectionLaw cfg x sec = true)
include hlive hlaw

theorem claimIn_keepsLaw {bay amount : Nat} {c : Cls} (hbay : IsBay bay) (h1 : 1 ≤ amount) (hpool : amount ≤ poolOf cfg x)
    (hc : c.belongs x = true) : KeepsLaw cfg x (claimIn (poolOf cfg x) sec bay amount c) := by
  have hfits := ((sectionLaw_iff hlive).mp hlaw).1
  have hnew : ∀ n, EntryFits cfg x ⟨bay, amount, c, n⟩ := fun n => ⟨hbay, h1, hpool, hc⟩
  cases hg : findBay bay sec.grants with
  | some old =>
    rw [claimIn_granted _ sec old bay amount c hg]
    unfold changeClaim
    split_ifs
    · split
      · next victims hv => exact (hfits.changed (hnew _) hg hv).promoted
      · exact ⟨hlive, hlaw⟩
    · exact ⟨hlive, hlaw⟩
  | none =>
    rw [claimIn_ungranted _ sec bay amount c hg]
    have hgrants := findBay_none hg
    cases hw : findBay bay sec.waits with
    | some old =>
      have hwithout : SectionFits cfg x { sec with waits := dropBay bay sec.waits } :=
        hfits.shrunk rfl (List.Sublist.refl _) List.filter_sublist
      refine (hwithout.placed (hnew _) fun g hgm => ?_).promoted
      rcases List.mem_append.mp hgm with hgm | hgm
      · exact hgrants g hgm
      · simpa using (List.mem_filter.mp hgm).2
    | none =>
      refine (hfits.placed (hnew _) fun g hgm => ?_).promoted
      exact (List.mem_append.mp hgm).elim (hgrants g) (findBay_none hw g)

theorem renewIn_keepsLaw (bay : Nat) : KeepsLaw cfg x (renewIn (poolOf cfg x) sec bay) := by
  unfold renewIn
  split
  · exact (((sectionLaw_iff hlive).mp hlaw).1.renewed bay).promoted
  · exact ⟨hlive, hlaw⟩

theorem removeIn_keepsLaw (bay : Nat) : KeepsLaw cfg x (removeIn (poolOf cfg x) sec bay) :=
  (((sectionLaw_iff hlive).mp hlaw).1.dropped bay).promoted

theorem yieldIn_keepsLaw (bay : Nat) : KeepsLaw cfg x (yieldIn (poolOf cfg x) sec bay) := by
  unfold yieldIn
  split
  · exact removeIn_keepsLaw hlive hlaw bay
  · exact ⟨hlive, hlaw⟩

theorem expireIn_keepsLaw (bay : Nat) (count : Byte) : KeepsLaw cfg x (expireIn (poolOf cfg x) sec bay count) := by
  unfold expireIn
  split
  · split_ifs
    · exact removeIn_keepsLaw hlive hlaw bay
    · exact ⟨hlive, hlaw⟩
  · exact ⟨hlive, hlaw⟩

end

end

/-- Settles O32: RENEW, YIELD and EXPIRE by the entry they find, promotion by its recursion, the laws frame by frame. -/
theorem promotionAndShareFramesKeepTheSectionLaws : Obligations.PromotionAndShareFramesKeepTheSectionLaws := by
  refine ⟨fun pool sec bay count => ?_, promote_spec, fun cfg x sec hlive hlaw => ?_⟩
  · intro held nothing removed renewed
    refine ⟨fun hnone => ?_, fun g hg => ?_⟩
    · have hentry : entryOf bay sec = none := hnone
      simp only [renewIn, yieldIn, expireIn, hentry]
      exact ⟨rfl, rfl, rfl⟩
    · have hentry : entryOf bay sec = some g := hg
      simp only [renewIn, yieldIn, expireIn, hentry]
      exact ⟨rfl, rfl, rfl⟩
  · exact ⟨fun _ _ _ hbay h1 hpool hc => claimIn_keepsLaw hlive hlaw hbay h1 hpool hc, renewIn_keepsLaw hlive hlaw,
      yieldIn_keepsLaw hlive hlaw, expireIn_keepsLaw hlive hlaw⟩

end Sys2Proof.Machine
end

section
/-! PROOFS. The laws of the share table at the station (03 R36 to R38, R49) through every step: what gives a table up, what clears
or founds one, what a frame does to one section, and what only passes the table by. -/

namespace Sys2Proof.Machine

theorem kegAddress_iff (n : Nat) : kegAddress n = true ↔ IsBay n := by simp [kegAddress, IsBay]

/-! ### The law and what leaves it standing -/

/-- The law with its three parts apart. -/
structure TableLaw (s : State) : Prop where
  load     : s.load = .ended ∨ s.mode.mode = .starting
  holding  : holdingLaw s = true
  sections : ∀ t, s.share.table = some t → ∀ x, sectionLaw s.cfg x (t.get x) = true

theorem tableLaw_iff (s : State) : tableLaw s = true ↔ TableLaw s := by
  have hsections : (match s.share.table with
      | some t => sectionLaw s.cfg .chill t.chill && sectionLaw s.cfg .gas t.gas && sectionLaw s.cfg .heat t.heat
      | none => true) = true ↔ ∀ t, s.share.table = some t → ∀ x, sectionLaw s.cfg x (t.get x) = true := by
    cases s.share.table with
    | none => simp
    | some t =>
      simp only [Bool.and_eq_true, Option.some.injEq, forall_eq']
      exact ⟨fun ⟨⟨hc, hg⟩, hh⟩ x => by cases x <;> assumption, fun h => ⟨⟨h .chill, h .gas⟩, h .heat⟩⟩
  unfold tableLaw
  rw [Bool.and_eq_true, Bool.and_eq_true]
  constructor
  · rintro ⟨⟨hload, hholding⟩, h⟩
    exact ⟨by simpa [loadLaw] using hload, hholding, hsections.mp h⟩
  · rintro ⟨hload, hholding, h⟩
    exact ⟨⟨by simpa [loadLaw] using hload, hholding⟩, hsections.mpr h⟩

/-- What the law reads is as it was. -/
def SameTable (s t : State) : Prop :=
  t.load = s.load ∧ t.cfg = s.cfg ∧ t.share.table = s.share.table ∧ t.mode.mode = s.mode.mode

theorem SameTable.trans {s t u : State} (h1 : SameTable s t) (h2 : SameTable t u) : SameTable s u := by
  obtain ⟨hl1, hc1, ht1, hm1⟩ := h1
  obtain ⟨hl2, hc2, ht2, hm2⟩ := h2
  exact ⟨hl2.trans hl1, hc2.trans hc1, ht2.trans ht1, hm2.trans hm1⟩

theorem holdingLaw_congr {s t : State} (htable : t.share.table = s.share.table) (hmode : t.mode.mode = s.mode.mode) :
    holdingLaw t = holdingLaw s := by
  simp only [holdingLaw, htable, hmode]

theorem TableLaw.same {s t : State} (h : TableLaw s) (hs : SameTable s t) : TableLaw t := by
  obtain ⟨hload, hcfg, htable, hmode⟩ := hs
  exact ⟨by rw [hload, hmode]; exact h.load, holdingLaw_congr htable hmode ▸ h.holding,
    by rw [htable, hcfg]; exact h.sections⟩

theorem TableLaw.ended {s : State} (h : TableLaw s) (hm : s.mode.mode ≠ .starting) : s.load = .ended := h.load.resolve_right hm

/-- Where a table is held the mode is ACTIVE with every section LIVE, or JOINING or DOUBTFUL with one UNRECEIVED. -/
theorem holdingLaw_some {s : State} {t : PerRes Section} (ht : s.share.table = some t) :
    holdingLaw s = true ↔ (s.active = true ∧ allLive t = true) ∨ (s.syncing = true ∧ allLive t = false) := by
  cases hm : s.mode.mode <;> simp [holdingLaw, State.active, State.syncing, hm, ht]

theorem TableLaw.starting_none {s : State} (h : TableLaw s) (hm : s.mode.mode = .starting) : s.share.table = none := by
  have hholding := h.holding
  cases ht : s.share.table with
  | none => rfl
  | some t => simp [holdingLaw, hm, ht] at hholding

/-! ### The tables a mode begins with (03 R37) -/

section
variable {t : State}

theorem TableLaw.of_none (hload : t.load = .ended ∨ t.mode.mode = .starting) (htable : t.share.table = none)
    (hmode : t.mode.mode = .starting ∨ t.mode.mode = .vacant ∨ t.mode.mode = .muted) : TableLaw t := by
  refine ⟨hload, ?_, fun u hu => ?_⟩
  · rcases hmode with hm | hm | hm <;> simp only [holdingLaw, hm, htable]
  · rw [htable] at hu
    cases hu

theorem TableLaw.of_cleared (hload : t.load = .ended) (htable : t.share = Share.cleared)
    (hmode : t.mode.mode = .joining ∨ t.mode.mode = .doubtful) : TableLaw t := by
  refine ⟨.inl hload, ?_, fun u hu x => ?_⟩
  · rcases hmode with hm | hm <;> simp only [holdingLaw, hm, htable, Share.cleared] <;> rfl
  · rw [htable] at hu
    cases hu
    rw [PerRes.get_all]
    rfl

theorem TableLaw.of_founded (hload : t.load = .ended) (htable : t.share = Share.founded) (hmode : t.mode.mode = .active) :
    TableLaw t := by
  refine ⟨.inl hload, ?_, fun u hu x => ?_⟩
  · simp only [holdingLaw, hmode, htable, Share.founded]
    rfl
  · rw [htable] at hu
    cases hu
    rw [PerRes.get_all]
    rfl

end

/-! ### Modes entered and left (05 R80 to R98) -/

@[simp] theorem State.enterMode_mode (s : State) (m : Mode) : (s.enterMode m).mode.mode = m := rfl

@[simp] theorem State.enterSync_mode (s : State) (m : Mode) : (s.enterSync m).mode.mode = m := rfl

@[simp] theorem State.enterSync_share (s : State) (m : Mode) : (s.enterSync m).share = Share.cleared := rfl

@[simp] theorem State.giveUp_share (s : State) : s.giveUp.share = Share.discarded := by
  unfold State.giveUp
  split_ifs <;> rfl

/-- The station holds a table, its load ended: in ACTIVE, JOINING or DOUBTFUL. -/
theorem State.syncing_iff (s : State) : s.syncing = true ↔ s.mode.mode = .joining ∨ s.mode.mode = .doubtful := by
  simp [State.syncing]

theorem State.active_iff (s : State) : s.active = true ↔ s.mode.mode = .active := by simp [State.active]

section
variable {s : State} (h : TableLaw s)
include h

theorem TableLaw.ended_of_active (ha : s.active = true) : s.load = .ended :=
  h.ended (by rw [s.active_iff.mp ha]; decide)

theorem TableLaw.ended_of_syncing (hs : s.syncing = true) : s.load = .ended :=
  h.ended (by rcases s.syncing_iff.mp hs with hm | hm <;> rw [hm] <;> decide)

theorem TableLaw.enterDoubtful (ha : s.active = true) : TableLaw s.enterDoubtful :=
  .of_cleared (by simpa using h.ended_of_active ha) rfl (.inr rfl)

theorem TableLaw.enterMuted (hm : s.active = true ∨ s.syncing = true) : TableLaw s.enterMuted :=
  .of_none (.inl (by simpa using hm.elim h.ended_of_active h.ended_of_syncing)) (by simp [State.enterMuted, Share.discarded])
    (.inr (.inr rfl))

theorem TableLaw.enterVacant (hm : s.active = true ∨ s.syncing = true) : TableLaw s.enterVacant :=
  .of_none (.inl (by simpa using hm.elim h.ended_of_active h.ended_of_syncing)) (by simp [State.enterVacant, Share.discarded])
    (.inr (.inl (by simp [State.enterVacant])))

theorem TableLaw.enterJoining (hm : s.mode.mode = .vacant) : TableLaw s.enterJoining :=
  .of_cleared (by simpa using h.ended (by rw [hm]; decide)) (by simp [State.enterJoining]) (.inl (by simp [State.enterJoining]))

theorem TableLaw.found (hs : s.syncing = true) : TableLaw s.found :=
  .of_founded (by simpa using h.ended_of_syncing hs) rfl rfl

theorem TableLaw.spoilSync (hs : s.syncing = true) : TableLaw s.spoilSync :=
  .of_cleared (by simpa using h.ended_of_syncing hs) rfl (s.syncing_iff.mp hs)

theorem TableLaw.doubtTest : TableLaw s.doubtTest := by
  unfold State.doubtTest
  split_ifs with hd
  · simp only [Bool.and_eq_true] at hd
    exact h.enterDoubtful hd.1.1
  · exact h

theorem TableLaw.setSuspect : TableLaw s.setSuspect := by
  have hmarked : TableLaw (marked s) := h.same ⟨rfl, rfl, rfl, rfl⟩
  unfold State.setSuspect
  dsimp only
  split_ifs with hs
  · exact hmarked.spoilSync (Bool.and_eq_true_iff.mp hs).1
  · exact hmarked.doubtTest

theorem TableLaw.releaseSuspect : TableLaw s.releaseSuspect := by
  unfold State.releaseSuspect
  split_ifs
  · exact TableLaw.setSuspect (h.same ⟨rfl, rfl, rfl, rfl⟩)
  · exact h

theorem TableLaw.lineSuspect : TableLaw s.lineSuspect := by
  unfold State.lineSuspect
  split_ifs
  · exact h.same ⟨rfl, rfl, rfl, rfl⟩
  · exact h.setSuspect

theorem TableLaw.waitExpired (hs : s.syncing = true) : TableLaw s.waitExpired := by
  unfold State.waitExpired
  split_ifs
  · exact h.found hs
  · exact h.same ⟨rfl, rfl, rfl, rfl⟩
  · exact h.same ⟨rfl, rfl, rfl, rfl⟩
  · exact h.found hs
  · exact h.same ⟨rfl, rfl, rfl, rfl⟩

/-! ### ANNOUNCE (05 R91, R95 to R97) -/

theorem TableLaw.weighAnnounce (before : Option Nat) (r : RosterEntry) : TableLaw (s.weighAnnounce before r) := by
  unfold State.weighAnnounce
  split_ifs with ha _ _ hs
  · unfold State.compare
    split_ifs
    · exact h.enterMuted (.inl ha)
    · exact h.enterDoubtful ha
    · exact h.same ⟨rfl, rfl, rfl, rfl⟩
  · exact h.doubtTest
  · exact h
  · simp only [Bool.and_eq_true] at hs
    unfold State.heardActive
    split_ifs
    · exact h.enterMuted (.inr hs.1.1)
    · exact h.same ⟨rfl, rfl, rfl, rfl⟩
    · exact h
  · exact h

theorem TableLaw.announceFrame (e : RxEntry) : TableLaw (s.announceFrame e) := by
  have hroster : TableLaw { s with mode := { s.mode with roster := announceRoster e.sender e.body s.mode.roster } } :=
    h.same ⟨rfl, rfl, rfl, rfl⟩
  unfold State.announceFrame
  dsimp only
  split
  · exact hroster.weighAnnounce _ _
  · exact hroster

/-! ### The share frames (03 R41 to R53) -/

/-- One section with another content that keeps the law of a LIVE section. -/
theorem TableLaw.setSection {t : State} {x : Resource} {old sec : Section} (hold : s.share.liveSection x = some old)
    (hlive : sec.live = true) (hlaw : sectionLaw s.cfg x sec = true) (hload : t.load = s.load) (hcfg : t.cfg = s.cfg)
    (hmode : t.mode.mode = s.mode.mode) (htable : t.share.table = (s.share.setSection x sec).table) : TableLaw t := by
  cases htab : s.share.table with
  | none => simp [Share.liveSection, htab] at hold
  | some u =>
    have hxlive : (u.get x).live = true := by
      by_contra hnot
      simp [Share.liveSection, htab, hnot] at hold
    have hall : allLive (u.set x sec) = allLive u := by
      cases x <;> simp_all [allLive, PerRes.set, PerRes.get]
    have htab' : t.share.table = some (u.set x sec) := by simp [htable, Share.setSection, htab]
    refine ⟨by rw [hload, hmode]; exact h.load, ?_, fun v hv y => ?_⟩
    · have hholding := (holdingLaw_some htab).mp h.holding
      rw [holdingLaw_some htab', hall]
      simpa only [State.active, State.syncing, hmode] using hholding
    · obtain rfl : u.set x sec = v := by simpa [htab'] using hv
      rw [hcfg, PerRes.get_set]
      split_ifs with hy
      · exact hy ▸ hlaw
      · exact h.sections u htab y

/-- A LIVE section that is found keeps the law of its resource. -/
theorem TableLaw.of_liveSection {x : Resource} {sec : Section} (hsec : s.share.liveSection x = some sec) :
    sec.live = true ∧ sectionLaw s.cfg x sec = true := by
  unfold Share.liveSection at hsec
  split at hsec
  · next t ht =>
    split_ifs at hsec with hlive
    cases hsec
    exact ⟨hlive, h.sections t ht x⟩
  · cases hsec

theorem TableLaw.applyEffect {x : Resource} {sec : Section} {own : Option PendKind} {eff : Effect}
    (hsec : s.share.liveSection x = some sec) (heff : KeepsLaw s.cfg x eff) : TableLaw (s.applyEffect x own eff) :=
  h.setSection hsec heff.1 heff.2 rfl rfl rfl rfl

theorem TableLaw.countChange (changed : Bool) : TableLaw (s.countChange changed) := h.same ⟨rfl, rfl, rfl, rfl⟩

/-- A share frame whose effect keeps the law of a LIVE section keeps the law of the table. -/
theorem TableLaw.shareFrame {x : Resource} {own : Option PendKind} {f : Section → Option Effect}
    (hf : ∀ sec eff, sec.live = true → sectionLaw s.cfg x sec = true → f sec = some eff → KeepsLaw s.cfg x eff) :
    TableLaw (s.shareFrame x own f) := by
  unfold State.shareFrame
  split
  · next eff heff =>
    obtain ⟨sec, hsec, hfsec⟩ := Option.bind_eq_some_iff.mp heff
    obtain ⟨hlive, hlaw⟩ := h.of_liveSection hsec
    exact (h.applyEffect hsec (hf sec eff hlive hlaw hfsec)).countChange _
  · exact h.same (by simp [SameTable])

theorem TableLaw.claimFrame (e : RxEntry) : TableLaw (s.claimFrame e) := by
  unfold State.claimFrame
  split
  · split
    · next x hbay _ =>
      refine h.shareFrame fun sec eff hlive hlaw hf => ?_
      unfold claimEffect at hf
      split at hf
      · next c _ =>
        split_ifs at hf with hok
        cases hf
        obtain ⟨h1, hpool, hc⟩ := hok
        exact claimIn_keepsLaw hlive hlaw ((kegAddress_iff _).mp hbay) h1 hpool hc
      · cases hf
    · exact h
  · exact h

theorem TableLaw.renewFrame (e : RxEntry) : TableLaw (s.renewFrame e) := by
  unfold State.renewFrame
  split
  · split
    · exact h.shareFrame fun sec eff hlive hlaw hf => by cases hf; exact renewIn_keepsLaw hlive hlaw _
    · exact h
  · exact h

theorem TableLaw.yieldFrame (e : RxEntry) : TableLaw (s.yieldFrame e) := by
  unfold State.yieldFrame
  split
  · split
    · exact h.shareFrame fun sec eff hlive hlaw hf => by cases hf; exact yieldIn_keepsLaw hlive hlaw _
    · exact h
  · exact h

theorem TableLaw.yieldOne (x : Resource) (e : RxEntry) : TableLaw (s.yieldOne x e) := by
  unfold State.yieldOne
  split
  · next sec hsec =>
    obtain ⟨hlive, hlaw⟩ := h.of_liveSection hsec
    exact h.applyEffect hsec (yieldIn_keepsLaw hlive hlaw _)
  · exact h

theorem TableLaw.yieldAllFrame (e : RxEntry) : TableLaw (s.yieldAllFrame e) := by
  unfold State.yieldAllFrame
  split_ifs
  · exact (((h.yieldOne .chill e).yieldOne .gas e).yieldOne .heat e).countChange _
  · exact h

theorem TableLaw.expireFrame (e : RxEntry) : TableLaw (s.expireFrame e) := by
  unfold State.expireFrame
  split
  · split
    · next target _ count _ _ _ x _ _ =>
      have hframe : TableLaw (s.shareFrame x none (expireEffect s.cfg x target.toNat count)) := by
        refine h.shareFrame fun sec eff hlive hlaw hf => ?_
        unfold expireEffect at hf
        split_ifs at hf
        cases hf
        exact expireIn_keepsLaw hlive hlaw _ _
      exact hframe.same (by simp [SameTable])
    · exact h
  · exact h

end

/-! ### SYNC-TABLE (03 R54, 05 R89, R90) -/

/-- What a group of four characters must be to be read as an entry. -/
theorem readEntries_cons {isGrant : Bool} {b a cs n : Byte} {rest : List Byte} {es : List Entry} :
    readEntries isGrant (b :: a :: cs :: n :: rest) = some es ↔
      ∃ c es', classOf (cs &&& 0x0F) = some c ∧ readEntries isGrant rest = some es' ∧
        (1 ≤ b.toNat ∧ b.toNat ≤ 8 ∧ cs &&& 0x70 = 0 ∧ cs.msb = isGrant) ∧ es = ⟨b.toNat, a.toNat, c, n⟩ :: es' := by
  rw [readEntries]
  constructor
  · intro h
    split at h
    · next c es' hc hes =>
      split_ifs at h with hok
      exact ⟨c, es', hc, hes, hok, (Option.some.inj h).symm⟩
    · cases h
  · rintro ⟨c, es', hc, hes, hok, rfl⟩
    simp only [hc, hes]
    exact if_pos hok

theorem readEntries_bays {isGrant : Bool} : ∀ {l : List Byte} {es : List Entry}, readEntries isGrant l = some es →
    ∀ e ∈ es, IsBay e.bay
  | [], es, h => by
    obtain rfl : [] = es := Option.some.inj h
    simp
  | _ :: _ :: _ :: _ :: _, _, h => by
    obtain ⟨_, _, -, hrest, hok, rfl⟩ := readEntries_cons.mp h
    exact List.forall_mem_cons.mpr ⟨⟨hok.1, hok.2.1⟩, readEntries_bays hrest⟩
  | [_], _, h | [_, _], _, h | [_, _, _], _, h => by cases h

/-- A section that passes the checks of R54 keeps the law of a LIVE section. -/
theorem readSection_law {cfg : WorkingCopy} {x : Resource} {body : List Byte} {sec : Section} {count : Word}
    (h : readSection (poolOf cfg x) x body = some (sec, count)) : sec.live = true ∧ sectionLaw cfg x sec = true := by
  unfold readSection at h
  split at h
  · split at h
    · next gs ws hgs hws =>
      split_ifs at h with hok
      cases h
      refine ⟨rfl, ?_⟩
      simp only [sectionLaw, if_true, hok, Bool.true_and, baysOk, List.all_eq_true, decide_eq_true_eq]
      exact fun e he => (List.mem_append.mp he).elim (readEntries_bays hgs e) (readEntries_bays hws e)
    · cases h
  · cases h

/-- The answer wait begun again where one runs (05 R89). -/
def State.tableHeard (s : State) : State :=
  { s with mode := { s.mode with sync := if s.syncing then s.mode.sync.heard else s.mode.sync } }

@[simp] theorem State.tableHeard_frame (s : State) :
    s.tableHeard.load = s.load ∧ s.tableHeard.cfg = s.cfg ∧ s.tableHeard.share = s.share ∧ s.tableHeard.lease = s.lease :=
  ⟨rfl, rfl, rfl, rfl⟩

theorem State.syncTableFrame_own (s : State) (e : RxEntry) (ha : (e.body[0]?).map BitVec.toNat = some s.line.address) :
    s.syncTableFrame e =
      if ((s.adoptFrame e.body).syncing && (s.adoptFrame e.body).share.complete) = true then
        (s.adoptFrame e.body).tableHeard.becomeActive
      else (s.adoptFrame e.body).tableHeard :=
  if_pos ha

theorem State.syncTableFrame_other (s : State) (e : RxEntry) (ha : (e.body[0]?).map BitVec.toNat ≠ some s.line.address) :
    s.syncTableFrame e = s :=
  if_neg ha

section
variable {s : State} (h : TableLaw s)
include h

/-- A SYNC-TABLE leaves the table, or gives an UNRECEIVED section a content that keeps the law. -/
theorem TableLaw.adoptFrame_cases (body : List Byte) :
    (s.adoptFrame body).share = s.share ∨
      (s.syncing = true ∧ ∃ t, (s.adoptFrame body).share.table = some t ∧ ∀ x, sectionLaw s.cfg x (t.get x) = true) := by
  unfold State.adoptFrame
  split
  · next x _ =>
    split_ifs with hun
    · split
      · next sec count hread =>
        right
        unfold Share.unreceived at hun
        split at hun
        · next t ht =>
          have hnotall : allLive t = false := by
            cases x <;> simp_all [allLive, PerRes.get]
          refine ⟨?_, t.set x sec, by simp [State.adopt, Share.setSection, ht], fun y => ?_⟩
          · simpa [hnotall] using (holdingLaw_some ht).mp h.holding
          · rw [PerRes.get_set]
            split_ifs with hy
            · exact hy ▸ (readSection_law hread).2
            · exact h.sections t ht y
        · cases hun
      · exact .inl rfl
    · exact .inl rfl
  · exact .inl rfl

theorem TableLaw.syncTableFrame (e : RxEntry) : TableLaw (s.syncTableFrame e) := by
  by_cases hasker : (e.body[0]?).map BitVec.toNat = some s.line.address
  swap
  · rw [s.syncTableFrame_other e hasker]
    exact h
  rw [s.syncTableFrame_own e hasker]
  have hcases := h.adoptFrame_cases e.body
  obtain ⟨hload, hcfg, hmode⟩ : (s.adoptFrame e.body).load = s.load ∧ (s.adoptFrame e.body).cfg = s.cfg ∧
    (s.adoptFrame e.body).mode = s.mode := by simp
  generalize s.adoptFrame e.body = u at hcases hload hcfg hmode ⊢
  have hsync : u.syncing = s.syncing := by simp only [State.syncing, hmode]
  have hsections : ∀ t, u.share.table = some t → ∀ x, sectionLaw u.cfg x (t.get x) = true := by
    rw [hcfg]
    rcases hcases with hshare | ⟨-, v, hv, hsecs⟩
    · rw [hshare]
      exact h.sections
    · rw [hv]
      rintro _ ⟨⟩
      exact hsecs
  have hendload : u.syncing = true → u.load = .ended := fun hs => hload.trans (h.ended_of_syncing (hsync ▸ hs))
  split_ifs with hdone
  · obtain ⟨hs, hcomplete⟩ := Bool.and_eq_true_iff.mp hdone
    obtain ⟨t, ht, hlive⟩ : ∃ t, u.share.table = some t ∧ allLive t = true := by
      unfold Share.complete at hcomplete
      split at hcomplete
      · exact ⟨_, ‹_›, hcomplete⟩
      · cases hcomplete
    refine ⟨.inl (by simpa using hendload hs), ?_, by simpa using hsections⟩
    exact (holdingLaw_some (t := t) (by simpa using ht)).mpr (.inl ⟨rfl, hlive⟩)
  · rcases hcases with hshare | ⟨hs, v, hv, -⟩
    · exact h.same ⟨hload, hcfg, congrArg Share.table hshare, (congrArg ModeCtl.mode hmode : u.mode.mode = s.mode.mode)⟩
    · have hs' : u.syncing = true := hsync.trans hs
      have hincomplete : allLive v = false := by
        by_contra hc
        refine hdone (Bool.and_eq_true_iff.mpr ⟨hs', ?_⟩)
        simpa [Share.complete, hv] using hc
      exact ⟨.inl (hendload hs'), (holdingLaw_some (s := u.tableHeard) hv).mpr (.inr ⟨hs', hincomplete⟩), hsections⟩

/-! ### The line, the pins, the timers (01, 05, 10) -/

theorem TableLaw.discardFrame (own clean : Bool) : TableLaw (s.discardFrame own clean) := by
  cases hjudged : (own || clean) with
  | true =>
    rw [s.discardFrame_suspected own clean hjudged]
    exact TableLaw.lineSuspect (h.same ⟨rfl, rfl, rfl, rfl⟩)
  | false =>
    obtain ⟨rfl, rfl⟩ := Bool.or_eq_false_iff.mp hjudged
    exact h

theorem TableLaw.judgeOwn (accepted : Bool) : TableLaw (s.judgeOwn accepted) := h.same (by simp [SameTable])

theorem TableLaw.receive (e : RxEntry) : TableLaw (s.receive e) := by
  unfold State.receive
  split_ifs
  · split <;> exact h.same ⟨rfl, rfl, rfl, rfl⟩
  · exact TableLaw.lineSuspect (h.same ⟨rfl, rfl, rfl, rfl⟩)

theorem TableLaw.judgeFrame (falseStart : Bool) (chars : List RxChar) : TableLaw (s.judgeFrame falseStart chars) := by
  have hidle : TableLaw { s with line :=
      { s.line.idled with spent := s.line.spent && !clearsSpent s.line.address chars } } := h.same ⟨rfl, rfl, rfl, rfl⟩
  unfold State.judgeFrame
  dsimp only
  split
  · exact (hidle.judgeOwn true).receive _
  · exact (hidle.judgeOwn false).discardFrame _ _

theorem TableLaw.kegPresentTaken (k : Taken) : TableLaw (s.kegPresentTaken k) := by
  cases k with
  | nothing => exact h
  | assertion =>
    have hmoved : TableLaw (if s.mode.mode = .vacant then s.enterJoining else s) := by
      split_ifs with hm
      · exact h.enterJoining hm
      · exact h
    exact hmoved.same (by simp [SameTable, State.kegPresentTaken])
  | deassertion =>
    have hlost : TableLaw s.kegLost := h.same (by simp [SameTable])
    have hmoved : TableLaw (if s.kegLost.active || s.kegLost.syncing then s.kegLost.enterVacant else s.kegLost) := by
      split_ifs with hm
      · exact hlost.enterVacant (by simpa using hm)
      · exact hlost
    exact hmoved.same (by simp [SameTable, State.kegPresentTaken])

theorem TableLaw.handOn (before : State) : TableLaw (State.handOn before s) :=
  (h.kegPresentTaken (takenOf before s .kegPresent)).same (by simp [SameTable, State.handOn])

theorem TableLaw.removeSilent (a : Nat) : TableLaw (s.removeSilent a) := by
  unfold State.removeSilent
  split_ifs
  · exact TableLaw.doubtTest (h.same ⟨rfl, rfl, rfl, rfl⟩)
  · exact h

theorem TableLaw.answerWait : TableLaw s.answerWait := by
  unfold State.answerWait
  split_ifs with hw
  · exact h.waitExpired hw.1
  · exact h

end

theorem State.announceTimer_sameTable (s : State) : SameTable s s.announceTimer := by
  unfold State.announceTimer
  split_ifs <;> exact ⟨rfl, rfl, rfl, rfl⟩

theorem State.restTimer_sameTable (s : State) : SameTable s s.restTimer := by
  unfold State.restTimer
  split_ifs <;> exact ⟨rfl, rfl, rfl, rfl⟩

theorem State.ownerSent_sameTable (s : State) (f : TxFrame) (w : Bool) : SameTable s (s.ownerSent f w) := by
  unfold State.ownerSent
  split <;> exact ⟨rfl, rfl, rfl, rfl⟩

theorem State.probeSecond_sameTable (s : State) (v : Int) : SameTable s (s.probeSecond v) := by simp [SameTable]

theorem State.pressureSample_sameTable (s : State) (v : Int) : SameTable s (s.pressureSample v) := by simp [SameTable]

theorem State.retryRequested_sameTable (s : State) : SameTable s s.retryRequested := ⟨rfl, rfl, rfl, rfl⟩

theorem State.countSecond_sameTable (s : State) : SameTable s s.countSecond := ⟨rfl, rfl, rfl, rfl⟩

theorem TableLaw.takeSilent {s : State} (h : TableLaw s) : TableLaw s.takeSilent := by
  unfold State.takeSilent
  generalize [1, 2, 3, 4, 5, 6, 7, 8, 9, 10, 11, 12] = l
  induction l generalizing s with
  | nil => exact h
  | cons a as ih => exact ih (h.removeSilent a)

theorem TableLaw.takeDue {s : State} (h : TableLaw s) : TableLaw s.takeDue := by
  have hfirst : TableLaw (State.starveDue .heat (State.starveDue .gas (State.starveDue .chill
      s.minuteEvent.hourEvent.driftDue.emptyDue.foamDue.settleDue))) := h.same (by simp [SameTable])
  exact ((hfirst.takeSilent.same (State.announceTimer_sameTable _)).answerWait).same (State.restTimer_sameTable _)

/-- Past the thresholds left over, a second event passes the table by. -/
theorem State.sampleAndCount_sameTable (s : State) (probe pressure : Int) :
    SameTable s (((s.probeSecond probe).pressureSample pressure).countSecond.retryRequested) :=
  (((s.probeSecond_sameTable probe).trans (State.pressureSample_sameTable _ pressure)).trans
    (State.countSecond_sameTable _)).trans (State.retryRequested_sameTable _)

theorem TableLaw.second {s : State} (h : TableLaw s) (probe pressure : Int) : TableLaw (s.second probe pressure) := by
  have hdue : TableLaw s.takeDue := h.takeDue
  rw [State.second]
  generalize s.takeDue = u at hdue ⊢
  have hticked : TableLaw { u with timebase := u.timebase.second } := hdue.same ⟨rfl, rfl, rfl, rfl⟩
  exact hticked.same (State.sampleAndCount_sameTable _ probe pressure)

/-! ### Starts and the configuration load (05 R76 to R80) -/

theorem TableLaw.started (reason : StartReason) (strap : BitVec 4) (frozen : Option Hold) (program : Program)
    (log : List LogEntry) (keg : Keg) (notice : Notice) (inputs : Inputs) (draws : Nat) (pending : List Instr) :
    TableLaw (State.started reason strap frozen program log keg notice inputs draws pending) :=
  .of_none (.inr rfl) rfl (.inl rfl)

/-- In STARTING no table is held, so that the mode can be left for VACANT or a sync begun. -/
theorem TableLaw.leaveStarting {s : State} (h : TableLaw s) (hload : s.load = .ended) (hm : s.mode.mode = .starting) :
    TableLaw s.leaveStarting := by
  have hnone := h.starting_none hm
  have hleft : TableLaw (if s.asserted .kegPresent = true then s.enterSync .joining else (s.enterMode .vacant).thermalEval) := by
    split_ifs
    · exact .of_cleared (by simpa using hload) rfl (.inl rfl)
    · exact .of_none (.inl (by simpa using hload)) (by simpa using hnone) (.inr (.inl (by simp)))
  by_cases haddress : 1 ≤ s.line.address ∧ s.line.address ≤ 8
  · rw [State.leaveStarting, if_pos haddress]
    dsimp only
    generalize (if s.asserted .kegPresent = true then s.enterSync .joining else (s.enterMode .vacant).thermalEval) = u at hleft ⊢
    split_ifs
    · exact hleft.same ⟨rfl, rfl, rfl, rfl⟩
    · exact hleft
  · rw [State.leaveStarting, if_neg haddress]
    exact h

theorem TableLaw.configLoadEnd {s : State} (h : TableLaw s) (read : Option WorkingCopy) (hreading : s.load = .reading) :
    TableLaw ((s.takeConfig read).judgeInputs).leaveStarting := by
  have hm : s.mode.mode = .starting := h.load.resolve_left (by rw [hreading]; decide)
  have hload : (s.takeConfig read).load = .ended := rfl
  have hmode : (s.takeConfig read).mode.mode = .starting := hm
  have htaken : TableLaw (s.takeConfig read) := .of_none (.inl hload) (h.starting_none hm) (.inl hmode)
  exact TableLaw.leaveStarting (htaken.same (by simp [SameTable])) (by simpa using hload) (by simpa using hmode)

/-! ### The rows -/

/-- A row of a frame whose effect keeps the law. -/
theorem TableLaw.frameRow {s t : State} {ok : FrameClass → Bool} {f : RxEntry → State → State} (h : TableLaw s)
    (hf : ∀ e u, TableLaw u → TableLaw (f e u)) (he : whileRunning s (fun s => takeFrame s ok f) = .next t) : TableLaw t :=
  frameRow_keeps h (fun _ => h.same ⟨rfl, rfl, rfl, rfl⟩) hf he

/-- A row of an order whose performance passes the table by. -/
theorem TableLaw.orderRow {s t : State} {o : OrderCode} {p : List Byte → State → Reply} (h : TableLaw s)
    (hp : ∀ a u, SameTable u (p a u).state) (he : orderRow o p s = .next t) : TableLaw t :=
  orderRow_keeps h (fun _ => h.same ⟨rfl, rfl, rfl, rfl⟩) (fun _ hu => hu.same ⟨rfl, rfl, rfl, rfl⟩)
    (fun _ _ _ _ _ hu => hu.same ⟨rfl, rfl, rfl, rfl⟩) (fun a u hu => hu.same (hp a u)) he

/-- A row whose effect passes the table by. -/
theorem TableLaw.passedBy {s t : State} {f : State → State} (h : TableLaw s) (hf : SameTable s (f s))
    (he : whileRunning s f = .next t) : TableLaw t :=
  whileRunning_keeps h (h.same hf) he

theorem TableLaw.row {c : Instr} {s t : State} (h : TableLaw s) (he : exec c s = .next t) : TableLaw t := by
  cases c with
  | coldStart strap => cases he; exact .started ..
  | dipStart strap => cases he; exact .started ..
  | supplyFall => cases he; exact h.same ⟨rfl, rfl, rfl, rfl⟩
  | orderedStart strap =>
    cases he
    split_ifs
    · exact .started ..
    · exact h
  | configLoad =>
    refine whileRunning_keeps h ?_ he
    split_ifs with hdelay
    · have hm : s.mode.mode = .starting := h.load.resolve_left (by rw [hdelay]; decide)
      exact .of_none (.inr hm) (h.starting_none hm) (.inl hm)
    · exact h
  | configLoadEnd read =>
    refine whileRunning_keeps h ?_ he
    split_ifs with hreading
    · exact h.configLoadEnd _ hreading
    · exact h
  | secondEvent probe pressure =>
    change execSecondEvent probe pressure s = .next t at he
    rw [execSecondEvent] at he
    refine whileRunning_keeps h ?_ he
    split_ifs
    · exact h
    · exact h.second _ _
  | minuteEvent => exact h.passedBy (by simp [SameTable]) he
  | hourEvent => exact h.passedBy (by simp [SameTable]) he
  | pinChange input high => cases he; exact h.same ⟨rfl, rfl, rfl, rfl⟩
  | inputSettled inputs =>
    change execInputSettled inputs s = .next t at he
    rw [execInputSettled] at he
    refine whileRunning_keeps h ?_ he
    have hsettled : TableLaw (s.settleAll inputs) := h.same ⟨rfl, rfl, rfl, rfl⟩
    exact (hsettled.handOn s).same (by simp [SameTable])
  | meterPulse => exact h.passedBy (by simp [SameTable]) he
  | lineIdle => exact whileRunning_keeps h (by split_ifs <;> exact h.same ⟨rfl, rfl, rfl, rfl⟩) he
  | breakSeen => exact whileRunning_keeps h (by split_ifs <;> exact h.same ⟨rfl, rfl, rfl, rfl⟩) he
  | stub =>
    change execStub s = .next t at he
    rw [execStub] at he
    exact whileRunning_keeps h (by split <;> exact h.same ⟨rfl, rfl, rfl, rfl⟩) he
  | frameEnd falseStart chars =>
    refine whileRunning_keeps h ?_ he
    split_ifs
    · exact h.judgeFrame _ _
    · exact h
  | frameBroken cause falseStart chars =>
    refine whileRunning_keeps h ?_ he
    have hbroken : TableLaw { s with line := s.line.outside (BreakCause.leadsTo cause) } := h.same ⟨rfl, rfl, rfl, rfl⟩
    split_ifs
    · exact (hbroken.judgeOwn false).discardFrame _ _
    · exact h
  | slotBegin wireHigh =>
    change execSlotBegin wireHigh s = .next t at he
    rw [execSlotBegin] at he
    refine whileRunning_keeps h ?_ he
    split
    · split_ifs
      · exact h.same (by simp [SameTable])
      · exact h
    · exact h
  | quietWindow =>
    change execQuietWindow s = .next t at he
    rw [execQuietWindow] at he
    refine whileRunning_keeps h ?_ he
    split
    · split_ifs <;> exact h.same ⟨rfl, rfl, rfl, rfl⟩
    · exact h
  | lostArbitration bit =>
    change execLostArbitration bit s = .next t at he
    rw [execLostArbitration] at he
    refine whileRunning_keeps h ?_ he
    split
    · split_ifs <;> exact h.same ⟨rfl, rfl, rfl, rfl⟩
    · exact h
  | sendFault bit =>
    change execSendFault bit s = .next t at he
    rw [execSendFault] at he
    refine whileRunning_keeps h ?_ he
    split
    · split_ifs
      · exact TableLaw.lineSuspect (h.same ⟨rfl, rfl, rfl, rfl⟩)
      · exact h
    · exact h
  | frameComplete =>
    change execFrameComplete s = .next t at he
    rw [execFrameComplete] at he
    refine whileRunning_keeps h ?_ he
    split
    · exact h.same (State.ownerSent_sameTable _ _ _)
    · exact h
  | frameRejected =>
    change execFrameRejected s = .next t at he
    rw [execFrameRejected] at he
    refine h.frameRow (fun e u hu => ?_) he
    exact TableLaw.setSuspect (hu.same ⟨rfl, rfl, rfl, rfl⟩)
  | frameNoBlock => exact h.frameRow (fun _ _ hu => hu) he
  | claim => exact h.frameRow (fun e _ hu => hu.claimFrame e) he
  | renew => exact h.frameRow (fun e _ hu => hu.renewFrame e) he
  | yield => exact h.frameRow (fun e _ hu => hu.yieldFrame e) he
  | yieldAll => exact h.frameRow (fun e _ hu => hu.yieldAllFrame e) he
  | expire => exact h.frameRow (fun e _ hu => hu.expireFrame e) he
  | syncTable => exact h.frameRow (fun e _ hu => (hu.syncTableFrame e).releaseSuspect) he
  | syncAsk => exact h.frameRow (fun _ _ hu => hu.same (by simp [SameTable])) he
  | announce => exact h.frameRow (fun e _ hu => (hu.announceFrame e).releaseSuspect) he
  | answerWaitExpiry => exact whileRunning_keeps h h.answerWait he
  | restEnd => exact h.passedBy s.restTimer_sameTable he
  | announceTimer => exact h.passedBy s.announceTimer_sameTable he
  | rosterEntryRemoved address => exact whileRunning_keeps h (h.removeSilent address) he
  | renewPoint x => exact h.passedBy (by simp [SameTable]) he
  | lapse x => exact h.passedBy (by simp [SameTable]) he
  | expiryPoint x => exact h.passedBy (by simp [SameTable]) he
  | starveLimit x => exact h.passedBy (by simp [SameTable]) he
  | driftLimit => exact h.passedBy (by simp [SameTable]) he
  | emptyEnd => exact h.passedBy (by simp [SameTable]) he
  | foamEnd => exact h.passedBy (by simp [SameTable]) he
  | settlingEnd => exact h.passedBy (by simp [SameTable]) he
  | readStatus => exact h.orderRow (fun _ _ => ⟨rfl, rfl, rfl, rfl⟩) he
  | readKeg => exact h.orderRow (fun _ _ => ⟨rfl, rfl, rfl, rfl⟩) he
  | readStep => exact h.orderRow (by simp [SameTable]) he
  | readPourLog => exact h.orderRow (by simp [SameTable]) he
  | readNotices => exact h.orderRow (by simp [SameTable]) he
  | clearNotices => exact h.orderRow (by simp [SameTable]) he
  | setNoticeEnable => exact h.orderRow (by simp [SameTable]) he
  | raiseNotice => exact h.orderRow (by simp [SameTable]) he
  | setFill => exact h.orderRow (by simp [SameTable]) he
  | setServe => exact h.orderRow (by simp [SameTable]) he
  | loadStep => exact h.orderRow (by simp [SameTable]) he
  | clearProgram => exact h.orderRow (by simp [SameTable]) he
  | startProgram => exact h.orderRow (by simp [SameTable]) he
  | pauseProgram => exact h.orderRow (by simp [SameTable]) he
  | resumeProgram => exact h.orderRow (by simp [SameTable]) he
  | advanceStep => exact h.orderRow (by simp [SameTable]) he
  | pourPortion settled =>
    refine h.frameRow (fun e u hu => ?_) he
    have hsettled : TableLaw (u.settleAll settled) := hu.same ⟨rfl, rfl, rfl, rfl⟩
    exact State.pourPortionRow_keeps _ _ _ (fun l => (hsettled.handOn u).same (by simp [SameTable]))
      (fun _ hv => hv.same ⟨rfl, rfl, rfl, rfl⟩) (fun _ _ _ _ hv => hv.same ⟨rfl, rfl, rfl, rfl⟩)
  | stopPour => exact h.orderRow (by simp [SameTable]) he
  | restartBay => exact h.orderRow (by simp [SameTable]) he
  | unknownOrder =>
    refine h.frameRow (fun _ _ hu => ?_) he
    split_ifs <;> exact hu.same ⟨rfl, rfl, rfl, rfl⟩

/-- Settles O59: the law is blind to the queue of commands, the tick passes the table by, and each row keeps the law. -/
theorem everyStepKeepsTheTableLaw : Obligations.EveryStepKeepsTheTableLaw := by
  intro s t h he
  refine (tableLaw_iff t).mpr (step_keeps (P := TableLaw) (fun _ _ hu => hu.same ⟨rfl, rfl, rfl, rfl⟩) (fun u hu => ?_)
    (fun _ _ _ => TableLaw.row) s t ((tableLaw_iff s).mp h) he)
  rw [State.tick_eq]
  split_ifs <;> exact hu.same ⟨rfl, rfl, rfl, rfl⟩

end Sys2Proof.Machine
end

section
/-! PROOFS. The lease monitor (03 R55, 04 R69, R73): the ages and the expiry record at a report, the ages at a second event. -/

namespace Sys2Proof.Machine

/-! ### The age of a bay's entry (04 R69) -/

theorem ageOf_cons (b bay a : Nat) (rest : List (Nat × Nat)) :
    ageOf b ((bay, a) :: rest) = if bay = b then some a else ageOf b rest := by
  unfold ageOf
  by_cases h : bay = b <;> simp [h]

theorem ageOf_startAge (b bay : Nat) (ages : List (Nat × Nat)) :
    ageOf b (startAge bay ages) = if bay = b then some 0 else ageOf b ages := by
  induction ages with
  | nil => exact ageOf_cons b bay 0 []
  | cons p rest ih =>
    obtain ⟨c, a⟩ := p
    unfold startAge
    split_ifs <;> grind [ageOf_cons]

theorem ageOf_dropAge (b bay : Nat) (ages : List (Nat × Nat)) :
    ageOf b (dropAge bay ages) = if bay = b then none else ageOf b ages := by
  induction ages with
  | nil => simp [dropAge, ageOf]
  | cons p rest ih =>
    obtain ⟨c, a⟩ := p
    simp only [dropAge] at ih
    unfold dropAge
    rw [List.filter_cons]
    split_ifs <;> grind [ageOf_cons]

/-! ### A report at the lease monitor (03 R55, 04 R73) -/

section
variable (l : LeaseTx) (x : Resource) (rep : LeaseReport)

theorem LeaseTx.reportExpiry_ages : (l.reportExpiry x rep).lease.ages = l.lease.ages := by
  unfold LeaseTx.reportExpiry
  split
  · split
    · split_ifs <;> rfl
    · rfl
  · split
    · split_ifs <;> rfl
    · rfl
  · rfl
  · rfl

/-- Only a renewal with another count or a removal of the target moves the expiry record. -/
theorem LeaseTx.reportExpiry_cases :
    l.reportExpiry x rep = l ∨
      (∃ b n r, rep = .renewed b n ∧ l.lease.expiry.get x = some r ∧ r.target = b ∧ r.count ≠ n ∧
        l.reportExpiry x rep = l.endExpiry x) ∨
      (∃ b r, rep = .removed b ∧ l.lease.expiry.get x = some r ∧ r.target = b ∧
        l.reportExpiry x rep =
          ⟨{ l.lease with expiry := l.lease.expiry.set x none }, l.tx.withdrawQueued (TxFrame.isExpire x)⟩) := by
  cases rep with
  | unaffected => exact .inl rfl
  | created b => exact .inl rfl
  | renewed b n =>
    cases hr : l.lease.expiry.get x with
    | none => left; simp only [LeaseTx.reportExpiry, hr]
    | some r =>
      by_cases hc : r.target = b ∧ r.count ≠ n
      · exact .inr (.inl ⟨b, n, r, rfl, rfl, hc.1, hc.2, by simp only [LeaseTx.reportExpiry, hr]; exact if_pos hc⟩)
      · left; simp only [LeaseTx.reportExpiry, hr]; exact if_neg hc
  | removed b =>
    cases hr : l.lease.expiry.get x with
    | none => left; simp only [LeaseTx.reportExpiry, hr]
    | some r =>
      by_cases hc : r.target = b
      · exact .inr (.inr ⟨b, r, rfl, rfl, hc, by simp only [LeaseTx.reportExpiry, hr]; exact if_pos hc⟩)
      · left; simp only [LeaseTx.reportExpiry, hr]; exact if_neg hc

/-- The age has been reported, the expiry record not yet. -/
def LeaseTx.aged : LeaseTx :=
  ⟨{ l.lease with ages := l.lease.ages.set x (reportedAges rep (l.lease.ages.get x)) }, l.tx⟩

theorem LeaseTx.report_eq : l.report x rep = (l.aged x rep).reportExpiry x rep := rfl

theorem LeaseTx.report_ages : (l.report x rep).lease.ages = l.lease.ages.set x (reportedAges rep (l.lease.ages.get x)) :=
  LeaseTx.reportExpiry_ages _ x rep

theorem LeaseTx.report_other (y : Resource) (h : y ≠ x) :
    (l.report x rep).lease.ages.get y = l.lease.ages.get y ∧
      (l.report x rep).lease.expiry.get y = l.lease.expiry.get y := by
  refine ⟨by rw [LeaseTx.report_ages, PerRes.get_set, if_neg h], ?_⟩
  rw [LeaseTx.report_eq]
  obtain he | ⟨_, _, _, -, -, -, -, he⟩ | ⟨_, _, -, -, -, he⟩ := (l.aged x rep).reportExpiry_cases x rep
  · rw [he]
    rfl
  · rw [he]
    exact (PerRes.get_set _ x y none).trans (if_neg h)
  · rw [he]
    exact (PerRes.get_set _ x y none).trans (if_neg h)

theorem LeaseTx.report_unaffected : l.report x .unaffected = l := by
  change LeaseTx.mk { l.lease with ages := l.lease.ages.set x (l.lease.ages.get x) } l.tx = l
  rw [PerRes.set_get]

theorem LeaseTx.report_ends_renewed {b : Nat} {n : Byte} {r : ExpiryRec} (hr : l.lease.expiry.get x = some r)
    (hb : r.target = b) (hn : r.count ≠ n) : l.report x (.renewed b n) = (l.aged x (.renewed b n)).endExpiry x := by
  have hr' : (l.aged x (.renewed b n)).lease.expiry.get x = some r := hr
  rw [LeaseTx.report_eq]
  simp only [LeaseTx.reportExpiry, hr']
  exact if_pos ⟨hb, hn⟩

theorem LeaseTx.report_ends_removed {b : Nat} {r : ExpiryRec} (hr : l.lease.expiry.get x = some r) (hb : r.target = b) :
    (l.report x (.removed b)).lease.expiry.get x = none ∧
      (l.report x (.removed b)).tx = l.tx.withdrawQueued (TxFrame.isExpire x) := by
  have hr' : (l.aged x (.removed b)).lease.expiry.get x = some r := hr
  rw [LeaseTx.report_eq]
  simp only [LeaseTx.reportExpiry, hr', if_pos hb, PerRes.get_set_self]
  exact ⟨trivial, rfl⟩

end

/-! ### The ages at a second event (04 R69) -/

/-- What the sync, the lease monitor and the table read of one another is as it was. -/
def SameMonitor (s t : State) : Prop :=
  t.share = s.share ∧ t.lease = s.lease ∧ t.mode.mode = s.mode.mode ∧ t.mode.suspect = s.mode.suspect ∧
    t.mode.sync = s.mode.sync

theorem SameMonitor.trans {s t u : State} (h1 : SameMonitor s t) (h2 : SameMonitor t u) : SameMonitor s u := by
  obtain ⟨hs1, hl1, hm1, hq1, hy1⟩ := h1
  obtain ⟨hs2, hl2, hm2, hq2, hy2⟩ := h2
  exact ⟨hs2.trans hs1, hl2.trans hl1, hm2.trans hm1, hq2.trans hq1, hy2.trans hy1⟩

/-- A station that is not ACTIVE with its mark set does not doubt. -/
theorem State.doubtTest_clear (s : State) (h : s.mode.mode = .active → s.mode.suspect = false) : s.doubtTest = s := by
  refine if_neg fun hd => ?_
  simp only [Bool.and_eq_true] at hd
  simp [h (s.active_iff.mp hd.1.1)] at hd

theorem State.removeSilent_sameMonitor (a : Nat) (s : State) (h : s.mode.mode = .active → s.mode.suspect = false) :
    SameMonitor s (s.removeSilent a) := by
  unfold State.removeSilent
  split_ifs
  · rw [State.doubtTest_clear]
    · exact ⟨rfl, rfl, rfl, rfl, rfl⟩
    · exact h
  · exact ⟨rfl, rfl, rfl, rfl, rfl⟩

theorem State.takeSilent_sameMonitor (s : State) (h : s.mode.mode = .active → s.mode.suspect = false) :
    SameMonitor s s.takeSilent := by
  unfold State.takeSilent
  generalize [1, 2, 3, 4, 5, 6, 7, 8, 9, 10, 11, 12] = l
  induction l generalizing s with
  | nil => exact ⟨rfl, rfl, rfl, rfl, rfl⟩
  | cons a as ih =>
    have hone := s.removeSilent_sameMonitor a h
    obtain ⟨-, -, hm, hq, -⟩ := id hone
    exact hone.trans (ih _ (by rw [hm, hq]; exact h))

theorem State.announceTimer_sameMonitor (s : State) : SameMonitor s s.announceTimer := by
  unfold State.announceTimer
  split_ifs <;> exact ⟨rfl, rfl, rfl, rfl, rfl⟩

theorem State.answerWait_running (s : State)
    (h : s.mode.mode = .joining ∨ s.mode.mode = .doubtful → s.mode.sync.stage ≠ .listening ∨ s.mode.sync.wait ≠ 2) :
    s.answerWait = s := by
  refine if_neg fun ⟨hs, hstage, hwait⟩ => ?_
  exact (h (s.syncing_iff.mp hs)).elim (· hstage) (· hwait)

/-- Where no table is given up, the thresholds left over leave table and leases. -/
theorem State.takeDue_share_lease (s : State) (hclear : s.mode.mode = .active → s.mode.suspect = false)
    (hwait : s.mode.mode = .joining ∨ s.mode.mode = .doubtful → s.mode.sync.stage ≠ .listening ∨ s.mode.sync.wait ≠ 2) :
    s.takeDue.share = s.share ∧ s.takeDue.lease = s.lease := by
  have hfirst : SameMonitor s (State.starveDue .heat (State.starveDue .gas (State.starveDue .chill
      s.minuteEvent.hourEvent.driftDue.emptyDue.foamDue.settleDue))) := by simp [SameMonitor]
  unfold State.takeDue
  dsimp only
  generalize State.starveDue .heat (State.starveDue .gas (State.starveDue .chill
    s.minuteEvent.hourEvent.driftDue.emptyDue.foamDue.settleDue)) = u at hfirst ⊢
  have hsilent : SameMonitor s u.takeSilent := by
    obtain ⟨-, -, hm, hq, -⟩ := id hfirst
    exact hfirst.trans (u.takeSilent_sameMonitor (by rw [hm, hq]; exact hclear))
  have hannounced := hsilent.trans u.takeSilent.announceTimer_sameMonitor
  generalize u.takeSilent.announceTimer = v at hannounced ⊢
  obtain ⟨hshare, hlease, hm, -, hy⟩ := hannounced
  rw [v.answerWait_running (by rw [hm, hy]; exact hwait)]
  simp [hshare, hlease]

theorem exec_secondEvent (s : State) (probe pressure : Int) (hrun : s.power = .running) (hload : s.load ≠ .delay) :
    exec (.secondEvent probe pressure) s = .next (s.second probe pressure) := by
  change execSecondEvent probe pressure s = _
  rw [execSecondEvent, whileRunning_on s _ hrun, if_neg hload]

/-- Past the thresholds left over, a second event counts on every age and leaves the table. -/
theorem State.sampleAndCount_share_lease (s : State) (probe pressure : Int) :
    (((s.probeSecond probe).pressureSample pressure).countSecond.retryRequested).share = s.share ∧
      (((s.probeSecond probe).pressureSample pressure).countSecond.retryRequested).lease =
        { s.lease with ages := s.lease.ages.map ageTick } := by
  obtain ⟨hshare, hlease⟩ : ((s.probeSecond probe).pressureSample pressure).share = s.share ∧
      ((s.probeSecond probe).pressureSample pressure).lease = s.lease := by simp
  generalize (s.probeSecond probe).pressureSample pressure = u at hshare hlease ⊢
  exact ⟨hshare, hlease ▸ rfl⟩

/-- Settles O25: ages and expiry record by the report, ages by the second event. -/
theorem leaseAgesAndExpiryRecords : Obligations.LeaseAgesAndExpiryRecords := by
  refine ⟨fun l x rep => ?_, fun s probe pressure hrun hload hclear hwait => ?_⟩
  · intro u ages was
    have hages : ages = reportedAges rep was := by
      simp only [ages, u, LeaseTx.report_ages, PerRes.get_set_self]
      rfl
    refine ⟨l.report_other x rep, fun b hb => ?_, fun b hb => ?_, fun hb => ?_, fun b n r hb hr ht hn => ?_,
      fun b r hb hr ht => ?_, fun hrenewed hremoved => ?_⟩
    · have hstart : ages = startAge b was := by
        rcases hb with rfl | ⟨n, rfl⟩ <;> exact hages
      rw [hstart]
      exact ⟨by rw [ageOf_startAge, if_pos rfl], fun a ha => by rw [ageOf_startAge, if_neg (Ne.symm ha)]⟩
    · subst hb
      rw [hages]
      exact ⟨(ageOf_dropAge b b was).trans (if_pos rfl), fun a ha => (ageOf_dropAge a b was).trans (if_neg (Ne.symm ha))⟩
    · subst hb
      exact l.report_unaffected x
    · subst hb
      simp only [u, l.report_ends_renewed x hr ht hn]
      exact ⟨PerRes.get_set_self _ _ _, rfl⟩
    · subst hb
      exact l.report_ends_removed x hr ht
    · have hsame : u = l.aged x rep := by
        obtain he | ⟨b, n, r, hb, hr, ht, hn, -⟩ | ⟨b, r, hb, hr, ht, -⟩ := (l.aged x rep).reportExpiry_cases x rep
        · exact he
        · exact absurd ⟨b, n, r, hb, hr, ht, hn⟩ hrenewed
        · exact absurd ⟨b, r, hb, hr, ht⟩ hremoved
      rw [hsame]
      exact ⟨rfl, rfl⟩
  · refine ⟨_, exec_secondEvent s probe pressure hrun hload, ?_⟩
    obtain ⟨hshare, hlease⟩ := s.takeDue_share_lease hclear hwait
    rw [State.second]
    generalize s.takeDue = u at hshare hlease ⊢
    obtain ⟨hshare', hlease'⟩ := State.sampleAndCount_share_lease { u with timebase := u.timebase.second } probe pressure
    exact ⟨hshare'.trans hshare, hlease'.trans (by rw [← hlease]; rfl)⟩

end Sys2Proof.Machine
end

section
/-! PROOFS. What a share frame reports to the demand record and what the record then asks for (03 R55, R56, 04 R60 to R65). -/

namespace Sys2Proof.Machine

/-! ### Bringing the frames into line (04 R64) -/

/-- R64's rows read from the top: a lapsed or unneeded entry is yielded, else the need is compared with the standing. -/
theorem DemandRec.wanted_eq (r : DemandRec) :
    r.wanted =
      if (r.lapse = true ∨ r.need = none) ∧ r.standing ≠ .absent then some .yield
      else
        match r.need, r.standing with
        | some _, .absent => some .claim
        | some n, .waiting m => if m = n then none else some .claim
        | some n, .granted m => if m = n ∨ r.resend = true then none else some .claim
        | none, _ => none := by
  unfold DemandRec.wanted
  cases r.lapse <;> cases r.need <;> cases r.standing <;> simp

theorem DemandRec.freeToAsk_iff (r : DemandRec) :
    r.freeToAsk = true ↔ r.pending = none ∨ r.pending.map Pending.kind = some .renew := by
  unfold DemandRec.freeToAsk
  cases r.pending <;> simp

section
variable (d : DemandTx) (active : Bool) (x : Resource)

theorem DemandTx.reconcile_asks (k : PendKind) (ha : active = true) (hp : d.rcd.freeToAsk = true) (hw : d.rcd.wanted = some k) :
    d.reconcile active x = d.ask x k := by
  simp only [DemandTx.reconcile, ha, hp, hw, Bool.and_self, if_true]

theorem DemandTx.reconcile_rests (h : active = true → d.rcd.freeToAsk = true → d.rcd.wanted = none) :
    d.reconcile active x = d := by
  unfold DemandTx.reconcile
  split_ifs with hc
  · obtain ⟨ha, hp⟩ := Bool.and_eq_true_iff.mp hc
    rw [h ha hp]
  · rfl

/-- R64 moves the pending frame and the queue alone. -/
theorem DemandTx.reconcile_rcd : (d.reconcile active x).rcd = { d.rcd with pending := (d.reconcile active x).rcd.pending } := by
  unfold DemandTx.reconcile
  split_ifs
  · split <;> rfl
  · rfl

end

theorem DemandRec.settle_marks (a : Bool) (r : DemandRec) :
    (r.settle a).resend = r.resend ∧ (r.settle a).lapse = r.lapse := by
  unfold DemandRec.settle
  split_ifs <;> exact ⟨rfl, rfl⟩

/-- R64, then the settling of the starve timer: how the processing of a frame ends at a record. -/
def DemandTx.broughtIntoLine (d : DemandTx) (active : Bool) (x : Resource) : DemandTx :=
  ⟨(d.reconcile active x).rcd.settle active, (d.reconcile active x).tx⟩

section
variable (d : DemandTx) (active : Bool) (x : Resource)

theorem DemandTx.broughtIntoLine_fields :
    (d.broughtIntoLine active x).rcd.need = d.rcd.need ∧ (d.broughtIntoLine active x).rcd.standing = d.rcd.standing ∧
      (d.broughtIntoLine active x).rcd.resend = d.rcd.resend ∧ (d.broughtIntoLine active x).rcd.lapse = d.rcd.lapse := by
  have hrec := d.reconcile_rcd active x
  obtain ⟨hstanding, hneed, -⟩ := DemandRec.settle_standing active (d.reconcile active x).rcd
  obtain ⟨hresend, hlapse⟩ := DemandRec.settle_marks active (d.reconcile active x).rcd
  refine ⟨hneed.trans ?_, hstanding.trans ?_, hresend.trans ?_, hlapse.trans ?_⟩ <;> rw [hrec]

theorem DemandTx.broughtIntoLine_pending : (d.broughtIntoLine active x).rcd.pending = (d.reconcile active x).rcd.pending :=
  (DemandRec.settle_standing active (d.reconcile active x).rcd).2.2

theorem DemandTx.broughtIntoLine_asks (k : PendKind) (ha : active = true) (hp : d.rcd.freeToAsk = true)
    (hw : d.rcd.wanted = some k) : AskedFor d.tx x k (d.broughtIntoLine active x) := by
  have hasked := d.ask_askedFor x k
  unfold AskedFor
  rw [d.broughtIntoLine_pending, DemandTx.broughtIntoLine, d.reconcile_asks active x k ha hp hw]
  exact hasked

theorem DemandTx.broughtIntoLine_rests (h : active = true → d.rcd.freeToAsk = true → d.rcd.wanted = none) :
    (d.broughtIntoLine active x).rcd.pending = d.rcd.pending ∧ (d.broughtIntoLine active x).tx = d.tx := by
  rw [d.broughtIntoLine_pending, DemandTx.broughtIntoLine, d.reconcile_rests active x h]
  exact ⟨rfl, rfl⟩

end

/-! ### The reports (03 R56, 04 R62, R63, R65) -/

/-- A frame reports by the own frame's kind, or by the move of the own entry. -/
theorem reportOf_eq (own : Option PendKind) (eff : Effect) (before after : Standing) (pool : Nat) :
    reportOf own eff before after pool =
      match own, before, after with
      | some .claim, _, .granted n => some (if eff.refused then .refused else .granted n)
      | some .claim, _, .waiting n => some (if eff.refused then .refused else .waiting n)
      | some .claim, _, .absent => if eff.refused then some .refused else none
      | some .renew, _, _ => if eff.changed then some .renewed else none
      | some .yield, _, _ => some (.yielded eff.changed)
      | none, .granted _, .waiting _ => some .bumped
      | none, .waiting _, .granted _ => some .promoted
      | none, .granted _, .absent => some .expired
      | none, .waiting _, .absent => some .expired
      | none, _, _ => if eff.freed then some (.freed (pool - (eff.sec.grants.map Entry.amount).sum)) else none := by
  rcases own with _ | k
  · cases before <;> cases after <;> rfl
  · cases k with
    | claim => cases after <;> simp only [reportOf, claimReport] <;> split_ifs <;> rfl
    | renew => rfl
    | yield => rfl

/-- The record once the own frame, if it is one of its kind in flight, has left stage SENT. -/
def DemandRec.afterOwn (r : DemandRec) (own : Option PendKind) : DemandRec :=
  { r with pending := if own.any (fun k => r.pending == some ⟨k, .sent⟩) then none else r.pending }

/-- A report at the end of a frame: noted, and the frames brought into line. -/
theorem DemandTx.finish_report (r : DemandRec) (tx : Tx) (active : Bool) (x : Resource) (own : Option PendKind) (rep : Report) :
    DemandTx.finish ⟨r, tx⟩ active x own (some rep) =
      (DemandTx.note ⟨r.afterOwn own, tx⟩ active x rep).broughtIntoLine active x := by
  have hown : (match own with
      | some k => (⟨r.processed k, tx⟩ : DemandTx)
      | none => ⟨r, tx⟩) = ⟨r.afterOwn own, tx⟩ := by
    cases own with
    | none => rfl
    | some k =>
      by_cases hp : r.pending = some ⟨k, .sent⟩ <;> simp [DemandRec.processed, DemandRec.afterOwn, hp]
  rw [← hown]
  unfold DemandTx.finish
  rfl

section
variable (d : DemandTx) (active : Bool) (x : Resource)

theorem DemandTx.dropExpired_rcd : (d.dropExpired x).rcd = { d.rcd with pending := (d.dropExpired x).rcd.pending } := by
  unfold DemandTx.dropExpired
  split
  · split_ifs <;> rfl
  · split_ifs <;> rfl
  · rfl

theorem DemandTx.resend_frame (free : Nat) :
    (d.resend active x free).rcd.need = d.rcd.need ∧ (d.resend active x free).rcd.standing = d.rcd.standing ∧
      (d.resend active x free).rcd.lapse = d.rcd.lapse := by
  unfold DemandTx.resend
  split
  · split_ifs <;> exact ⟨rfl, rfl, rfl⟩
  · exact ⟨rfl, rfl, rfl⟩

/-- A refused change that the free amount makes good is claimed again. -/
theorem DemandTx.resend_asks {free : Nat} {n g : Need} (ha : active = true) (hn : d.rcd.need = some n)
    (hs : d.rcd.standing = .granted g) (hp : d.rcd.pending = none) (hr : d.rcd.resend = true) (hfree : n.amount ≤ free + g.amount) :
    d.resend active x free = DemandTx.ask ⟨{ d.rcd with resend := false }, d.tx⟩ x .claim := by
  simp [DemandTx.resend, ha, hn, hs, hp, hr, hfree]

theorem DemandTx.resend_rests {free : Nat}
    (h : ¬ (active = true ∧ d.rcd.resend = true ∧ d.rcd.pending = none ∧
      ∃ n g, d.rcd.need = some n ∧ d.rcd.standing = .granted g ∧ n.amount ≤ free + g.amount)) :
    d.resend active x free = d := by
  unfold DemandTx.resend
  split
  · next n g hn hs hp =>
    refine if_neg fun hc => h ?_
    simp only [Bool.and_eq_true, decide_eq_true_eq] at hc
    exact ⟨hc.1.1, hc.1.2, hp, n, g, hn, hs, hc.2⟩
  · rfl

/-- At EXPIRED a RENEW or YIELD that is REQUESTED, or IN-QUEUE and still queued, is withdrawn. -/
theorem DemandTx.dropExpired_recalls {k : PendKind} (hk : k ≠ .claim) :
    (d.rcd.pending = some ⟨k, .requested⟩ → d.dropExpired x = ⟨{ d.rcd with pending := none }, d.tx⟩) ∧
    (d.rcd.pending = some ⟨k, .inQueue⟩ → d.tx.queues (TxFrame.keyedTo x) = true →
      d.dropExpired x = ⟨{ d.rcd with pending := none }, d.tx.withdraw (TxFrame.keyedTo x)⟩) := by
  constructor
  · intro hp
    cases k <;> simp_all [DemandTx.dropExpired, DemandTx.recallable, DemandTx.drop]
  · intro hp hq
    cases k <;> simp_all [DemandTx.dropExpired, DemandTx.recallable, DemandTx.drop, Tx.withdrawShare]

theorem DemandTx.dropExpired_rests
    (h : d.rcd.pending = none ∨ d.rcd.pending.map Pending.kind = some .claim ∨ d.rcd.pending.map Pending.stage = some .sent) :
    d.dropExpired x = d := by
  unfold DemandTx.dropExpired
  split
  · next st hp => cases st <;> simp_all [DemandTx.recallable]
  · next st hp => cases st <;> simp_all [DemandTx.recallable]
  · rfl

/-- A report keeps the need, and sets standing and marks by its kind. -/
theorem DemandTx.note_rcd (rep : Report) :
    (d.note active x rep).rcd.need = d.rcd.need ∧
    (match rep with
      | .granted n =>
        (d.note active x rep).rcd.standing = .granted n ∧ (d.note active x rep).rcd.resend = false ∧
          (d.note active x rep).rcd.lapse = d.rcd.lapse
      | .waiting n =>
        (d.note active x rep).rcd.standing = .waiting n ∧ (d.note active x rep).rcd.resend = d.rcd.resend ∧
          (d.note active x rep).rcd.lapse = d.rcd.lapse
      | .refused =>
        (d.note active x rep).rcd.standing = d.rcd.standing ∧ (d.note active x rep).rcd.resend = true ∧
          (d.note active x rep).rcd.lapse = d.rcd.lapse
      | .renewed =>
        (d.note active x rep).rcd.standing = d.rcd.standing ∧ (d.note active x rep).rcd.resend = d.rcd.resend ∧
          (d.note active x rep).rcd.lapse = d.rcd.lapse
      | .yielded _ | .expired =>
        (d.note active x rep).rcd.standing = .absent ∧ (d.note active x rep).rcd.resend = d.rcd.resend ∧
          (d.note active x rep).rcd.lapse = false
      | .bumped =>
        (d.note active x rep).rcd.standing = d.rcd.standing.toWaiting ∧ (d.note active x rep).rcd.resend = false ∧
          (d.note active x rep).rcd.lapse = d.rcd.lapse
      | .promoted =>
        (d.note active x rep).rcd.standing = d.rcd.standing.toGranted ∧
          (d.note active x rep).rcd.resend = d.rcd.resend ∧ (d.note active x rep).rcd.lapse = d.rcd.lapse
      | .freed _ =>
        (d.note active x rep).rcd.standing = d.rcd.standing ∧ (d.note active x rep).rcd.lapse = d.rcd.lapse) := by
  cases rep with
  | expired =>
    have hdrop := DemandTx.dropExpired_rcd ⟨{ d.rcd with standing := .absent, lapse := false }, d.tx⟩ x
    simp only [DemandTx.note]
    rw [hdrop]
    exact ⟨rfl, rfl, rfl, rfl⟩
  | freed free => exact d.resend_frame active x free
  | _ => exact ⟨rfl, rfl, rfl, rfl⟩

/-- But for EXPIRED and FREED a report leaves the pending frame and the queue. -/
theorem DemandTx.note_pending (rep : Report) (hfreed : ∀ free, rep ≠ .freed free) (hexpired : rep ≠ .expired) :
    (d.note active x rep).rcd.pending = d.rcd.pending ∧ (d.note active x rep).tx = d.tx := by
  cases rep with
  | expired => exact absurd rfl hexpired
  | freed free => exact absurd rfl (hfreed free)
  | _ => exact ⟨rfl, rfl⟩

end

/-- Settles O24: the effect joined to the station by definition; the report noted, then R64 on the record it leaves. -/
theorem shareReportsReachTheRecords : Obligations.ShareReportsReachTheRecords := by
  refine ⟨fun s x own eff => ?_, fun r tx active x own rep => ?_⟩
  · intro v l share before after report d
    have hreport : reportOf own eff before after (poolOf s.cfg x) = report := reportOf_eq ..
    have hd : DemandTx.finish ⟨s.demand.get x, l.tx⟩ s.active x own (reportOf own eff before after (poolOf s.cfg x)) = d := by
      rw [hreport]
      rfl
    rw [← hd]
    rfl
  · intro d pending
    have hd : d = (DemandTx.note ⟨r.afterOwn own, tx⟩ active x rep).broughtIntoLine active x := DemandTx.finish_report ..
    have hnoted := DemandTx.note_rcd ⟨r.afterOwn own, tx⟩ active x rep
    have hpending := DemandTx.note_pending ⟨r.afterOwn own, tx⟩ active x rep
    have hfreed : ∀ free, rep = .freed free →
        DemandTx.note ⟨r.afterOwn own, tx⟩ active x rep = DemandTx.resend ⟨r.afterOwn own, tx⟩ active x free := by
      rintro _ rfl
      rfl
    have hexpired : rep = .expired → DemandTx.note ⟨r.afterOwn own, tx⟩ active x rep =
        DemandTx.dropExpired ⟨{ r.afterOwn own with standing := .absent, lapse := false }, tx⟩ x := by
      rintro rfl
      rfl
    generalize DemandTx.note ⟨r.afterOwn own, tx⟩ active x rep = e at hd hnoted hpending hfreed hexpired
    obtain ⟨hneed, hstanding, hresend, hlapse⟩ := hd ▸ e.broughtIntoLine_fields active x
    obtain ⟨hneed', hreport⟩ := hnoted
    refine ⟨hneed.trans hneed', ?_, ?_⟩
    · cases rep with
      | bumped => exact ⟨fun n hn => by rw [hstanding, hreport.1]; simp [DemandRec.afterOwn, hn, Standing.toWaiting],
          hresend.trans hreport.2.1, hlapse.trans hreport.2.2⟩
      | promoted => exact ⟨fun n hn => by rw [hstanding, hreport.1]; simp [DemandRec.afterOwn, hn, Standing.toGranted],
          hresend.trans hreport.2.1, hlapse.trans hreport.2.2⟩
      | freed free => exact ⟨hstanding.trans hreport.1, hlapse.trans hreport.2⟩
      | _ => exact ⟨hstanding.trans hreport.1, hresend.trans hreport.2.1, hlapse.trans hreport.2.2⟩
    · intro wanted reconciled
      have hwanted : wanted = e.rcd.wanted := by
        rw [e.rcd.wanted_eq, ← hstanding, ← hresend, ← hlapse, hneed']
        rfl
      have hline : reconciled e.rcd.pending e.tx := by
        refine ⟨fun ⟨ha, hp⟩ => ⟨fun k hk => ?_, fun hnone => ?_⟩, fun hnot => ?_⟩
        · exact hd ▸ e.broughtIntoLine_asks active x k ha (e.rcd.freeToAsk_iff.mpr hp) (hwanted ▸ hk)
        · exact hd ▸ e.broughtIntoLine_rests active x (fun _ _ => hwanted ▸ hnone)
        · exact hd ▸ e.broughtIntoLine_rests active x (fun ha hp => absurd ⟨ha, e.rcd.freeToAsk_iff.mp hp⟩ hnot)
      refine ⟨fun free n g hrep ha hn hs hp hr hfree => ?_, fun free hrep hnot => ?_, fun hrep => ⟨fun k hk hp => ?_,
        fun k hk hp hq => ?_, fun hp => ?_⟩, fun hfree hexp => ?_⟩
      · have he := (hfreed free hrep).trans (DemandTx.resend_asks ⟨r.afterOwn own, tx⟩ active x ha hn hs hp hr hfree)
        have hnotfree : e.rcd.freeToAsk = false := by rw [he]; rfl
        obtain ⟨hstands, htx⟩ := hd ▸ e.broughtIntoLine_rests active x (fun _ hp => by simp [hnotfree] at hp)
        have hasked := DemandTx.ask_askedFor ⟨{ r.afterOwn own with resend := false }, tx⟩ x .claim
        rw [← he] at hasked
        refine ⟨?_, by rw [hresend, he]; rfl⟩
        simpa only [AskedFor, hstands, htx] using hasked
      · have he := (hfreed free hrep).trans (DemandTx.resend_rests ⟨r.afterOwn own, tx⟩ active x hnot)
        exact ⟨by rw [hresend, he]; rfl, by rw [he] at hline; exact hline⟩
      · have he := (hexpired hrep).trans ((DemandTx.dropExpired_recalls _ x hk).1 hp)
        rw [he] at hline
        exact hline
      · have he := (hexpired hrep).trans ((DemandTx.dropExpired_recalls _ x hk).2 hp hq)
        rw [he] at hline
        exact hline
      · have he := (hexpired hrep).trans (DemandTx.dropExpired_rests _ x hp)
        rw [he] at hline
        exact hline
      · obtain ⟨hp, htx⟩ := hpending hfree hexp
        rw [hp, htx] at hline
        exact hline

end Sys2Proof.Machine
end

section
/-! PROOFS. The share frames at the station (03 R39, R41, R42, R50 to R53): the row of each, the section it names, the own pending
frame and the own expiry record. -/

namespace Sys2Proof.Machine

/-! ### The frame in hand, taken by its row (02 R25, R26) -/

theorem takeFrame_inHand {s : State} {e : RxEntry} (k : Kind) {ok : FrameClass → Bool} {f : RxEntry → State → State}
    (h : FrameInHand s e k.code k.urgency) (hl : k.lengthOk e.body = true) (ha : k.addressOk e.body = true)
    (hok : ok (dispatchClass s.line.address k e.body) = true) :
    whileRunning s (fun s => takeFrame s ok f) = .next (f e (s.popFrame e)) := by
  obtain ⟨hrun, hhand, hkind, hurgency, hlow, hhigh, hsender⟩ := h
  rw [whileRunning_on s _ hrun, takeFrame_some s ok f e hhand]
  rwa [classify_of _ e k hkind hurgency hlow hhigh hsender hl ha]

section
variable {s : State} {e : RxEntry}

theorem exec_claim (h : FrameInHand s e 0x11 1) (hl : e.body.length = 3) :
    exec .claim s = .next ((s.popFrame e).claimFrame e) :=
  takeFrame_inHand .claim h (beq_iff_eq.mpr hl) rfl rfl

theorem exec_renew (h : FrameInHand s e 0x12 0) (hl : e.body.length = 1) :
    exec .renew s = .next ((s.popFrame e).renewFrame e) :=
  takeFrame_inHand .renew h (beq_iff_eq.mpr hl) rfl rfl

theorem exec_yield (h : FrameInHand s e 0x13 0) (hl : e.body.length = 1) (hone : e.body ≠ [codeAll]) :
    exec .yield s = .next ((s.popFrame e).yieldFrame e) :=
  takeFrame_inHand .yield h (beq_iff_eq.mpr hl) rfl (by simp [dispatchClass, hone])

theorem exec_yieldAll (h : FrameInHand s e 0x13 0) (hall : e.body = [codeAll]) :
    exec .yieldAll s = .next ((s.popFrame e).yieldAllFrame e) :=
  takeFrame_inHand .yield h (by rw [hall]; rfl) rfl (by simp [dispatchClass, hall])

theorem exec_expire (h : FrameInHand s e 0x14 0) (hl : e.body.length = 3) :
    exec .expire s = .next ((s.popFrame e).expireFrame e) :=
  takeFrame_inHand .expire h (beq_iff_eq.mpr hl) rfl rfl

end

theorem resourceCode_ne_all (x : Resource) : [resourceCode x] ≠ [codeAll] := by cases x <;> decide

theorem classOf_eq_some {b : Byte} {c : Cls} (h : classOf b = some c) : b = nat8 c.rank := by
  apply BitVec.eq_of_toNat_eq
  unfold classOf at h
  split at h <;> cases h <;> assumption

/-! ### The section a frame names (03 R41) -/

section
variable {s : State} {x : Resource}

theorem Share.liveSection_some {sh : Share} {t : PerRes Section} (ht : sh.table = some t) (hlive : (t.get x).live = true) :
    sh.liveSection x = some (t.get x) := by
  simp [Share.liveSection, ht, hlive]

theorem Share.liveSection_none {sh : Share} (h : sh.table = none ∨ ∃ t, sh.table = some t ∧ (t.get x).live = false) :
    sh.liveSection x = none := by
  rcases h with ht | ⟨t, ht, hlive⟩
  · simp [Share.liveSection, ht]
  · simp [Share.liveSection, ht, hlive]

theorem State.shareFrame_live {own : Option PendKind} {f : Section → Option Effect} {sec : Section} {eff : Effect}
    (hsec : s.share.liveSection x = some sec) (hf : f sec = some eff) :
    s.shareFrame x own f = (s.applyEffect x own eff).countChange eff.changed := by
  simp [State.shareFrame, hsec, hf]

theorem State.shareFrame_void {own : Option PendKind} {f : Section → Option Effect}
    (h : (s.share.liveSection x).bind f = none) : s.shareFrame x own f = s.ownProcessed x own := by
  simp [State.shareFrame, h]

/-- The table after a frame acted on one of its sections, and the change it counts. -/
theorem State.applyEffect_counted {t : PerRes Section} (own : Option PendKind) (eff : Effect) (ht : s.share.table = some t) :
    (s.applyEffect x own eff).countChange eff.changed =
      { s.applyEffect x own eff with
        share := ⟨some (t.set x eff.sec), if eff.changed then s.share.changeCount + 1 else s.share.changeCount⟩ } := by
  have hshare : (s.applyEffect x own eff).share = ⟨some (t.set x eff.sec), s.share.changeCount⟩ := by
    change s.share.setSection x eff.sec = _
    simp [Share.setSection, ht]
  simp only [State.countChange, Share.count, hshare]

end

/-! ### The own frame (04 R60, R73) -/

theorem Tx.putStage_ne_sent (tx : Tx) : tx.putStage ≠ .sent := by
  unfold Tx.putStage
  split_ifs <;> simp

/-- R64 leaves the pending frame, or asks for one that is not sent yet. -/
theorem DemandTx.reconcile_pending (d : DemandTx) (active : Bool) (x : Resource) :
    (d.reconcile active x).rcd.pending = d.rcd.pending ∨
      ∃ k, (d.reconcile active x).rcd.pending = some ⟨k, d.tx.putStage⟩ := by
  unfold DemandTx.reconcile
  split_ifs
  · split
    · exact .inr ⟨_, rfl⟩
    · exact .inl rfl
  · exact .inl rfl

/-- The own frame that has been processed is no longer on its way. -/
theorem DemandTx.finish_own (d : DemandTx) (active : Bool) (x : Resource) (k : PendKind) :
    (d.finish active x (some k) none).rcd.pending ≠ some ⟨k, .sent⟩ := by
  unfold DemandTx.finish
  dsimp only
  rw [(DemandRec.settle_standing _ _).2.2]
  by_cases hp : d.rcd.pending = some ⟨k, .sent⟩
  · have hnone : (d.rcd.processed k).pending = none := by simp [DemandRec.processed, hp]
    simp only [hnone, hp, Option.isSome_none, Bool.false_or, ne_eq, reduceCtorEq, not_false_eq_true, decide_true, if_true]
    obtain hsame | ⟨w, hasked⟩ := DemandTx.reconcile_pending ⟨d.rcd.processed k, d.tx⟩ active x
    · rw [hsame, hnone]
      simp
    · rw [hasked]
      simpa using fun _ => d.tx.putStage_ne_sent
  · have hsame : d.rcd.processed k = d.rcd := if_neg hp
    simpa [hsame] using hp

theorem State.ownProcessed_none (s : State) (x : Resource) : s.ownProcessed x none = s := rfl

theorem State.ownProcessed_pending (s : State) (x : Resource) (k : PendKind) :
    ((s.ownProcessed x (some k)).demand.get x).pending ≠ some ⟨k, .sent⟩ := by
  have hrcd : (s.ownProcessed x (some k)).demand.get x =
      (DemandTx.finish ⟨s.demand.get x, s.tx⟩ s.active x (some k) none).rcd := PerRes.get_set_self _ _ _
  rw [hrcd]
  exact DemandTx.finish_own _ _ x k

/-- The monitor's records once a share frame of a kind, or an EXPIRE, has been processed: only the own EXPIRE ends one. -/
def Lease.endedBy (l : Lease) (x : Resource) (own : Prop) [Decidable own] (kind : Option PendKind) : Lease :=
  match l.expiry.get x with
  | some r => if own ∧ kind = none ∧ r.sent = true then { l with expiry := l.expiry.set x none } else l
  | none => l

theorem Lease.endedBy_kind (l : Lease) (x : Resource) (own : Prop) [Decidable own] (k : PendKind) :
    l.endedBy x own (some k) = l := by
  unfold Lease.endedBy
  split
  · exact if_neg (by simp)
  · rfl

theorem Lease.endedBy_own (l : Lease) (x : Resource) (own : Prop) [Decidable own] (h : own) :
    l.endedBy x own none = l.endSent x := by
  unfold Lease.endedBy Lease.endSent
  cases l.expiry.get x <;> simp [h]

theorem Lease.endedBy_other (l : Lease) (x : Resource) (own : Prop) [Decidable own] (h : ¬ own) :
    l.endedBy x own none = l := by
  unfold Lease.endedBy
  cases l.expiry.get x <;> simp [h]

theorem State.endOwnExpire_eq (s : State) (e : RxEntry) (x : Resource) (own : Nat) :
    s.endOwnExpire (e.sender == own) x = { s with lease := s.lease.endedBy x (e.sender = own) none } := by
  unfold State.endOwnExpire
  by_cases h : e.sender = own
  · rw [Lease.endedBy_own _ _ _ h, if_pos (beq_iff_eq.mpr h)]
  · rw [Lease.endedBy_other _ _ _ h, if_neg (by simpa using h)]

/-! ### A frame against the section it names -/

/-- What a share frame in hand does by its row: to a LIVE section, where none is LIVE, and from no keg station. -/
def ActsOnSection (s : State) (e : RxEntry) (x : Resource) (c : Instr) (kind : Option PendKind) (eff : Section → Effect) : Prop :=
  (IsBay e.sender → ∀ t sec, s.share.table = some t → t.get x = sec → sec.live = true →
    exec c s = .next { State.applyEffect (s.popFrame e) x (if e.sender = s.line.address then kind else none) (eff sec) with
      share := ⟨some (t.set x (eff sec).sec), if (eff sec).changed then s.share.changeCount + 1 else s.share.changeCount⟩
      lease := (State.applyEffect (s.popFrame e) x (if e.sender = s.line.address then kind else none) (eff sec)).lease.endedBy x
        (e.sender = s.line.address) kind }) ∧
  (IsBay e.sender → (s.share.table = none ∨ ∃ t, s.share.table = some t ∧ (t.get x).live = false) →
    (e.sender = s.line.address → ∃ u, exec c s = .next u ∧ u.share = s.share ∧
      u.lease = s.lease.endedBy x (e.sender = s.line.address) kind ∧
      (∀ k, kind = some k → (u.demand.get x).pending ≠ some ⟨k, .sent⟩)) ∧
    (¬ e.sender = s.line.address → exec c s = .next (s.popFrame e))) ∧
  (¬ IsBay e.sender → exec c s = .next (s.popFrame e))

/-- A row that takes its frame to `shareFrame` acts on the section it names. -/
theorem actsOnSection_of_kind {s : State} {e : RxEntry} {x : Resource} {c : Instr} {k : PendKind} {f : Section → Option Effect}
    {eff : Section → Effect} (hf : ∀ sec, f sec = some (eff sec))
    (hbay : IsBay e.sender →
      exec c s = .next ((s.popFrame e).shareFrame x (if e.sender = s.line.address then some k else none) f))
    (hother : ¬ IsBay e.sender → exec c s = .next (s.popFrame e)) : ActsOnSection s e x c (some k) eff := by
  refine ⟨fun hb t sec ht hsec hlive => ?_, fun hb hvoid => ?_, hother⟩
  · subst hsec
    rw [hbay hb, State.shareFrame_live (s := s.popFrame e) (Share.liveSection_some ht hlive) (hf _),
      State.applyEffect_counted (s := s.popFrame e) _ _ ht, Lease.endedBy_kind]
    rfl
  · have hexec := hbay hb
    rw [State.shareFrame_void (s := s.popFrame e) (by rw [State.popFrame_share, Share.liveSection_none hvoid]; rfl)] at hexec
    refine ⟨fun hown => ⟨_, hexec, by simp, by simp [Lease.endedBy_kind], ?_⟩, fun hnot => ?_⟩
    · rintro _ ⟨⟩
      rw [if_pos hown]
      exact State.ownProcessed_pending _ x k
    · rw [hexec, if_neg hnot, State.ownProcessed_none]

/-- The same of an EXPIRE, which ends the own expiry record besides. -/
theorem actsOnSection_of_expire {s : State} {e : RxEntry} {x : Resource} {c : Instr} {f : Section → Option Effect}
    {eff : Section → Effect} (hf : ∀ sec, f sec = some (eff sec))
    (hbay : IsBay e.sender →
      exec c s = .next (((s.popFrame e).shareFrame x none f).endOwnExpire (e.sender == s.line.address) x))
    (hother : ¬ IsBay e.sender → exec c s = .next (s.popFrame e)) : ActsOnSection s e x c none eff := by
  simp only [State.endOwnExpire_eq] at hbay
  refine ⟨fun hb t sec ht hsec hlive => ?_, fun hb hvoid => ?_, hother⟩
  · subst hsec
    rw [hbay hb, State.shareFrame_live (s := s.popFrame e) (Share.liveSection_some ht hlive) (hf _),
      State.applyEffect_counted (s := s.popFrame e) _ _ ht, ite_self]
    rfl
  · have hexec := hbay hb
    rw [State.shareFrame_void (s := s.popFrame e) (by rw [State.popFrame_share, Share.liveSection_none hvoid]; rfl),
      State.ownProcessed_none] at hexec
    refine ⟨fun _ => ⟨_, hexec, rfl, rfl, fun k hk => by cases hk⟩, fun hnot => ?_⟩
    rw [hexec, Lease.endedBy_other _ _ _ hnot]

/-! ### The frames of the five kinds -/

section
variable {s : State} {e : RxEntry} {x : Resource}

theorem State.claimFrame_of_bay {amount cls : Byte} (hb : e.body = [resourceCode x, amount, cls]) (hbay : IsBay e.sender) :
    s.claimFrame e = s.shareFrame x (ownKind e s .claim) (claimEffect s.cfg x e.sender amount.toNat cls) := by
  simp only [State.claimFrame, hb, (kegAddress_iff _).mpr hbay, resourceOf_code]

theorem State.claimFrame_of_other {amount cls : Byte} (hb : e.body = [resourceCode x, amount, cls]) (hbay : ¬ IsBay e.sender) :
    s.claimFrame e = s := by
  simp only [State.claimFrame, hb, Bool.eq_false_iff.mpr (mt (kegAddress_iff _).mp hbay)]

theorem claimEffect_valid {cfg : WorkingCopy} {bay amount : Nat} {c : Cls} (h1 : 1 ≤ amount) (hpool : amount ≤ poolOf cfg x)
    (hc : c.belongs x = true) (sec : Section) :
    claimEffect cfg x bay amount (nat8 c.rank) sec = some (claimIn (poolOf cfg x) sec bay amount c) := by
  simp [claimEffect, classOf_rank, h1, hpool, hc]

theorem claimEffect_invalid {cfg : WorkingCopy} {bay : Nat} {amount cls : Byte}
    (h : amount = 0 ∨ poolOf cfg x < amount.toNat ∨ ∀ c : Cls, cls = nat8 c.rank → c.belongs x = false) (sec : Section) :
    claimEffect cfg x bay amount.toNat cls sec = none := by
  unfold claimEffect
  split
  · next c hc =>
    refine if_neg fun ⟨h1, hpool, hbelongs⟩ => ?_
    rcases h with rfl | hover | hnone
    · simp at h1
    · omega
    · simp [hnone c (classOf_eq_some hc)] at hbelongs
  · rfl

theorem State.renewFrame_of_bay (hb : e.body = [resourceCode x]) (hbay : IsBay e.sender) :
    s.renewFrame e = s.shareFrame x (ownKind e s .renew) (fun sec => some (renewIn (poolOf s.cfg x) sec e.sender)) := by
  simp only [State.renewFrame, hb, (kegAddress_iff _).mpr hbay, resourceOf_code]

theorem State.renewFrame_of_other (hb : e.body = [resourceCode x]) (hbay : ¬ IsBay e.sender) : s.renewFrame e = s := by
  simp only [State.renewFrame, hb, Bool.eq_false_iff.mpr (mt (kegAddress_iff _).mp hbay)]

theorem State.yieldFrame_of_bay (hb : e.body = [resourceCode x]) (hbay : IsBay e.sender) :
    s.yieldFrame e = s.shareFrame x (ownKind e s .yield) (fun sec => some (yieldIn (poolOf s.cfg x) sec e.sender)) := by
  simp only [State.yieldFrame, hb, (kegAddress_iff _).mpr hbay, resourceOf_code]

theorem State.yieldFrame_of_other (hb : e.body = [resourceCode x]) (hbay : ¬ IsBay e.sender) : s.yieldFrame e = s := by
  simp only [State.yieldFrame, hb, Bool.eq_false_iff.mpr (mt (kegAddress_iff _).mp hbay)]

theorem State.expireFrame_of_bay {target count : Byte} (hb : e.body = [target, resourceCode x, count]) (hbay : IsBay e.sender) :
    s.expireFrame e =
      (s.shareFrame x none (expireEffect s.cfg x target.toNat count)).endOwnExpire (e.sender == s.line.address) x := by
  simp only [State.expireFrame, hb, (kegAddress_iff _).mpr hbay, resourceOf_code]

theorem State.expireFrame_of_other {target count : Byte} (hb : e.body = [target, resourceCode x, count])
    (hbay : ¬ IsBay e.sender) : s.expireFrame e = s := by
  simp only [State.expireFrame, hb, Bool.eq_false_iff.mpr (mt (kegAddress_iff _).mp hbay)]

end

/-! ### YIELD-ALL (03 R52) -/

/-- A section after a bay's YIELD, an UNRECEIVED one passed over. -/
def yieldedSection (pool bay : Nat) (sec : Section) : Section := if sec.live then (yieldIn pool sec bay).sec else sec

theorem entryOf_isSome (bay : Nat) (sec : Section) :
    (entryOf bay sec).isSome = (sec.grants ++ sec.waits).any (fun g => g.bay == bay) := by
  rw [Bool.eq_iff_iff, entryOf, findBay, List.find?_isSome, List.any_eq_true]

theorem yieldedSection_eq (pool bay : Nat) (sec : Section) :
    yieldedSection pool bay sec =
      if sec.live && (sec.grants ++ sec.waits).any (fun g => g.bay == bay) then
        promote pool { sec with
          grants := sec.grants.filter (fun g => g.bay != bay), waits := sec.waits.filter (fun g => g.bay != bay) }
      else sec := by
  rw [← entryOf_isSome]
  unfold yieldedSection yieldIn
  cases hlive : sec.live with
  | false => rfl
  | true => cases entryOf bay sec <;> simp [removeIn, dropBay, Effect.none, hlive]

theorem State.bayHolds_eq {s : State} {t : PerRes Section} (ht : s.share.table = some t) (bay : Nat) (x : Resource) :
    s.bayHolds bay x = ((t.get x).live && ((t.get x).grants ++ (t.get x).waits).any (fun g => g.bay == bay)) := by
  unfold State.bayHolds
  cases hlive : (t.get x).live with
  | true => rw [Share.liveSection_some ht hlive, ← entryOf_isSome]; rfl
  | false => rw [Share.liveSection_none (.inr ⟨t, ht, hlive⟩)]; rfl

/-- A YIELD-ALL at one section, on a state in which those before it have been acted on. -/
def State.yieldAt (s : State) (cfg : WorkingCopy) (own : Nat) (sec : Section) (x : Resource) (e : RxEntry) : State :=
  if sec.live then
    s.applyEffect x (if e.sender = own then some .yield else none) (yieldIn (poolOf cfg x) sec e.sender)
  else s

section
variable {s : State} {t : PerRes Section} (x : Resource) (e : RxEntry) (ht : s.share.table = some t)
include ht

theorem State.yieldOne_eq : s.yieldOne x e = s.yieldAt s.cfg s.line.address (t.get x) x e := by
  unfold State.yieldOne State.yieldAt
  cases hlive : (t.get x).live with
  | true => rw [Share.liveSection_some ht hlive]; rfl
  | false => rw [Share.liveSection_none (.inr ⟨t, ht, hlive⟩)]; rfl

theorem State.yieldOne_share :
    (s.yieldOne x e).share =
      ⟨some (t.set x (yieldedSection (poolOf s.cfg x) e.sender (t.get x))), s.share.changeCount⟩ := by
  rw [s.yieldOne_eq x e ht]
  unfold State.yieldAt yieldedSection
  cases (t.get x).live with
  | true =>
    change s.share.setSection x _ = _
    simp [Share.setSection, ht]
  | false =>
    simp only [Bool.false_eq_true, if_false, PerRes.set_get, ← ht]

/-- A YIELD-ALL acts on the three sections in their order and counts one change. -/
theorem State.yieldAllFrame_eq (hbay : IsBay e.sender) :
    s.yieldAllFrame e =
      { (((s.yieldAt s.cfg s.line.address t.chill .chill e).yieldAt s.cfg s.line.address t.gas .gas e).yieldAt
          s.cfg s.line.address t.heat .heat e) with
        share := ⟨some ⟨yieldedSection (poolOf s.cfg .chill) e.sender t.chill, yieldedSection (poolOf s.cfg .gas) e.sender t.gas,
            yieldedSection (poolOf s.cfg .heat) e.sender t.heat⟩,
          if s.bayHolds e.sender .chill || s.bayHolds e.sender .gas || s.bayHolds e.sender .heat then
            s.share.changeCount + 1 else s.share.changeCount⟩ } := by
  obtain ⟨hc1, hl1⟩ : (s.yieldOne .chill e).cfg = s.cfg ∧ (s.yieldOne .chill e).line = s.line := by simp
  obtain ⟨hc2, hl2⟩ : ((s.yieldOne .chill e).yieldOne .gas e).cfg = s.cfg ∧
    ((s.yieldOne .chill e).yieldOne .gas e).line = s.line := by simp
  have hs1 : (s.yieldOne .chill e).share =
      ⟨some ⟨yieldedSection (poolOf s.cfg .chill) e.sender t.chill, t.gas, t.heat⟩, s.share.changeCount⟩ :=
    s.yieldOne_share .chill e ht
  have hs2 : ((s.yieldOne .chill e).yieldOne .gas e).share =
      ⟨some ⟨yieldedSection (poolOf s.cfg .chill) e.sender t.chill, yieldedSection (poolOf s.cfg .gas) e.sender t.gas, t.heat⟩,
        s.share.changeCount⟩ := by
    rw [State.yieldOne_share .gas e (congrArg Share.table hs1), hc1, hs1]
    rfl
  have hs3 := State.yieldOne_share .heat e (congrArg Share.table hs2)
  rw [hc2, hs2] at hs3
  have he3 : ((s.yieldOne .chill e).yieldOne .gas e).yieldOne .heat e =
      ((s.yieldAt s.cfg s.line.address t.chill .chill e).yieldAt s.cfg s.line.address t.gas .gas e).yieldAt
        s.cfg s.line.address t.heat .heat e := by
    rw [State.yieldOne_eq .heat e (congrArg Share.table hs2), hc2, hl2, State.yieldOne_eq .gas e (congrArg Share.table hs1),
      hc1, hl1, s.yieldOne_eq .chill e ht]
    rfl
  rw [State.yieldAllFrame, if_pos ((kegAddress_iff _).mpr hbay)]
  simp only [State.countChange, Share.count, hs3]
  rw [he3]
  rfl

end

/-- Settles O23: each row takes its frame to the section it names; YIELD-ALL takes it to the three in their order. -/
theorem shareFramesActOnTheNamedSections : Obligations.ShareFramesActOnTheNamedSections := by
  refine ⟨fun s e x => ⟨fun amount cls h hb h1 hpool hc => ?_, fun amount cls h hb hinvalid => ?_, fun h hb => ?_, fun h hb => ?_,
    fun target count h hb htarget => ?_, fun target count h hb htarget hbay => ?_⟩, fun s e t h hb hbay ht => ?_⟩
  · have hexec := exec_claim h (by rw [hb]; rfl)
    exact actsOnSection_of_kind (claimEffect_valid h1 hpool hc)
      (fun hbay => by rw [hexec, State.claimFrame_of_bay hb hbay]; rfl)
      (fun hbay => by rw [hexec, State.claimFrame_of_other hb hbay])
  · have hexec := exec_claim h (by rw [hb]; rfl)
    refine ⟨_, hexec, ?_⟩
    by_cases hbay : IsBay e.sender
    · rw [State.claimFrame_of_bay hb hbay, State.shareFrame_void]
      · simp
      · exact Option.bind_eq_none_iff.mpr fun sec _ => claimEffect_invalid hinvalid sec
    · rw [State.claimFrame_of_other hb hbay]
      exact ⟨rfl, rfl⟩
  · have hexec := exec_renew h (by rw [hb]; rfl)
    exact actsOnSection_of_kind (fun _ => rfl)
      (fun hbay => by rw [hexec, State.renewFrame_of_bay hb hbay]; rfl)
      (fun hbay => by rw [hexec, State.renewFrame_of_other hb hbay])
  · have hexec := exec_yield h (by rw [hb]; rfl) (by rw [hb]; exact resourceCode_ne_all x)
    exact actsOnSection_of_kind (fun _ => rfl)
      (fun hbay => by rw [hexec, State.yieldFrame_of_bay hb hbay]; rfl)
      (fun hbay => by rw [hexec, State.yieldFrame_of_other hb hbay])
  · have hexec := exec_expire h (by rw [hb]; rfl)
    exact actsOnSection_of_expire (f := expireEffect s.cfg x target.toNat count)
      (fun sec => if_pos ((kegAddress_iff _).mpr htarget))
      (fun hbay => by rw [hexec, State.expireFrame_of_bay hb hbay]; rfl)
      (fun hbay => by rw [hexec, State.expireFrame_of_other hb hbay])
  · rw [exec_expire h (by rw [hb]; rfl), State.expireFrame_of_bay hb hbay, State.shareFrame_void, State.ownProcessed_none,
      State.endOwnExpire_eq]
    · simp only [Lease.endedBy, true_and]
      rfl
    · exact Option.bind_eq_none_iff.mpr fun sec _ => if_neg (mt (kegAddress_iff _).mp htarget)
  · intro held after one
    have hafter : ∀ x, yieldedSection (poolOf s.cfg x) e.sender (t.get x) = after x := fun x => yieldedSection_eq _ _ _
    have hheld : ∀ x, (s.popFrame e).bayHolds e.sender x = held (t.get x) :=
      fun x => State.bayHolds_eq (s := s.popFrame e) ht e.sender x
    rw [exec_yieldAll h hb, State.yieldAllFrame_eq (s := s.popFrame e) e ht hbay, hheld, hheld, hheld, ← hafter, ← hafter,
      ← hafter]
    rfl

end Sys2Proof.Machine
end

section
/-! PROOFS. SYNC-TABLE and SYNC-ASK (02 R28, 03 R54, 05 R88 to R90, R94): a section on the wire read back or refused, its adoption,
and the answer to an ask. -/

namespace Sys2Proof.Machine

/-! ### A section on the wire (02 R28, 03 R54) -/

theorem join16_bytes (w : Word) : join16 (hiByte w) (loByte w) = w := by
  apply BitVec.eq_of_toNat_eq
  rw [join16_eq]
  have := w.isLt
  simp only [hiByte, loByte, BitVec.toNat_ofNat, BitVec.toNat_setWidth, BitVec.toNat_ushiftRight, Nat.shiftRight_eq_div_pow]
  omega

/-- The class character carries class and entry state apart. -/
theorem sectionEntry_cls (isGrant : Bool) (c : Cls) :
    let cs := nat8 (c.rank + if isGrant then 128 else 0)
    classOf (cs &&& 0x0F) = some c ∧ cs &&& 0x70 = 0 ∧ cs.msb = isGrant := by
  cases isGrant <;> cases c <;> decide

/-- The entries a section carries are read back. -/
theorem readEntries_sectionEntry (isGrant : Bool) (es : List Entry) (h : ∀ e ∈ es, IsBay e.bay ∧ e.amount ≤ 255) :
    readEntries isGrant (es.flatMap (sectionEntry isGrant)) = some es := by
  induction es with
  | nil => rfl
  | cons e es ih =>
    obtain ⟨⟨hbay, hamount⟩, hrest⟩ := List.forall_mem_cons.mp h
    obtain ⟨hc, hzero, hmsb⟩ := sectionEntry_cls isGrant e.cls
    have hb : (nat8 e.bay).toNat = e.bay := nat8_toNat _ (by omega)
    have ha : (nat8 e.amount).toNat = e.amount := nat8_toNat _ (by omega)
    exact readEntries_cons.mpr ⟨e.cls, es, hc, ih hrest, ⟨by rw [hb]; exact hbay.1, by rw [hb]; exact hbay.2, hzero, hmsb⟩,
      by rw [hb, ha]⟩

theorem flatMap_length_four {α : Type} (f : α → List Byte) (hf : ∀ a, (f a).length = 4) (l : List α) :
    (l.flatMap f).length = 4 * l.length := by
  induction l with
  | nil => rfl
  | cons a as ih => rw [List.flatMap_cons, List.length_append, hf, ih, List.length_cons]; omega

/-- The body of a SYNC-TABLE is read as the entries its two runs carry, if they pass the checks of R54. -/
theorem readSection_iff {pool : Nat} {x : Resource} {asker res k1 k0 : Byte} {g w : Nat} {gl wl : List Byte}
    {p : Section × Word} (hg : g ≤ 8) (hlen : gl.length = 4 * g) :
    readSection pool x (asker :: res :: k1 :: k0 :: nat8 g :: nat8 w :: (gl ++ wl)) = some p ↔
      ∃ gs ws, readEntries true gl = some gs ∧ readEntries false wl = some ws ∧ sectionOk pool x ⟨true, gs, ws⟩ = true ∧
        p = (⟨true, gs, ws⟩, join16 k1 k0) := by
  have hn : 4 * (nat8 g).toNat = gl.length := by rw [nat8_toNat g (by omega), hlen]
  simp only [readSection, hn, List.take_left', List.drop_left']
  constructor
  · intro h
    split at h
    · next gs ws hgs hws =>
      split_ifs at h with hok
      exact ⟨gs, ws, hgs, hws, hok, (Option.some.inj h).symm⟩
    · cases h
  · rintro ⟨gs, ws, hgs, hws, hok, rfl⟩
    simp only [hgs, hws]
    exact if_pos hok

theorem syncLengthOk_of {asker res k1 k0 : Byte} {g w : Nat} {gl wl : List Byte} (hsum : g + w ≤ 8)
    (hg : gl.length = 4 * g) (hw : wl.length = 4 * w) :
    syncLengthOk (asker :: res :: k1 :: k0 :: nat8 g :: nat8 w :: (gl ++ wl)) = true := by
  simp only [syncLengthOk, nat8_toNat g (by omega), nat8_toNat w (by omega), List.length_append, hg, hw, Bool.and_eq_true,
    decide_eq_true_eq, beq_iff_eq]
  omega

/-- The body R28 lays out, character by character. -/
theorem sectionBody_eq (x : Resource) (count : Word) (sec : Section) :
    sectionBody x count sec =
      resourceCode x :: hiByte count :: loByte count :: nat8 sec.grants.length :: nat8 sec.waits.length ::
        (sec.grants.flatMap (sectionEntry true) ++ sec.waits.flatMap (sectionEntry false)) := rfl

/-- A section that keeps its laws is read back from the wire. -/
theorem readSection_sectionBody {cfg : WorkingCopy} {x : Resource} {sec : Section} (asker : Byte) (count : Word)
    (hpool : poolOf cfg x ≤ 255) (hlive : sec.live = true) (hlaw : sectionLaw cfg x sec = true)
    (hlen : (sec.grants ++ sec.waits).length ≤ 8) :
    readSection (poolOf cfg x) x (asker :: sectionBody x count sec) = some (sec, count) := by
  have hfits := ((sectionLaw_iff hlive).mp hlaw).1.entries.1
  have hsmall : ∀ e ∈ sec.grants ++ sec.waits, IsBay e.bay ∧ e.amount ≤ 255 := fun e he =>
    ⟨(hfits e he).1, (hfits e he).2.2.1.trans hpool⟩
  have hok : sectionOk (poolOf cfg x) x sec = true := by
    simp only [sectionLaw, hlive, if_true, Bool.and_eq_true] at hlaw
    exact hlaw.1
  rw [List.length_append] at hlen
  rw [sectionBody_eq, readSection_iff (by omega) (flatMap_length_four _ (fun _ => rfl) _)]
  have hsec : (⟨true, sec.grants, sec.waits⟩ : Section) = sec := by rw [← hlive]
  exact ⟨sec.grants, sec.waits, readEntries_sectionEntry true _ fun e he => hsmall e (List.mem_append_left _ he),
    readEntries_sectionEntry false _ fun e he => hsmall e (List.mem_append_right _ he), by rw [hsec]; exact hok,
    by rw [hsec, join16_bytes]⟩

/-! ### A section refused (03 R54) -/

/-- The four characters are those of an entry in the state given. -/
def RawEntry.Readable (q : RawEntry) (isGrant : Bool) : Prop :=
  IsBay q.bay.toNat ∧ q.cls &&& 0x70 = 0 ∧ q.cls.msb = isGrant ∧ ∃ c, classOf (q.cls &&& 0x0F) = some c

/-- The entry four readable characters carry. -/
def RawEntry.entry (q : RawEntry) : Entry :=
  ⟨q.bay.toNat, q.amount.toNat, (classOf (q.cls &&& 0x0F)).getD .serve, q.count⟩

theorem RawEntry.entry_cls {q : RawEntry} {c : Cls} (hc : classOf (q.cls &&& 0x0F) = some c) : q.entry.cls = c := by
  simp only [RawEntry.entry, hc, Option.getD_some]

theorem readEntries_raw {isGrant : Bool} {qs : List RawEntry} {es : List Entry}
    (h : readEntries isGrant (qs.flatMap RawEntry.bytes) = some es) :
    es = qs.map RawEntry.entry ∧ ∀ q ∈ qs, q.Readable isGrant := by
  induction qs generalizing es with
  | nil =>
    obtain rfl : [] = es := Option.some.inj h
    exact ⟨rfl, by simp⟩
  | cons q qs ih =>
    obtain ⟨c, es', hc, hes, ⟨h1, h8, hzero, hmsb⟩, rfl⟩ := readEntries_cons.mp h
    obtain ⟨rfl, hrest⟩ := ih hes
    exact ⟨by rw [List.map_cons, ← RawEntry.entry_cls hc]; rfl, List.forall_mem_cons.mpr ⟨⟨⟨h1, h8⟩, hzero, hmsb, c, hc⟩, hrest⟩⟩

theorem RawEntry.Readable.rank {q : RawEntry} {isGrant : Bool} (h : q.Readable isGrant) :
    q.entry.cls.rank = (q.cls &&& 0x0F).toNat := by
  obtain ⟨-, -, -, c, hc⟩ := h
  have hrank : (nat8 c.rank).toNat = c.rank := nat8_toNat _ (by cases c <;> decide)
  rw [RawEntry.entry_cls hc, classOf_eq_some hc, hrank]

/-- A section that fails a check of R54 is not read. -/
theorem readSection_refused {pool : Nat} {x : Resource} {asker res k1 k0 : Byte} {grants waits : List RawEntry}
    (hlen : grants.length + waits.length ≤ 8) (h : SectionRefused pool x grants waits) :
    readSection pool x (asker :: res :: k1 :: k0 :: nat8 grants.length :: nat8 waits.length ::
      (grants.flatMap RawEntry.bytes ++ waits.flatMap RawEntry.bytes)) = none := by
  refine Option.eq_none_iff_forall_ne_some.mpr fun p hp => ?_
  obtain ⟨gs, ws, hgs, hws, hok, -⟩ :=
    (readSection_iff (by omega) (flatMap_length_four _ (fun _ => rfl) _)).mp hp
  obtain ⟨rfl, hgread⟩ := readEntries_raw hgs
  obtain ⟨rfl, hwread⟩ := readEntries_raw hws
  simp only [sectionOk, entriesOk, Bool.and_eq_true, decide_eq_true_eq, ← List.map_append, List.all_eq_true, rankOrdered_iff] at hok
  obtain ⟨⟨⟨⟨hall, hnodup⟩, hpool⟩, hranked⟩, hhead⟩ := hok
  have hread : ∀ q ∈ grants ++ waits, ∃ b, q.Readable b := fun q hq =>
    (List.mem_append.mp hq).elim (fun hq => ⟨_, hgread q hq⟩) fun hq => ⟨_, hwread q hq⟩
  have hsum : granted (grants.map RawEntry.entry) = (grants.map (fun g => g.amount.toNat)).sum := by
    rw [granted, List.map_map]
    rfl
  rcases h with ⟨q, hq, hbad⟩ | hdup | ⟨q, hq, hmsb⟩ | ⟨q, hq, hmsb⟩ | hover | hunranked | ⟨q, hfirst, hfits⟩
  · obtain ⟨b, hbay, hzero, -, c, hc⟩ := hread q hq
    obtain ⟨⟨h1, hp⟩, hbelongs⟩ := hall _ (List.mem_map_of_mem hq)
    rcases hbad with hb | hb | hb | hb | hb
    · exact hb hbay
    · exact hb hzero
    · simp [RawEntry.entry, hb] at h1
    · exact absurd hp (not_le.mpr hb)
    · rw [RawEntry.entry_cls hc, hb c (classOf_eq_some hc)] at hbelongs
      cases hbelongs
  · refine hdup (List.Nodup.of_map BitVec.toNat ?_)
    rw [List.map_map] at hnodup ⊢
    exact hnodup
  · obtain ⟨-, -, hgrant, -⟩ := hgread q hq
    rw [hmsb] at hgrant
    cases hgrant
  · obtain ⟨-, -, hwait, -⟩ := hwread q hq
    rw [hmsb] at hwait
    cases hwait
  · exact absurd hpool (by rw [hsum]; exact not_le.mpr hover)
  · refine hunranked ?_
    rw [List.map_map] at hranked
    rwa [← List.map_congr_left fun q hq => (hwread q hq).rank]
  · obtain ⟨rest, rfl⟩ : ∃ rest, waits = q :: rest := by
      cases waits with
      | nil => cases hfirst
      | cons v vs => exact ⟨vs, by rw [Option.some.inj hfirst]⟩
    have hlack : pool < granted (grants.map RawEntry.entry) + q.amount.toNat := of_decide_eq_true hhead
    omega

/-! ### Adoption (03 R54, 05 R89, R90) -/

section
variable {s : State} {e : RxEntry}

theorem exec_syncTable (h : FrameInHand s e 0x22 2) (hl : syncLengthOk e.body = true)
    (ha : Kind.addressOk .syncTable e.body = true) :
    exec .syncTable s = .next (((s.popFrame e).syncTableFrame e).releaseSuspect) :=
  takeFrame_inHand .syncTable h hl ha rfl

theorem exec_syncAsk (h : FrameInHand s e 0x21 2) (hb : e.body = []) :
    exec .syncAsk s = .next ((s.popFrame e).syncAskFrame e) :=
  takeFrame_inHand .syncAsk h (by rw [hb]; rfl) rfl rfl

end

/-- Every entry of an adopted section begins its lease. -/
theorem ageOf_adopted (b : Nat) (es : List Entry) (ages : List (Nat × Nat)) :
    ageOf b (es.foldl (fun l e => startAge e.bay l) ages) = if b ∈ es.map Entry.bay then some 0 else ageOf b ages := by
  induction es generalizing ages with
  | nil => simp
  | cons e es ih =>
    rw [List.foldl_cons, ih, ageOf_startAge, List.map_cons]
    by_cases hb : b ∈ es.map Entry.bay
    · rw [if_pos hb, if_pos (List.mem_cons_of_mem _ hb)]
    · by_cases he : e.bay = b
      · rw [if_neg hb, if_pos he, if_pos (he ▸ List.mem_cons_self)]
      · rw [if_neg hb, if_neg he, if_neg (List.not_mem_cons_of_ne_of_not_mem (Ne.symm he) hb)]

theorem adoptedAges_zero (sec : Section) :
    (sec.grants ++ sec.waits).all (fun g => ageOf g.bay (adoptedAges sec) == some 0) = true := by
  refine List.all_eq_true.mpr fun g hg => beq_iff_eq.mpr ?_
  rw [adoptedAges, ageOf_adopted, if_pos (List.mem_map_of_mem hg)]

theorem Share.unreceived_iff {sh : Share} {t : PerRes Section} (ht : sh.table = some t) (x : Resource) :
    sh.unreceived x = !(t.get x).live := by
  simp only [Share.unreceived, ht]

/-- A section that is wanted and passes is adopted. -/
theorem State.adoptFrame_adopts {s : State} {t : PerRes Section} {asker : Byte} {rest : List Byte} {x : Resource} {sec : Section}
    {count : Word} (ht : s.share.table = some t) (hun : (t.get x).live = false)
    (hread : readSection (poolOf s.cfg x) x (asker :: resourceCode x :: rest) = some (sec, count)) :
    s.adoptFrame (asker :: resourceCode x :: rest) = s.adopt x sec count := by
  have hx : ((asker :: resourceCode x :: rest)[1]?).bind resourceOf = some x := resourceOf_code x
  simp only [State.adoptFrame, hx, Share.unreceived_iff ht, hun, Bool.not_false, if_true, hread]

theorem resourceOf_eq_some {b : Byte} {x : Resource} (h : resourceOf b = some x) : b = resourceCode x := by
  unfold resourceOf at h
  split_ifs at h <;> cases h <;> assumption

/-- A frame that names no section, one already LIVE, or one refused leaves the station as it was. -/
theorem State.adoptFrame_rests {s : State} {asker res : Byte} {rest : List Byte}
    (h : ∀ x, res = resourceCode x →
      s.share.unreceived x = false ∨ readSection (poolOf s.cfg x) x (asker :: res :: rest) = none) :
    s.adoptFrame (asker :: res :: rest) = s := by
  have hres : ((asker :: res :: rest)[1]?).bind resourceOf = resourceOf res := rfl
  unfold State.adoptFrame
  rw [hres]
  split
  · next x hx =>
    rcases h x (resourceOf_eq_some hx) with hun | hnone
    · rw [hun]
      rfl
    · rw [hnone]
      split_ifs <;> rfl
  · rfl

theorem State.adopt_share {s : State} {t : PerRes Section} (x : Resource) (sec : Section) (count : Word)
    (ht : s.share.table = some t) : (s.adopt x sec count).share = ⟨some (t.set x sec), count⟩ := by
  change { s.share.setSection x sec with changeCount := count } = _
  simp [Share.setSection, ht]

theorem State.adopt_ages (s : State) (x : Resource) (sec : Section) (count : Word) :
    (s.adopt x sec count).lease.ages.get x = adoptedAges sec := PerRes.get_set_self _ _ _

/-! ### A setting of the mark held back (05 R94, log 38) -/

/-- The held setting taken up. -/
def State.unheld (s : State) : State := { s with mode := { s.mode with suspectHeld := false } }

theorem State.releaseSuspect_unheld (s : State) (h : s.mode.suspectHeld = false) : s.releaseSuspect = s := by
  rw [State.releaseSuspect, h]
  rfl

theorem State.releaseSuspect_held (s : State) (h : s.mode.suspectHeld = true) : s.releaseSuspect = s.unheld.setSuspect := by
  rw [State.releaseSuspect, h]
  rfl

theorem State.adoptFrame_unheld (s : State) (body : List Byte) : s.unheld.adoptFrame body = (s.adoptFrame body).unheld := by
  unfold State.adoptFrame
  split
  · next x hx =>
    change (if s.share.unreceived x = true then _ else _) = _
    split_ifs
    · rw [show s.unheld.cfg = s.cfg from rfl]
      split <;> rfl
    · rfl
  · rfl

theorem State.onDemand_unheld (s : State) (x : Resource) (f : DemandTx → DemandTx) :
    s.unheld.onDemand x f = (s.onDemand x f).unheld := rfl

theorem State.announceRequest_unheld (s : State) : s.unheld.announceRequest = s.announceRequest.unheld := rfl

theorem State.becomeActive_unheld (s : State) : s.unheld.becomeActive = s.becomeActive.unheld := by
  unfold State.becomeActive
  rw [← State.announceRequest_unheld, ← State.onDemand_unheld, ← State.onDemand_unheld, ← State.onDemand_unheld]
  rfl

theorem State.tableHeard_unheld (s : State) : s.unheld.tableHeard = s.tableHeard.unheld := rfl

/-- A SYNC-TABLE is processed alike whether a setting waits for it or not. -/
theorem State.syncTableFrame_unheld (s : State) (e : RxEntry) : s.unheld.syncTableFrame e = (s.syncTableFrame e).unheld := by
  by_cases ha : (e.body[0]?).map BitVec.toNat = some s.line.address
  · rw [State.syncTableFrame_own _ e ha, State.syncTableFrame_own s.unheld e ha, State.adoptFrame_unheld]
    generalize s.adoptFrame e.body = u
    change (if (u.syncing && u.share.complete) = true then _ else _) = _
    rw [u.tableHeard_unheld]
    split_ifs
    · exact State.becomeActive_unheld u.tableHeard
    · rfl
  · rw [State.syncTableFrame_other _ e ha, State.syncTableFrame_other s.unheld e ha]

theorem State.syncTableFrame_suspectHeld (s : State) (e : RxEntry) :
    (s.syncTableFrame e).mode.suspectHeld = s.mode.suspectHeld := by
  by_cases ha : (e.body[0]?).map BitVec.toNat = some s.line.address
  · have hmode : (s.adoptFrame e.body).mode = s.mode := by simp
    rw [State.syncTableFrame_own _ e ha, ← hmode]
    generalize s.adoptFrame e.body = u
    split_ifs <;> rfl
  · rw [State.syncTableFrame_other _ e ha]

theorem State.setSuspect_suspectHeld (s : State) : s.setSuspect.mode.suspectHeld = s.mode.suspectHeld := by
  rw [State.setSuspect_eq]
  split_ifs <;> rfl

/-- A SYNC-TABLE for which no setting waits. -/
theorem exec_syncTable_unheld {s : State} {e : RxEntry} (h : FrameInHand s e 0x22 2) (hl : syncLengthOk e.body = true)
    (ha : Kind.addressOk .syncTable e.body = true) (hheld : s.mode.suspectHeld = false) :
    exec .syncTable s = .next ((s.popFrame e).syncTableFrame e) := by
  rw [exec_syncTable h hl ha, State.releaseSuspect_unheld _ (((s.popFrame e).syncTableFrame_suspectHeld e).trans hheld)]

/-- One for which a setting waits: the setting is acted on once the frame has been processed. -/
theorem exec_syncTable_held {s : State} {e : RxEntry} (h : FrameInHand s e 0x22 2) (hl : syncLengthOk e.body = true)
    (ha : Kind.addressOk .syncTable e.body = true) (hheld : s.mode.suspectHeld = true) :
    exec .syncTable s = .next ((s.popFrame e).unheld.syncTableFrame e).setSuspect := by
  rw [exec_syncTable h hl ha, State.releaseSuspect_held _ (((s.popFrame e).syncTableFrame_suspectHeld e).trans hheld),
    State.syncTableFrame_unheld]

/-! ### An ask answered (05 R88) -/

theorem State.lowerActiveBut_iff (s : State) (q : Nat) :
    s.lowerActiveBut q = true ↔
      ∃ r ∈ s.mode.roster, IsBay r.address ∧ r.reported = some 4 ∧ r.address ≠ q ∧ r.address < s.line.address := by
  simp only [State.lowerActiveBut, isKeg, reportsActive, List.any_eq_true, Bool.and_eq_true, decide_eq_true_eq, beq_iff_eq,
    bne_iff_ne]
  exact exists_congr fun r => and_congr_right fun _ => by tauto

theorem State.syncAskFrame_answered {s : State} {e : RxEntry} (hm : s.mode.mode = .active) (hbay : IsBay e.sender)
    (hother : e.sender ≠ s.line.address) (hfree : s.tx.holds TxFrame.isSync = false) (hlow : s.lowerActiveBut e.sender = false) :
    s.syncAskFrame e = { s with tx := s.tx.answerSync e.sender } := by
  refine if_pos ?_
  simp [s.active_iff.mpr hm, (kegAddress_iff _).mpr hbay, hother, hfree, hlow]

theorem State.syncAskFrame_passed {s : State} {e : RxEntry}
    (h : s.mode.mode ≠ .active ∨ ¬ IsBay e.sender ∨ e.sender = s.line.address ∨ s.tx.holds TxFrame.isSync = true ∨
      s.lowerActiveBut e.sender = true) : s.syncAskFrame e = s := by
  refine if_neg ?_
  simp only [Bool.and_eq_true, Bool.not_eq_true', bne_iff_ne, s.active_iff, kegAddress_iff]
  rintro ⟨⟨⟨⟨hm, hbay⟩, hother⟩, hlow⟩, hfree⟩
  rcases h with h | h | h | h | h
  · exact h hm
  · exact h hbay
  · exact hother h
  · simp [hfree] at h
  · simp [hlow] at h

/-! ### A SYNC-TABLE for the station -/

section
variable {s : State} {e : RxEntry} {x : Resource} {t : PerRes Section} {sec : Section} {count : Word}

/-- The frame that adopts a section, and with the third makes the station ACTIVE. -/
theorem State.syncTableFrame_adopts (ha : (e.body[0]?).map BitVec.toNat = some s.line.address)
    (hadopts : s.adoptFrame e.body = s.adopt x sec count) (ht : s.share.table = some t) (hs : s.syncing = true) :
    let u := s.syncTableFrame e
    u.share = ⟨some (t.set x sec), count⟩ ∧
      (sec.grants ++ sec.waits).all (fun g => ageOf g.bay (u.lease.ages.get x) == some 0) = true ∧
      (if allLive (t.set x sec) then
         u.mode.mode = .active ∧ u.mode.suspect = false ∧ u.mode.sync = ⟨.noSync, 0, false, 0, 0⟩
       else u.mode.mode = s.mode.mode ∧ u.mode.suspect = s.mode.suspect ∧
         u.mode.sync = if s.mode.sync.stage = .listening then { s.mode.sync with wait := 0 } else s.mode.sync) := by
  rw [State.syncTableFrame_own s e ha, hadopts]
  have hshare := s.adopt_share x sec count ht
  have hages := s.adopt_ages x sec count
  have hmode : (s.adopt x sec count).mode = s.mode := by simp
  generalize s.adopt x sec count = u at hshare hages hmode ⊢
  have hsync : u.syncing = true := by simpa only [State.syncing, hmode] using hs
  have hcomplete : u.share.complete = allLive (t.set x sec) := by rw [hshare]; rfl
  rw [hsync, hcomplete, Bool.true_and]
  have hzero : (sec.grants ++ sec.waits).all (fun g => ageOf g.bay (u.lease.ages.get x) == some 0) = true := by
    rw [hages]
    exact adoptedAges_zero sec
  by_cases hall : allLive (t.set x sec) = true
  · simp only [if_pos hall]
    exact ⟨by simpa using hshare, by simpa using hzero, rfl, rfl, rfl⟩
  · simp only [if_neg hall]
    refine ⟨hshare, hzero, ?_, ?_, ?_⟩
    · rw [← hmode]
      rfl
    · rw [← hmode]
      rfl
    · rw [← hmode]
      exact if_pos hsync

/-- The frame that changes no section of a station whose sync goes on. -/
theorem State.syncTableFrame_unadopted (ha : (e.body[0]?).map BitVec.toNat = some s.line.address)
    (hrests : s.adoptFrame e.body = s) (ht : s.share.table = some t) (hopen : allLive t = false) (hs : s.syncing = true) :
    s.syncTableFrame e = { s with mode := { s.mode with
      sync := if s.mode.sync.stage = .listening then { s.mode.sync with wait := 0 } else s.mode.sync } } := by
  have hincomplete : s.share.complete = false := by simp only [Share.complete, ht, hopen]
  rw [State.syncTableFrame_own s e ha, hrests, hincomplete, Bool.and_false, State.tableHeard, if_pos hs]
  rfl

/-- Outside JOINING and DOUBTFUL no SYNC-TABLE does anything. -/
theorem State.syncTableFrame_outside (hrests : s.adoptFrame e.body = s) (hs : s.syncing = false) : s.syncTableFrame e = s := by
  by_cases ha : (e.body[0]?).map BitVec.toNat = some s.line.address
  · rw [State.syncTableFrame_own s e ha, hrests, hs, Bool.false_and, State.tableHeard, hs]
    rfl
  · exact s.syncTableFrame_other e ha

end

/-- Where the table is held as the mode says, a section stands UNRECEIVED only in JOINING and DOUBTFUL. -/
theorem unreceived_outside {s : State} (h : holdingLaw s = true) (hs : s.syncing = false) (x : Resource) :
    s.share.unreceived x = false := by
  cases ht : s.share.table with
  | none => simp only [Share.unreceived, ht]
  | some t =>
    obtain ⟨-, hall⟩ : s.active = true ∧ allLive t = true := by simpa [hs] using (holdingLaw_some ht).mp h
    rw [Share.unreceived_iff ht]
    cases x <;> simp_all [allLive, PerRes.get]

/-- Settles O27: a SYNC-TABLE adopted, its held setting acted on; refused, for another asker, or out of season; an ask answered or
not. -/
theorem sectionsAreAdoptedAndAsksAnswered : Obligations.SectionsAreAdoptedAndAsksAnswered := by
  refine ⟨fun s e x t sec count h haddress hmode ht hun hpool hlive hlaw hlen hb => ?_,
    fun s e h hb hm hbay hother hfree hlow => ?_, fun s e asker res k1 k0 grants waits h hheld h1 h12 hlen hb => ?_,
    fun s e h hb hpass => ?_⟩
  · have hown : (nat8 s.line.address).toNat = s.line.address := nat8_toNat _ (by omega)
    have ha : (e.body[0]?).map BitVec.toNat = some s.line.address := by rw [hb]; exact congrArg some hown
    have haddr : Kind.addressOk .syncTable e.body = true := by
      rw [hb]
      exact decide_eq_true (by rw [hown]; omega)
    have hbody : syncLengthOk e.body = true := by
      rw [List.length_append] at hlen
      rw [hb, sectionBody_eq]
      exact syncLengthOk_of hlen (flatMap_length_four _ (fun _ => rfl) _) (flatMap_length_four _ (fun _ => rfl) _)
    have hadopts : (s.popFrame e).adoptFrame e.body = (s.popFrame e).adopt x sec count := by
      have hread := readSection_sectionBody (nat8 s.line.address) count hpool hlive hlaw hlen
      rw [hb]
      exact State.adoptFrame_adopts (s := s.popFrame e) ht hun hread
    refine ⟨fun hheld => ⟨_, exec_syncTable_unheld h hbody haddr hheld, ?_⟩, fun hheld => ?_⟩
    · exact State.syncTableFrame_adopts (s := s.popFrame e) ha hadopts ht (s.syncing_iff.mpr hmode)
    · refine ⟨_, _, exec_syncTable_unheld (s := s.unheld) h hbody haddr rfl, exec_syncTable_held h hbody haddr hheld,
        State.setSuspect_suspect _, ?_, State.setSuspect_actedOn _⟩
      exact (State.setSuspect_suspectHeld _).trans ((s.popFrame e).unheld.syncTableFrame_suspectHeld e)
  · rw [exec_syncAsk h hb]
    refine congrArg Host.Outcome.next (State.syncAskFrame_answered (s := s.popFrame e) hm hbay hother hfree ?_)
    refine Bool.eq_false_iff.mpr fun hbut => ?_
    obtain ⟨r, hr, hkeg, hactive, hne, hlt⟩ := ((s.popFrame e).lowerActiveBut_iff _).mp hbut
    exact absurd hlt (not_lt.mpr (hlow r hr hkeg hactive hne))
  · replace hb : e.body = asker :: res :: k1 :: k0 :: nat8 grants.length :: nat8 waits.length ::
        (grants.flatMap RawEntry.bytes ++ waits.flatMap RawEntry.bytes) := hb
    have hasker : (e.body[0]?).map BitVec.toNat = some asker.toNat := by rw [hb]; rfl
    have hbody : syncLengthOk e.body = true := by
      rw [hb]
      exact syncLengthOk_of hlen (flatMap_length_four _ (fun _ => rfl) _) (flatMap_length_four _ (fun _ => rfl) _)
    have haddr : Kind.addressOk .syncTable e.body = true := by
      rw [hb]
      exact decide_eq_true ⟨h1, h12⟩
    rw [exec_syncTable_unheld h hbody haddr hheld]
    refine ⟨fun t hown hmode ht hopen hrefused => ?_, fun hother => ?_, fun hj hd hholding => ?_⟩
    · have hrests : (s.popFrame e).adoptFrame e.body = s.popFrame e := by
        rw [hb]
        refine State.adoptFrame_rests fun y hy => ?_
        rcases hrefused with hnone | ⟨x, hx, hcase⟩
        · exact absurd hy (hnone y)
        · obtain rfl : x = y := by
            have := resourceOf_code x
            rw [← hx, hy, resourceOf_code] at this
            exact (Option.some.inj this).symm
          rcases hcase with hlive | hbad
          · exact .inl (by rw [State.popFrame_share, Share.unreceived_iff ht, hlive]; rfl)
          · exact .inr (readSection_refused hlen hbad)
      exact congrArg Host.Outcome.next (State.syncTableFrame_unadopted (s := s.popFrame e) (hasker.trans (congrArg some hown))
        hrests ht hopen (s.syncing_iff.mpr hmode))
    · rw [State.syncTableFrame_other]
      rw [hasker]
      exact fun heq => hother (Option.some.inj heq)
    · have hs : s.syncing = false := Bool.eq_false_iff.mpr fun hs => (s.syncing_iff.mp hs).elim hj hd
      refine congrArg Host.Outcome.next (State.syncTableFrame_outside ?_ hs)
      rw [hb]
      exact State.adoptFrame_rests fun y _ => .inl (unreceived_outside (s := s) hholding hs y)
  · rw [exec_syncAsk h hb]
    refine congrArg Host.Outcome.next (State.syncAskFrame_passed (s := s.popFrame e) ?_)
    rcases hpass with h | h | h | h | ⟨r, hr, hkeg, hactive, hne, hlt⟩
    · exact .inl h
    · exact .inr (.inl h)
    · exact .inr (.inr (.inl h))
    · exact .inr (.inr (.inr (.inl h)))
    · exact .inr (.inr (.inr (.inr (((s.popFrame e).lowerActiveBut_iff _).mpr ⟨r, hr, hkeg, hactive, hne, hlt⟩))))

end Sys2Proof.Machine
end

section
/-! PROOFS. What a share frame leaves each bay of a section (03 R42 to R53), and that the report it draws brings the record's
standing there (03 R56, 04 R62, R63). -/

namespace Sys2Proof.Machine

/-! ### What a section holds for a bay -/

/-- The amount and class of an entry. -/
def Entry.need (e : Entry) : Need := ⟨e.amount, e.cls⟩

/-- The amount and class of a standing, granted or waiting. -/
def Standing.held : Standing → Option Need
  | .absent => none
  | .waiting n | .granted n => some n

/-- A standing by what is found of the bay in the two lists. -/
def Standing.found : Option Need → Option Need → Standing
  | some n, _ => .granted n
  | none, some n => .waiting n
  | none, none => .absent

/-- The grants are looked through before the waits. -/
theorem standingIn_eq (bay : Nat) (sec : Section) :
    standingIn bay sec = .found ((findBay bay sec.grants).map Entry.need) ((findBay bay sec.waits).map Entry.need) := by
  unfold standingIn
  cases findBay bay sec.grants <;> cases findBay bay sec.waits <;> rfl

theorem standingIn_held (bay : Nat) (sec : Section) : (standingIn bay sec).held = (entryOf bay sec).map Entry.need := by
  have hentry : entryOf bay sec = (findBay bay sec.grants).or (findBay bay sec.waits) := List.find?_append
  rw [standingIn_eq, hentry]
  cases findBay bay sec.grants <;> cases findBay bay sec.waits <;> rfl

theorem standingIn_absent {bay : Nat} {sec : Section} :
    standingIn bay sec = .absent ↔ ∀ g ∈ sec.grants ++ sec.waits, g.bay ≠ bay := by
  have hnone : entryOf bay sec = none ↔ ∀ g ∈ sec.grants ++ sec.waits, g.bay ≠ bay := by
    unfold entryOf findBay
    simp only [List.find?_eq_none, beq_iff_eq, ne_eq]
  have hheld : standingIn bay sec = .absent ↔ (standingIn bay sec).held = none := by
    cases standingIn bay sec <;> simp [Standing.held]
  rw [hheld, standingIn_held, Option.map_eq_none_iff, hnone]

/-- Where no bay appears twice, the entry found is the entry listed. -/
theorem findBay_eq_some {bay : Nat} {l : List Entry} {e : Entry} (h : (l.map Entry.bay).Nodup) :
    findBay bay l = some e ↔ e ∈ l ∧ e.bay = bay := by
  refine ⟨findBay_some, fun ⟨he, hbay⟩ => ?_⟩
  cases hfound : findBay bay l with
  | none => exact absurd hbay (findBay_none hfound e he)
  | some g =>
    obtain ⟨hg, hgbay⟩ := findBay_some hfound
    exact congrArg some (List.inj_on_of_nodup_map h hg he (hgbay.trans hbay.symm))

/-- Every entry of another bay is listed in the one section as in the other. -/
def OthersKept (bay : Nat) (sec sec' : Section) : Prop :=
  ∀ g : Entry, g.bay ≠ bay → (g ∈ sec'.grants ++ sec'.waits ↔ g ∈ sec.grants ++ sec.waits)

section
variable {cfg : WorkingCopy} {x : Resource} {sec : Section}

theorem SectionFits.bays_nodup (h : SectionFits cfg x sec) : ((sec.grants ++ sec.waits).map Entry.bay).Nodup := h.entries.2

theorem sectionFits_of_law (hlive : sec.live = true) (hlaw : sectionLaw cfg x sec = true) : SectionFits cfg x sec :=
  ((sectionLaw_iff hlive).mp hlaw).1

/-- What another bay holds is as it was, granted or waiting. -/
theorem OthersKept.held {sec' : Section} {bay own : Nat} (h : OthersKept bay sec sec')
    (hfits : SectionFits cfg x sec) (hfits' : SectionFits cfg x sec') (hown : own ≠ bay) :
    (standingIn own sec').held = (standingIn own sec).held := by
  rw [standingIn_held, standingIn_held]
  refine congrArg _ (Option.ext fun e => ?_)
  rw [entryOf, entryOf, findBay_eq_some hfits.bays_nodup, findBay_eq_some hfits'.bays_nodup]
  constructor
  · rintro ⟨he, hbay⟩
    exact ⟨(h e (hbay ▸ hown)).mp he, hbay⟩
  · rintro ⟨he, hbay⟩
    exact ⟨(h e (hbay ▸ hown)).mpr he, hbay⟩

/-! ### Claims (03 R43 to R48) -/

/-- A claim's entry placed joins the entries there were. -/
theorem SectionFits.mem_place (h : SectionFits cfg x sec) (pool : Nat) (e g : Entry) :
    g ∈ (place pool sec e).grants ++ (place pool sec e).waits ↔ g = e ∨ g ∈ sec.grants ++ sec.waits := by
  have hwaiting : g ∈ sec.grants ++ insertByClaim e sec.waits ↔ g = e ∨ g ∈ sec.grants ++ sec.waits := by
    rw [List.mem_append, (insertByClaim_perm e sec.waits).mem_iff, List.mem_cons, List.mem_append]
    tauto
  unfold place
  split_ifs
  · split
    · next victims hv =>
      have hgrants := (h.bumped (List.Sublist.refl _) hv).1.mem_iff (a := g)
      have hwaits := (placeVictims_perm victims sec.waits).mem_iff (a := g)
      simp only [List.mem_append, List.mem_singleton] at hgrants hwaits ⊢
      rw [hwaits, ← hgrants]
      tauto
    · exact hwaiting
  · exact hwaiting

/-- A change that fits puts its entry where the bay's grant stood. -/
theorem SectionFits.mem_changed {old new g : Entry} {victims : List Entry} {amount available : Nat} {c : Cls}
    (h : SectionFits cfg x sec) (hold : findBay new.bay sec.grants = some old)
    (hv : takeVictims amount available (candidates (dropBay new.bay sec.grants) c) = some victims) :
    g ∈ replaceBay new.bay new (withoutVictims victims sec.grants) ++ placeVictims victims sec.waits ↔
      g = new ∨ (g.bay ≠ new.bay ∧ g ∈ sec.grants) ∨ g ∈ sec.waits := by
  obtain ⟨hmem, hbay⟩ := findBay_some hold
  obtain ⟨hperm, hothers⟩ := h.bumped List.filter_sublist hv
  have hvictims : ∀ v ∈ victims, v.bay ≠ new.bay := fun v hvm => by simpa using (List.mem_filter.mp (hothers v hvm)).2
  have hgrants : ∀ f, f ∈ sec.grants ↔ f ∈ victims ∨ f ∈ withoutVictims victims sec.grants := fun f => by
    rw [← hperm.mem_iff, List.mem_append]
  have hkept : old ∈ withoutVictims victims sec.grants := ((hgrants old).mp hmem).resolve_left fun hvm => hvictims old hvm hbay
  have hreplaced : g ∈ replaceBay new.bay new (withoutVictims victims sec.grants) ↔
      g = new ∨ (g.bay ≠ new.bay ∧ g ∈ withoutVictims victims sec.grants) := by
    simp only [replaceBay, List.mem_map]
    constructor
    · rintro ⟨f, hf, rfl⟩
      split_ifs with hb
      · exact .inl rfl
      · exact .inr ⟨hb, hf⟩
    · rintro (rfl | ⟨hb, hf⟩)
      · exact ⟨old, hkept, if_pos hbay⟩
      · exact ⟨g, hf, if_neg hb⟩
  rw [List.mem_append, hreplaced, (placeVictims_perm victims sec.waits).mem_iff, List.mem_append, hgrants]
  have hg := hvictims g
  tauto

/-- A CLAIM is refused and leaves the section, or lists the bay's entry and leaves those of the others. -/
theorem claimIn_cases (h : SectionFits cfg x sec) (pool bay amount : Nat) (c : Cls) :
    ((claimIn pool sec bay amount c).refused = true ∧ (claimIn pool sec bay amount c).sec = sec) ∨
    ((claimIn pool sec bay amount c).refused = false ∧ standingIn bay (claimIn pool sec bay amount c).sec ≠ .absent ∧
      OthersKept bay sec (claimIn pool sec bay amount c).sec) := by
  have hlisted : ∀ (sec' : Section) (new : Entry), new.bay = bay →
      (∀ g, g ∈ sec'.grants ++ sec'.waits ↔ g = new ∨ (g.bay ≠ bay ∧ g ∈ sec.grants ++ sec.waits)) →
      standingIn bay (promote pool sec') ≠ .absent ∧ OthersKept bay sec (promote pool sec') := by
    intro sec' new hnew hmem
    refine ⟨fun habsent => ?_, fun g hg => ?_⟩
    · refine standingIn_absent.mp habsent new ?_ hnew
      rw [promote_entries, hmem]
      exact .inl rfl
    · rw [promote_entries, hmem]
      constructor
      · rintro (rfl | ⟨-, hlist⟩)
        · exact absurd hnew hg
        · exact hlist
      · exact fun hlist => .inr ⟨hg, hlist⟩
  cases hg : findBay bay sec.grants with
  | some old =>
    rw [claimIn_granted _ sec old bay amount c hg]
    unfold changeClaim
    split_ifs
    · split
      · next victims hv =>
        refine .inr ⟨rfl, hlisted { sec with grants := _, waits := _ } ⟨bay, amount, c, old.renewCount + 1⟩ rfl fun g => ?_⟩
        refine (h.mem_changed (new := ⟨bay, amount, c, old.renewCount + 1⟩) hg hv).trans ?_
        have hwaits : g ∈ sec.waits → g.bay ≠ bay := fun hw hb => by
          have hdisjoint := (List.nodup_append.mp (List.map_append ▸ h.bays_nodup)).2.2
          obtain ⟨hmem, hbay⟩ := findBay_some hg
          exact hdisjoint _ (List.mem_map_of_mem hmem) _ (List.mem_map_of_mem hw) (hbay.trans hb.symm)
        rw [List.mem_append]
        tauto
      · exact .inl ⟨rfl, rfl⟩
    · exact .inl ⟨rfl, rfl⟩
  | none =>
    rw [claimIn_ungranted _ sec bay amount c hg]
    have hgrants := findBay_none hg
    cases hw : findBay bay sec.waits with
    | some old =>
      have hwithout : SectionFits cfg x { sec with waits := dropBay bay sec.waits } :=
        h.shrunk rfl (List.Sublist.refl _) List.filter_sublist
      refine .inr ⟨rfl, hlisted _ ⟨bay, amount, c, old.renewCount + 1⟩ rfl fun g => ?_⟩
      rw [hwithout.mem_place]
      have hgrant := hgrants g
      simp only [List.mem_append, dropBay, List.mem_filter, bne_iff_ne]
      tauto
    | none =>
      have hwaits := findBay_none hw
      refine .inr ⟨rfl, hlisted _ ⟨bay, amount, c, 0⟩ rfl fun g => ?_⟩
      rw [h.mem_place]
      have hgrant := hgrants g
      have hwait := hwaits g
      simp only [List.mem_append]
      tauto

/-! ### RENEW, YIELD and EXPIRE (03 R50 to R53) -/

theorem headWaits_congr {pool : Nat} {sec' : Section} (hg : sec'.grants.map Entry.amount = sec.grants.map Entry.amount)
    (hw : sec'.waits.map Entry.amount = sec.waits.map Entry.amount) : headWaits pool sec' = headWaits pool sec := by
  unfold headWaits granted
  rw [hg]
  cases hws : sec.waits <;> cases hws' : sec'.waits <;> simp_all

/-- Promotion does nothing where the head does not fit. -/
theorem promote_of_headWaits {pool : Nat} (h : headWaits pool sec = true) : promote pool sec = sec := by
  have hlists : promoteLists pool sec.grants sec.waits = (sec.grants, sec.waits) := by
    unfold headWaits at h
    cases hw : sec.waits with
    | nil => rfl
    | cons w ws =>
      rw [hw] at h
      exact if_neg (not_le.mpr (of_decide_eq_true h))
  simp only [promote, hlists]

theorem findBay_renewBay (b bay : Nat) (l : List Entry) :
    (findBay b (renewBay bay l)).map Entry.need = (findBay b l).map Entry.need := by
  have hbay : ∀ e : Entry, (if e.bay = bay then { e with renewCount := e.renewCount + 1 } else e).bay = e.bay :=
    fun e => by split_ifs <;> rfl
  have hneed : ∀ e : Entry, (if e.bay = bay then { e with renewCount := e.renewCount + 1 } else e).need = e.need :=
    fun e => by split_ifs <;> rfl
  simp only [findBay, renewBay, List.find?_map, Option.map_map, Function.comp_def, hbay, hneed]

/-- A RENEW changes what no bay holds. -/
theorem standingIn_renewIn (hlive : sec.live = true) (hlaw : sectionLaw cfg x sec = true) (b bay : Nat) :
    standingIn b (renewIn (poolOf cfg x) sec bay).sec = standingIn b sec := by
  unfold renewIn
  split
  · have hhead : headWaits (poolOf cfg x)
        { sec with grants := renewBay bay sec.grants, waits := renewBay bay sec.waits } = true :=
      (headWaits_congr (renewBay_map bay _ (fun _ _ => rfl) _) (renewBay_map bay _ (fun _ _ => rfl) _)).trans
        ((sectionLaw_iff hlive).mp hlaw).2
    dsimp only
    rw [promote_of_headWaits hhead]
    rw [standingIn_eq, standingIn_eq, findBay_renewBay, findBay_renewBay]
  · rfl

/-- A removal lists no entry of the bay and leaves those of the others. -/
theorem removeIn_entries (pool bay : Nat) :
    standingIn bay (removeIn pool sec bay).sec = .absent ∧ OthersKept bay sec (removeIn pool sec bay).sec := by
  have hmem : ∀ g, g ∈ (removeIn pool sec bay).sec.grants ++ (removeIn pool sec bay).sec.waits ↔
      g ∈ sec.grants ++ sec.waits ∧ g.bay ≠ bay := fun g => by
    simp only [removeIn, promote_entries, dropBay, List.mem_append, List.mem_filter, bne_iff_ne]
    tauto
  exact ⟨standingIn_absent.mpr fun g hg => ((hmem g).mp hg).2, fun g hg => (hmem g).trans (and_iff_left hg)⟩

/-- A YIELD leaves the bay no entry, and those of the others. -/
theorem yieldIn_entries (pool bay : Nat) :
    standingIn bay (yieldIn pool sec bay).sec = .absent ∧ OthersKept bay sec (yieldIn pool sec bay).sec := by
  unfold yieldIn
  split
  · exact removeIn_entries pool bay
  · next hnone => exact ⟨standingIn_absent.mpr (findBay_none hnone), fun _ _ => Iff.rfl⟩

/-- An EXPIRE leaves the section, or removes the target. -/
theorem expireIn_cases (pool bay : Nat) (count : Byte) :
    expireIn pool sec bay count = .none sec ∨ expireIn pool sec bay count = removeIn pool sec bay := by
  unfold expireIn
  split
  · split_ifs
    · exact .inr rfl
    · exact .inl rfl
  · exact .inl rfl

end

/-! ### The report and the standing (03 R56, 04 R62, R63) -/

/-- What a report makes of a record's standing. -/
def Standing.reported (st : Standing) : Option Report → Standing
  | some (.granted n) => .granted n
  | some (.waiting n) => .waiting n
  | some (.yielded _) | some .expired => .absent
  | some .bumped => st.toWaiting
  | some .promoted => st.toGranted
  | some .refused | some .renewed | some (.freed _) | none => st

theorem DemandTx.note_standing (d : DemandTx) (active : Bool) (x : Resource) (rep : Report) :
    (d.note active x rep).rcd.standing = d.rcd.standing.reported (some rep) := by
  have h := (d.note_rcd active x rep).2
  cases rep <;> exact h.1

/-- The end of a frame's processing leaves the standing its report gives. -/
theorem DemandTx.finish_standing (d : DemandTx) (active : Bool) (x : Resource) (own : Option PendKind) (rep : Option Report) :
    (d.finish active x own rep).rcd.standing = d.rcd.standing.reported rep := by
  cases rep with
  | some rep =>
    rw [DemandTx.finish_report, (DemandTx.broughtIntoLine_fields _ active x).2.1, DemandTx.note_standing]
    rfl
  | none =>
    have hprocessed : ∀ k, (d.rcd.processed k).standing = d.rcd.standing := fun k => by
      unfold DemandRec.processed
      split_ifs <;> rfl
    unfold DemandTx.finish
    dsimp only
    rw [(DemandRec.settle_standing _ _).1]
    cases own <;> split_ifs <;> simp only [(DemandTx.reconcile_standing _ _ _).1, hprocessed, Standing.reported]

/-- The report a frame draws brings the standing of a bay from what the section held for it to what it then holds. -/
def ReportsStanding (bay : Nat) (sec : Section) (own : Option PendKind) (eff : Effect) : Prop :=
  ∀ pool, (standingIn bay sec).reported (reportOf own eff (standingIn bay sec) (standingIn bay eff.sec) pool) =
    standingIn bay eff.sec

/-- A frame of another station moves the bay's entry between the lists, or takes it. -/
theorem reportsStanding_of_move {bay : Nat} {sec : Section} {eff : Effect}
    (h : (standingIn bay eff.sec).held = (standingIn bay sec).held ∨ standingIn bay eff.sec = .absent) :
    ReportsStanding bay sec none eff := by
  intro pool
  have hfreed : ∀ st : Standing, st.reported (if eff.freed then some (.freed (freeOf pool eff.sec)) else none) = st :=
    fun st => by split_ifs <;> rfl
  generalize standingIn bay sec = before at h ⊢
  generalize standingIn bay eff.sec = after at h ⊢
  cases before with
  | absent =>
    obtain rfl : after = .absent := by cases after <;> simp_all [Standing.held]
    exact hfreed _
  | waiting n =>
    cases after with
    | absent => rfl
    | waiting m =>
      obtain rfl : m = n := by simpa [Standing.held] using h
      exact hfreed _
    | granted m =>
      obtain rfl : m = n := by simpa [Standing.held] using h
      rfl
  | granted n =>
    cases after with
    | absent => rfl
    | waiting m =>
      obtain rfl : m = n := by simpa [Standing.held] using h
      rfl
    | granted m =>
      obtain rfl : m = n := by simpa [Standing.held] using h
      exact hfreed _

/-- An own CLAIM reports the entry it leaves, or a refusal that leaves the section. -/
theorem reportsStanding_of_claim {bay : Nat} {sec : Section} {eff : Effect}
    (h : (eff.refused = true ∧ eff.sec = sec) ∨ (eff.refused = false ∧ standingIn bay eff.sec ≠ .absent)) :
    ReportsStanding bay sec (some .claim) eff := by
  intro pool
  rcases h with ⟨hrefused, hsec⟩ | ⟨htaken, hlisted⟩
  · simp [reportOf, claimReport, hrefused, hsec, Standing.reported]
  · cases hafter : standingIn bay eff.sec with
    | absent => exact absurd hafter hlisted
    | waiting n => simp [reportOf, claimReport, htaken, Standing.reported]
    | granted n => simp [reportOf, claimReport, htaken, Standing.reported]

theorem reportsStanding_of_renew {bay : Nat} {sec : Section} {eff : Effect} (h : standingIn bay eff.sec = standingIn bay sec) :
    ReportsStanding bay sec (some .renew) eff := by
  intro pool
  rw [h, reportOf]
  split_ifs <;> rfl

theorem reportsStanding_of_yield {bay : Nat} {sec : Section} {eff : Effect} (h : standingIn bay eff.sec = .absent) :
    ReportsStanding bay sec (some .yield) eff :=
  fun _ => h.symm

section
variable {cfg : WorkingCopy} {x : Resource} {sec : Section} (hlive : sec.live = true) (hlaw : sectionLaw cfg x sec = true)
include hlive hlaw

/-- A CLAIM brings every bay's standing along, its own kind named at the bay that sent it. -/
theorem claimIn_reportsStanding {bay amount : Nat} {c : Cls} (own : Nat) (hbay : IsBay bay) (h1 : 1 ≤ amount)
    (hpool : amount ≤ poolOf cfg x) (hc : c.belongs x = true) :
    ReportsStanding own sec (if bay = own then some .claim else none) (claimIn (poolOf cfg x) sec bay amount c) := by
  have hfits := sectionFits_of_law hlive hlaw
  obtain ⟨hlive', hlaw'⟩ := claimIn_keepsLaw hlive hlaw hbay h1 hpool hc
  have hcases := claimIn_cases hfits (poolOf cfg x) bay amount c
  split_ifs with hown
  · subst hown
    exact reportsStanding_of_claim (hcases.imp_right fun ⟨htaken, hlisted, _⟩ => ⟨htaken, hlisted⟩)
  · refine reportsStanding_of_move (.inl ?_)
    rcases hcases with ⟨-, hsame⟩ | ⟨-, -, hothers⟩
    · rw [hsame]
    · exact hothers.held hfits (sectionFits_of_law hlive' hlaw') (Ne.symm hown)

theorem renewIn_reportsStanding (own bay : Nat) :
    ReportsStanding own sec (if bay = own then some .renew else none) (renewIn (poolOf cfg x) sec bay) := by
  have hsame := standingIn_renewIn hlive hlaw own bay
  split_ifs
  · exact reportsStanding_of_renew hsame
  · exact reportsStanding_of_move (.inl (congrArg Standing.held hsame))

theorem removeIn_reportsStanding (own bay : Nat) : ReportsStanding own sec none (removeIn (poolOf cfg x) sec bay) := by
  obtain ⟨habsent, hothers⟩ := removeIn_entries (sec := sec) (poolOf cfg x) bay
  obtain ⟨hlive', hlaw'⟩ := removeIn_keepsLaw hlive hlaw bay
  refine reportsStanding_of_move ?_
  by_cases hown : own = bay
  · exact .inr (hown ▸ habsent)
  · exact .inl (hothers.held (sectionFits_of_law hlive hlaw) (sectionFits_of_law hlive' hlaw') hown)

theorem yieldIn_reportsStanding (own bay : Nat) :
    ReportsStanding own sec (if bay = own then some .yield else none) (yieldIn (poolOf cfg x) sec bay) := by
  obtain ⟨habsent, hothers⟩ := yieldIn_entries (sec := sec) (poolOf cfg x) bay
  obtain ⟨hlive', hlaw'⟩ := yieldIn_keepsLaw hlive hlaw bay
  split_ifs with hown
  · exact reportsStanding_of_yield (hown ▸ habsent)
  · exact reportsStanding_of_move
      (.inl (hothers.held (sectionFits_of_law hlive hlaw) (sectionFits_of_law hlive' hlaw') (Ne.symm hown)))

theorem expireIn_reportsStanding (own bay : Nat) (count : Byte) :
    ReportsStanding own sec none (expireIn (poolOf cfg x) sec bay count) := by
  rcases expireIn_cases (sec := sec) (poolOf cfg x) bay count with h | h
  · rw [h]
    exact reportsStanding_of_move (.inl rfl)
  · rw [h]
    exact removeIn_reportsStanding hlive hlaw own bay

end

end Sys2Proof.Machine
end

section
/-! PROOFS. The records' standings through the operations that only publish needs and move frames (04 R57 to R66): each leaves
them as they were. -/

namespace Sys2Proof.Machine

/-! ### One record and the queue -/

theorem DemandRec.settle_keeps_standing (a : Bool) (r : DemandRec) : (r.settle a).standing = r.standing :=
  (r.settle_standing a).1

theorem DemandTx.askRenew_standing (d : DemandTx) (x : Resource) : (d.askRenew x).rcd.standing = d.rcd.standing := by
  unfold DemandTx.askRenew
  split <;> rfl

theorem DemandTx.lapse_standing (d : DemandTx) (x : Resource) : (d.lapse x).rcd.standing = d.rcd.standing := by
  unfold DemandTx.lapse
  dsimp only
  split <;> rfl

theorem DemandTx.retry_standing (d : DemandTx) (x : Resource) : (d.retry x).rcd.standing = d.rcd.standing := by
  unfold DemandTx.retry
  split <;> rfl

theorem DemandTx.frameLost_standing (d : DemandTx) (a : Bool) (x : Resource) (k : PendKind) :
    (d.frameLost a x k).rcd.standing = d.rcd.standing := by
  unfold DemandTx.frameLost
  dsimp only
  split_ifs
  · rw [DemandRec.settle_keeps_standing, (DemandTx.reconcile_standing _ _ _).1]
  · rfl

theorem DemandRec.frameSent_standing (r : DemandRec) (k : PendKind) (w : Bool) : (r.frameSent k w).standing = r.standing := by
  unfold DemandRec.frameSent
  split_ifs <;> rfl

theorem DemandRec.starveTick_standing (r : DemandRec) (a : Bool) (limit : Nat) :
    (r.starveTick a limit).standing = r.standing := by
  unfold DemandRec.starveTick
  split_ifs <;> rfl

/-! ### The three standings of a station -/

theorem PerRes.ext_get {α : Type} {p q : PerRes α} (h : ∀ x, p.get x = q.get x) : p = q := by
  cases p
  cases q
  exact congr (congr (congrArg PerRes.mk (h .chill)) (h .gas)) (h .heat)

/-- Each record holds the standing it held. -/
def KeepsStandings (s t : State) : Prop := t.demand.map DemandRec.standing = s.demand.map DemandRec.standing

theorem keepsStandings_iff {s t : State} :
    KeepsStandings s t ↔ ∀ x, (t.demand.get x).standing = (s.demand.get x).standing := by
  constructor
  · intro h x
    simpa using congrArg (fun p => PerRes.get p x) h
  · exact fun h => PerRes.ext_get fun x => by simpa using h x

theorem State.onDemand_standings {s : State} {x : Resource} {f : DemandTx → DemandTx}
    (h : ∀ d, (f d).rcd.standing = d.rcd.standing) : KeepsStandings s (s.onDemand x f) :=
  keepsStandings_iff.mpr fun y => by
    rw [State.onDemand_demand, PerRes.get_set]
    split_ifs with hy
    · rw [h, hy]
    · rfl

/-! ### The controllers and the pour engine (06 R107, 08 R142, 09 R157 to R162) -/

section
variable (s : State)

@[simp] theorem State.publish_standings (x : Resource) (n : Option Need) :
    (s.publish x n).demand.map DemandRec.standing = s.demand.map DemandRec.standing :=
  State.onDemand_standings fun d => (d.publish_need s.active x n).2

@[simp] theorem State.publishThermal_standings :
    s.publishThermal.demand.map DemandRec.standing = s.demand.map DemandRec.standing := by
  unfold State.publishThermal
  split_ifs <;> simp

@[simp] theorem State.thermalEval_standings :
    s.thermalEval.demand.map DemandRec.standing = s.demand.map DemandRec.standing := by
  simp [State.thermalEval]

@[simp] theorem State.pressureEvalFrom_standings (b : Bool) :
    (s.pressureEvalFrom b).demand.map DemandRec.standing = s.demand.map DemandRec.standing := by
  simp [State.pressureEvalFrom]

@[simp] theorem State.pressureEval_standings :
    s.pressureEval.demand.map DemandRec.standing = s.demand.map DemandRec.standing := by
  simp [State.pressureEval]

@[simp] theorem State.pressureSample_standings (v : Int) :
    (s.pressureSample v).demand.map DemandRec.standing = s.demand.map DemandRec.standing := by
  simp [State.pressureSample]

@[simp] theorem State.leakBegin_standings :
    s.leakBegin.demand.map DemandRec.standing = s.demand.map DemandRec.standing := by
  simp [State.leakBegin]

@[simp] theorem State.leakEnd_standings :
    s.leakEnd.demand.map DemandRec.standing = s.demand.map DemandRec.standing := by
  simp [State.leakEnd]

@[simp] theorem State.endStep_standings :
    s.endStep.demand.map DemandRec.standing = s.demand.map DemandRec.standing := by
  simp [State.endStep]

@[simp] theorem State.minute_standings :
    s.minute.demand.map DemandRec.standing = s.demand.map DemandRec.standing := by
  unfold State.minute
  dsimp only
  split_ifs <;> simp

@[simp] theorem State.hour_standings :
    s.hour.demand.map DemandRec.standing = s.demand.map DemandRec.standing := by
  unfold State.hour
  dsimp only
  split_ifs <;> simp

@[simp] theorem State.pauseFor_standings (r : PauseReason) :
    (s.pauseFor r).demand.map DemandRec.standing = s.demand.map DemandRec.standing := by
  unfold State.pauseFor
  split_ifs <;> simp

@[simp] theorem State.probeSample_standings (v : Int) :
    (s.probeSample v).demand.map DemandRec.standing = s.demand.map DemandRec.standing := by
  unfold State.probeSample
  dsimp only
  split_ifs <;> simp

@[simp] theorem State.checkPour_standings (q : PourRequest) :
    (s.checkPour q).demand.map DemandRec.standing = s.demand.map DemandRec.standing := by
  unfold State.checkPour
  split <;> simp [State.acceptPour]

@[simp] theorem State.arbitrate_standings (l : List PourRequest) :
    (s.arbitrate l).demand.map DemandRec.standing = s.demand.map DemandRec.standing := by
  unfold State.arbitrate
  split
  · rfl
  · split_ifs <;> simp

@[simp] theorem State.endPour_standings (r : EndReason) :
    (s.endPour r).demand.map DemandRec.standing = s.demand.map DemandRec.standing := by
  unfold State.endPour
  split_ifs <;> simp

@[simp] theorem State.meterOne_standings :
    s.meterOne.demand.map DemandRec.standing = s.demand.map DemandRec.standing := by
  unfold State.meterOne
  dsimp only
  split <;> simp

@[simp] theorem State.meterMany_standings (n : Nat) :
    (State.meterMany n s).demand.map DemandRec.standing = s.demand.map DemandRec.standing := by
  induction n generalizing s with
  | zero => rfl
  | succ n ih => simp [State.meterMany, ih]

@[simp] theorem State.pulse_standings :
    s.pulse.demand.map DemandRec.standing = s.demand.map DemandRec.standing := by
  unfold State.pulse
  dsimp only
  split_ifs <;> simp

/-! ### The line, the pins and the load (01 R16, 05 R79, 10 R171) -/

@[simp] theorem State.ownProcessed_standings (x : Resource) (own : Option PendKind) :
    (s.ownProcessed x own).demand.map DemandRec.standing = s.demand.map DemandRec.standing := by
  unfold State.ownProcessed
  split_ifs
  · exact State.onDemand_standings fun d => d.finish_standing s.active x own none
  · rfl

@[simp] theorem State.ownerLost_standings (f : TxFrame) :
    (s.ownerLost f).demand.map DemandRec.standing = s.demand.map DemandRec.standing := by
  cases f with
  | claim x => exact State.onDemand_standings (f := fun d => d.frameLost s.active x .claim) fun d => d.frameLost_standing _ x _
  | renew x => exact State.onDemand_standings (f := fun d => d.frameLost s.active x .renew) fun d => d.frameLost_standing _ x _
  | yield x => exact State.onDemand_standings (f := fun d => d.frameLost s.active x .yield) fun d => d.frameLost_standing _ x _
  | _ => rfl

@[simp] theorem State.ownerSent_standings (f : TxFrame) (w : Bool) :
    (s.ownerSent f w).demand.map DemandRec.standing = s.demand.map DemandRec.standing := by
  cases f with
  | claim x => exact State.onDemand_standings fun d => d.rcd.frameSent_standing .claim w
  | renew x => exact State.onDemand_standings fun d => d.rcd.frameSent_standing .renew w
  | yield x => exact State.onDemand_standings fun d => d.rcd.frameSent_standing .yield w
  | _ => rfl

@[simp] theorem State.judgeOwn_standings (accepted : Bool) :
    (s.judgeOwn accepted).demand.map DemandRec.standing = s.demand.map DemandRec.standing := by
  unfold State.judgeOwn
  dsimp only
  split
  · split_ifs <;> simp
  · rfl

@[simp] theorem State.kegLost_standings :
    s.kegLost.demand.map DemandRec.standing = s.demand.map DemandRec.standing := by
  simp [State.kegLost]

@[simp] theorem State.coupledTaken_standings (k : Taken) :
    (s.coupledTaken k).demand.map DemandRec.standing = s.demand.map DemandRec.standing := by
  cases k <;> simp [State.coupledTaken]

@[simp] theorem State.leakTaken_standings (k : Taken) :
    (s.leakTaken k).demand.map DemandRec.standing = s.demand.map DemandRec.standing := by
  cases k <;> simp [State.leakTaken]

@[simp] theorem State.handleTaken_standings (k : Taken) :
    (s.handleTaken k).demand.map DemandRec.standing = s.demand.map DemandRec.standing := by
  cases k with
  | deassertion =>
    simp only [State.handleTaken]
    split_ifs <;> simp
  | _ => rfl

@[simp] theorem State.judgeInputs_standings :
    s.judgeInputs.demand.map DemandRec.standing = s.demand.map DemandRec.standing := by
  unfold State.judgeInputs
  dsimp only
  split_ifs <;> simp

/-! ### The thresholds and the second event (04 R66, R70, R71, R74, 05 R78) -/

@[simp] theorem State.renewDue_standings (x : Resource) :
    (s.renewDue x).demand.map DemandRec.standing = s.demand.map DemandRec.standing := by
  unfold State.renewDue
  split
  · split_ifs
    · exact State.onDemand_standings fun d => d.askRenew_standing x
    · rfl
  · rfl

@[simp] theorem State.lapseDue_standings (x : Resource) :
    (s.lapseDue x).demand.map DemandRec.standing = s.demand.map DemandRec.standing := by
  unfold State.lapseDue
  split
  · split_ifs
    · exact State.onDemand_standings fun d => d.lapse_standing x
    · rfl
  · rfl

@[simp] theorem State.starveDue_standings (x : Resource) :
    (s.starveDue x).demand.map DemandRec.standing = s.demand.map DemandRec.standing := by
  unfold State.starveDue
  split_ifs
  · exact State.onDemand_standings (s := s) (x := x) (f := fun d => ⟨{ d.rcd with starveNoticed := true }, d.tx⟩) fun _ => rfl
  · rfl

@[simp] theorem State.emptyDue_standings :
    s.emptyDue.demand.map DemandRec.standing = s.demand.map DemandRec.standing := by
  unfold State.emptyDue
  dsimp only
  split_ifs <;> simp

@[simp] theorem State.foamDue_standings :
    s.foamDue.demand.map DemandRec.standing = s.demand.map DemandRec.standing := by
  unfold State.foamDue
  split_ifs <;> simp

@[simp] theorem State.settleDue_standings :
    s.settleDue.demand.map DemandRec.standing = s.demand.map DemandRec.standing := by
  unfold State.settleDue
  split_ifs <;> simp

@[simp] theorem State.minuteEvent_standings :
    s.minuteEvent.demand.map DemandRec.standing = s.demand.map DemandRec.standing := by
  unfold State.minuteEvent
  split_ifs <;> simp

@[simp] theorem State.hourEvent_standings :
    s.hourEvent.demand.map DemandRec.standing = s.demand.map DemandRec.standing := by
  unfold State.hourEvent
  split_ifs <;> simp

@[simp] theorem State.probeSecond_standings (v : Int) :
    (s.probeSecond v).demand.map DemandRec.standing = s.demand.map DemandRec.standing := by
  simp [State.probeSecond]

@[simp] theorem State.countSecond_standings :
    s.countSecond.demand.map DemandRec.standing = s.demand.map DemandRec.standing :=
  keepsStandings_iff.mpr fun x => by simp [State.countSecond, DemandRec.starveTick_standing]

@[simp] theorem State.retryRequested_standings :
    s.retryRequested.demand.map DemandRec.standing = s.demand.map DemandRec.standing :=
  ((State.onDemand_standings fun d => d.retry_standing .heat).trans
    (State.onDemand_standings fun d => d.retry_standing .gas)).trans
    (State.onDemand_standings fun d => d.retry_standing .chill)

/-! ### The orders (07, 09, 11) -/

@[simp] theorem State.setFill_standings (a : List Byte) :
    (State.setFill a s).state.demand.map DemandRec.standing = s.demand.map DemandRec.standing := by
  unfold State.setFill
  repeat' split
  all_goals simp

@[simp] theorem State.setServe_standings (a : List Byte) :
    (State.setServe a s).state.demand.map DemandRec.standing = s.demand.map DemandRec.standing := by
  unfold State.setServe
  repeat' split
  all_goals simp

@[simp] theorem State.loadStep_standings (a : List Byte) :
    (State.loadStep a s).state.demand.map DemandRec.standing = s.demand.map DemandRec.standing := by
  unfold State.loadStep
  dsimp only
  repeat' split
  all_goals simp

@[simp] theorem State.clearProgram_standings (a : List Byte) :
    (State.clearProgram a s).state.demand.map DemandRec.standing = s.demand.map DemandRec.standing := by
  unfold State.clearProgram
  split_ifs <;> simp

@[simp] theorem State.startProgram_standings (a : List Byte) :
    (State.startProgram a s).state.demand.map DemandRec.standing = s.demand.map DemandRec.standing := by
  unfold State.startProgram
  split_ifs <;> simp

@[simp] theorem State.pauseProgram_standings (a : List Byte) :
    (State.pauseProgram a s).state.demand.map DemandRec.standing = s.demand.map DemandRec.standing := by
  unfold State.pauseProgram
  split_ifs <;> simp

@[simp] theorem State.resumeProgram_standings (a : List Byte) :
    (State.resumeProgram a s).state.demand.map DemandRec.standing = s.demand.map DemandRec.standing := by
  unfold State.resumeProgram
  dsimp only
  split_ifs <;> simp

@[simp] theorem State.advanceStep_standings (a : List Byte) :
    (State.advanceStep a s).state.demand.map DemandRec.standing = s.demand.map DemandRec.standing := by
  unfold State.advanceStep
  split_ifs <;> simp

@[simp] theorem State.stopPour_standings (a : List Byte) :
    (State.stopPour a s).state.demand.map DemandRec.standing = s.demand.map DemandRec.standing := by
  unfold State.stopPour
  split_ifs <;> simp

end

end Sys2Proof.Machine
end

section
/-! PROOFS. The standing law at the station (03 R56, 04 R57, R62, R63, R67, R68; log 14) through every step: what gives the table
up and with it the standings, what takes them from the table, what a report brings about, and what only passes them by. -/

namespace Sys2Proof.Machine

/-! ### The law and what leaves it standing -/

/-- Each record's standing is what the own table holds for the own bay. -/
def StandingLaw (s : State) : Prop := ∀ x, (s.demand.get x).standing = s.share.standing s.line.address x

theorem standingLaw_iff (s : State) : standingLaw s = true ↔ StandingLaw s := by
  simp only [standingLaw, Bool.and_eq_true, beq_iff_eq]
  exact ⟨fun ⟨⟨hc, hg⟩, hh⟩ x => by cases x <;> assumption, fun h => ⟨⟨h .chill, h .gas⟩, h .heat⟩⟩

/-- What the law reads is as it was. -/
def SameStanding (s t : State) : Prop :=
  t.line.address = s.line.address ∧ t.share.table = s.share.table ∧
    t.demand.map DemandRec.standing = s.demand.map DemandRec.standing

theorem Share.standing_congr {sh sh' : Share} (h : sh'.table = sh.table) (bay : Nat) (x : Resource) :
    sh'.standing bay x = sh.standing bay x := by
  simp only [Share.standing, Share.liveSection, h]

theorem Share.standing_of_live {sh : Share} {x : Resource} {sec : Section} (h : sh.liveSection x = some sec) (bay : Nat) :
    sh.standing bay x = standingIn bay sec := by
  simp only [Share.standing, h]

theorem Share.liveSection_eq_some {sh : Share} {x : Resource} {sec : Section} (hsec : sh.liveSection x = some sec) :
    ∃ u, sh.table = some u ∧ u.get x = sec ∧ sec.live = true := by
  unfold Share.liveSection at hsec
  split at hsec
  · next u hu =>
    split_ifs at hsec with hlive
    cases hsec
    exact ⟨u, hu, rfl, hlive⟩
  · cases hsec

theorem StandingLaw.same {s t : State} (h : StandingLaw s) (hs : SameStanding s t) : StandingLaw t := by
  obtain ⟨haddress, htable, hstandings⟩ := hs
  intro x
  rw [keepsStandings_iff.mp hstandings x, h x, haddress, Share.standing_congr htable]

/-! ### The table given up or cleared (03 R37, 04 R67; log 14) -/

/-- The share table holds nothing for any bay. -/
def Share.Bare (sh : Share) : Prop := ∀ bay x, sh.standing bay x = .absent

theorem Share.discarded_bare : Share.discarded.Bare := fun _ _ => rfl

theorem Share.cleared_bare : Share.cleared.Bare := fun _ x => by cases x <;> rfl

theorem StandingLaw.setTable (s : State) {sh : Share} (h : sh.Bare) : StandingLaw (s.setTable sh) := fun x => by
  rw [State.setTable_demand, PerRes.get_map, State.setTable_share, h]
  rfl

theorem StandingLaw.leaveActive (s : State) {sh : Share} (h : sh.Bare) : StandingLaw (s.leaveActive sh) :=
  StandingLaw.setTable _ h

theorem StandingLaw.enterSync (s : State) (m : Mode) : StandingLaw (s.enterSync m) :=
  (StandingLaw.setTable s Share.cleared_bare).same ⟨rfl, rfl, rfl⟩

theorem StandingLaw.enterDoubtful (s : State) : StandingLaw s.enterDoubtful := StandingLaw.enterSync _ _

theorem StandingLaw.giveUp (s : State) : StandingLaw s.giveUp := by
  unfold State.giveUp
  split_ifs
  · exact .leaveActive s Share.discarded_bare
  · exact (StandingLaw.setTable s Share.discarded_bare).same ⟨rfl, rfl, rfl⟩

theorem StandingLaw.enterMuted (s : State) : StandingLaw s.enterMuted := (StandingLaw.giveUp s).same ⟨rfl, rfl, rfl⟩

theorem StandingLaw.enterVacant (s : State) : StandingLaw s.enterVacant := by
  have hentered : StandingLaw (s.giveUp.enterMode .vacant) := (StandingLaw.giveUp s).same ⟨rfl, rfl, rfl⟩
  exact hentered.same (by simp [SameStanding, State.enterVacant])

theorem StandingLaw.enterJoining (s : State) : StandingLaw s.enterJoining :=
  (StandingLaw.enterSync s .joining).same (by simp [SameStanding, State.enterJoining])

theorem StandingLaw.spoilSync (s : State) : StandingLaw s.spoilSync :=
  (StandingLaw.setTable s Share.cleared_bare).same ⟨rfl, rfl, rfl⟩

/-! ### ACTIVE entered (04 R68; log 14) -/

theorem DemandTx.enterActive_standing (d : DemandTx) (x : Resource) (st : Standing) :
    (d.enterActive x st).rcd.standing = st := by
  unfold DemandTx.enterActive
  rw [DemandRec.settle_keeps_standing, (DemandTx.reconcile_standing _ _ _).1]

/-- A station that becomes ACTIVE takes every standing from its table. -/
theorem StandingLaw.becomeActive (s : State) : StandingLaw s.becomeActive := fun x => by
  have hshare : s.becomeActive.share = s.share ∧ s.becomeActive.line = s.line := by simp
  rw [hshare.1, hshare.2]
  cases x <;> exact DemandTx.enterActive_standing _ _ _

theorem StandingLaw.found (s : State) : StandingLaw s.found := StandingLaw.becomeActive _

/-! ### The suspect mark, the sync and ANNOUNCE (05 R85 to R98) -/

section
variable {s : State} (h : StandingLaw s)
include h

theorem StandingLaw.doubtTest : StandingLaw s.doubtTest := by
  unfold State.doubtTest
  split_ifs
  · exact .enterDoubtful s
  · exact h

theorem StandingLaw.setSuspect : StandingLaw s.setSuspect := by
  have hmarked : StandingLaw (marked s) := h.same ⟨rfl, rfl, rfl⟩
  unfold State.setSuspect
  dsimp only
  split_ifs
  · exact .spoilSync (marked s)
  · exact hmarked.doubtTest

theorem StandingLaw.releaseSuspect : StandingLaw s.releaseSuspect := by
  unfold State.releaseSuspect
  split_ifs
  · exact StandingLaw.setSuspect (h.same ⟨rfl, rfl, rfl⟩)
  · exact h

theorem StandingLaw.lineSuspect : StandingLaw s.lineSuspect := by
  unfold State.lineSuspect
  split_ifs
  · exact h.same ⟨rfl, rfl, rfl⟩
  · exact h.setSuspect

theorem StandingLaw.waitExpired : StandingLaw s.waitExpired := by
  unfold State.waitExpired
  split_ifs
  · exact .found s
  · exact h.same ⟨rfl, rfl, rfl⟩
  · exact h.same ⟨rfl, rfl, rfl⟩
  · exact .found s
  · exact h.same ⟨rfl, rfl, rfl⟩

theorem StandingLaw.answerWait : StandingLaw s.answerWait := by
  unfold State.answerWait
  split_ifs
  · exact h.waitExpired
  · exact h

theorem StandingLaw.removeSilent (a : Nat) : StandingLaw (s.removeSilent a) := by
  unfold State.removeSilent
  split_ifs
  · exact StandingLaw.doubtTest (h.same ⟨rfl, rfl, rfl⟩)
  · exact h

theorem StandingLaw.compare (r : RosterEntry) : StandingLaw (s.compare r) := by
  unfold State.compare
  split_ifs
  · exact .enterMuted s
  · exact .enterDoubtful s
  · exact h.same ⟨rfl, rfl, rfl⟩

theorem StandingLaw.heardActive (r : RosterEntry) : StandingLaw (s.heardActive r) := by
  unfold State.heardActive
  split_ifs
  · exact .enterMuted s
  · exact h.same ⟨rfl, rfl, rfl⟩
  · exact h

theorem StandingLaw.weighAnnounce (before : Option Nat) (r : RosterEntry) : StandingLaw (s.weighAnnounce before r) := by
  unfold State.weighAnnounce
  split_ifs
  · exact h.compare r
  · exact h.doubtTest
  · exact h
  · exact h.heardActive r
  · exact h

theorem StandingLaw.announceFrame (e : RxEntry) : StandingLaw (s.announceFrame e) := by
  have hroster : StandingLaw { s with mode := { s.mode with roster := announceRoster e.sender e.body s.mode.roster } } :=
    h.same ⟨rfl, rfl, rfl⟩
  unfold State.announceFrame
  dsimp only
  split
  · exact hroster.weighAnnounce _ _
  · exact hroster

/-! ### The share frames (03 R41 to R53, R56) -/

/-- One record and its section brought to a common standing, the two others as they were. -/
theorem StandingLaw.onSection {t : State} {x : Resource} {sec : Section} (hlive : sec.live = true) {u : PerRes Section}
    (hu : s.share.table = some u) (htable : t.share.table = some (u.set x sec)) (haddress : t.line.address = s.line.address)
    (hx : (t.demand.get x).standing = standingIn s.line.address sec)
    (hothers : ∀ y, y ≠ x → t.demand.get y = s.demand.get y) : StandingLaw t := fun y => by
  rw [haddress]
  by_cases hy : y = x
  · have hsec : t.share.liveSection y = some sec := by
      rw [hy, Share.liveSection_some htable (by rw [PerRes.get_set_self]; exact hlive), PerRes.get_set_self]
    rw [Share.standing_of_live hsec, hy, hx]
  · have hsame : (u.set x sec).get y = u.get y := by rw [PerRes.get_set, if_neg hy]
    rw [hothers y hy, h y]
    simp only [Share.standing, Share.liveSection, hu, htable, hsame]

theorem StandingLaw.applyEffect {x : Resource} {sec : Section} {own : Option PendKind} {eff : Effect}
    (hsec : s.share.liveSection x = some sec) (hlive : eff.sec.live = true)
    (hreports : ReportsStanding s.line.address sec own eff) : StandingLaw (s.applyEffect x own eff) := by
  obtain ⟨u, hu, -, -⟩ := Share.liveSection_eq_some hsec
  have hset : (s.share.setSection x eff.sec).table = some (u.set x eff.sec) := by simp [Share.setSection, hu]
  have hafter : (s.share.setSection x eff.sec).liveSection x = some eff.sec := by
    rw [Share.liveSection_some hset (by rw [PerRes.get_set_self]; exact hlive), PerRes.get_set_self]
  refine h.onSection hlive hu hset rfl ?_ fun y hy => by simp [State.applyEffect, PerRes.get_set, hy]
  simp only [State.applyEffect, State.onDemand_demand, PerRes.get_set_self, DemandTx.finish_standing, h x,
    Share.standing_of_live hsec, Share.standing_of_live hafter]
  exact hreports _

theorem StandingLaw.shareFrame {x : Resource} {own : Option PendKind} {f : Section → Option Effect} (ht : TableLaw s)
    (hf : ∀ sec eff, sec.live = true → sectionLaw s.cfg x sec = true → f sec = some eff →
      KeepsLaw s.cfg x eff ∧ ReportsStanding s.line.address sec own eff) : StandingLaw (s.shareFrame x own f) := by
  unfold State.shareFrame
  split
  · next eff heff =>
    obtain ⟨sec, hsec, hfsec⟩ := Option.bind_eq_some_iff.mp heff
    obtain ⟨hlive, hlaw⟩ := ht.of_liveSection hsec
    obtain ⟨hkeeps, hreports⟩ := hf sec eff hlive hlaw hfsec
    exact (h.applyEffect hsec hkeeps.1 hreports).same ⟨rfl, rfl, rfl⟩
  · exact h.same (by simp [SameStanding])

theorem StandingLaw.claimFrame (ht : TableLaw s) (e : RxEntry) : StandingLaw (s.claimFrame e) := by
  unfold State.claimFrame
  split
  · split
    · next x hbay _ =>
      refine h.shareFrame ht fun sec eff hlive hlaw hf => ?_
      unfold claimEffect at hf
      split at hf
      · split_ifs at hf with hok
        cases hf
        obtain ⟨h1, hpool, hc⟩ := hok
        have hbay := (kegAddress_iff _).mp hbay
        exact ⟨claimIn_keepsLaw hlive hlaw hbay h1 hpool hc, claimIn_reportsStanding hlive hlaw _ hbay h1 hpool hc⟩
      · cases hf
    · exact h
  · exact h

theorem StandingLaw.renewFrame (ht : TableLaw s) (e : RxEntry) : StandingLaw (s.renewFrame e) := by
  unfold State.renewFrame
  split
  · split
    · refine h.shareFrame ht fun sec eff hlive hlaw hf => ?_
      cases hf
      exact ⟨renewIn_keepsLaw hlive hlaw _, renewIn_reportsStanding hlive hlaw _ _⟩
    · exact h
  · exact h

theorem StandingLaw.yieldFrame (ht : TableLaw s) (e : RxEntry) : StandingLaw (s.yieldFrame e) := by
  unfold State.yieldFrame
  split
  · split
    · refine h.shareFrame ht fun sec eff hlive hlaw hf => ?_
      cases hf
      exact ⟨yieldIn_keepsLaw hlive hlaw _, yieldIn_reportsStanding hlive hlaw _ _⟩
    · exact h
  · exact h

theorem StandingLaw.yieldOne (ht : TableLaw s) (x : Resource) (e : RxEntry) : StandingLaw (s.yieldOne x e) := by
  unfold State.yieldOne
  split
  · next sec hsec =>
    obtain ⟨hlive, hlaw⟩ := ht.of_liveSection hsec
    exact h.applyEffect hsec (yieldIn_keepsLaw hlive hlaw _).1 (yieldIn_reportsStanding hlive hlaw _ _)
  · exact h

theorem StandingLaw.yieldAllFrame (ht : TableLaw s) (e : RxEntry) : StandingLaw (s.yieldAllFrame e) := by
  unfold State.yieldAllFrame
  split_ifs
  · have hchill : StandingLaw (s.yieldOne .chill e) := h.yieldOne ht .chill e
    have hgas : StandingLaw ((s.yieldOne .chill e).yieldOne .gas e) := hchill.yieldOne (ht.yieldOne .chill e) .gas e
    have hheat := hgas.yieldOne ((ht.yieldOne .chill e).yieldOne .gas e) .heat e
    exact hheat.same ⟨rfl, rfl, rfl⟩
  · exact h

theorem StandingLaw.expireFrame (ht : TableLaw s) (e : RxEntry) : StandingLaw (s.expireFrame e) := by
  unfold State.expireFrame
  split
  · split
    · next target _ count _ _ _ x _ _ =>
      have hframe : StandingLaw (s.shareFrame x none (expireEffect s.cfg x target.toNat count)) := by
        refine h.shareFrame ht fun sec eff hlive hlaw hf => ?_
        unfold expireEffect at hf
        split_ifs at hf
        cases hf
        exact ⟨expireIn_keepsLaw hlive hlaw _ _, expireIn_reportsStanding hlive hlaw _ _ _⟩
      exact hframe.same (by simp [SameStanding])
    · exact h
  · exact h

/-! ### SYNC-TABLE (03 R54, 04 R68) -/

/-- The own entry of an UNRECEIVED section is none, and adoption reports the one the frame carries. -/
theorem StandingLaw.adopt {x : Resource} {sec : Section} (hun : s.share.unreceived x = true) (hlive : sec.live = true)
    (count : Word) : StandingLaw (s.adopt x sec count) := by
  cases hu : s.share.table with
  | none => simp [Share.unreceived, hu] at hun
  | some u =>
    have hbefore : (s.demand.get x).standing = .absent := by
      rw [h x, Share.standing, Share.liveSection_none (.inr ⟨u, hu, by simpa [Share.unreceived_iff hu] using hun⟩)]
    refine h.onSection hlive hu (congrArg Share.table (s.adopt_share x sec count hu)) rfl ?_ fun y hy => by
      simp [State.adopt, PerRes.get_set, hy]
    simp only [State.adopt, State.onDemand_demand, PerRes.get_set_self, DemandTx.finish_standing, hbefore]
    cases standingIn s.line.address sec <;> rfl

theorem StandingLaw.adoptFrame (body : List Byte) : StandingLaw (s.adoptFrame body) := by
  unfold State.adoptFrame
  split
  · split_ifs with hun
    · split
      · next sec count hread => exact h.adopt hun (readSection_law hread).1 count
      · exact h
    · exact h
  · exact h

theorem StandingLaw.syncTableFrame (e : RxEntry) : StandingLaw (s.syncTableFrame e) := by
  by_cases hasker : (e.body[0]?).map BitVec.toNat = some s.line.address
  · rw [s.syncTableFrame_own e hasker]
    split_ifs
    · exact .becomeActive _
    · exact (h.adoptFrame e.body).same ⟨rfl, rfl, rfl⟩
  · rw [s.syncTableFrame_other e hasker]
    exact h

/-! ### The line, the pins, the timers (01, 05, 10) -/

theorem StandingLaw.discardFrame (own clean : Bool) : StandingLaw (s.discardFrame own clean) := by
  cases hjudged : (own || clean) with
  | true =>
    rw [s.discardFrame_suspected own clean hjudged]
    exact StandingLaw.lineSuspect (h.same ⟨rfl, rfl, rfl⟩)
  | false =>
    obtain ⟨rfl, rfl⟩ := Bool.or_eq_false_iff.mp hjudged
    exact h

theorem StandingLaw.judgeOwn (accepted : Bool) : StandingLaw (s.judgeOwn accepted) := by
  have haddress : (s.judgeOwn accepted).line.address = s.line.address := by
    unfold State.judgeOwn
    dsimp only
    split
    · split_ifs <;> simp
    · rfl
  exact h.same ⟨haddress, by simp, by simp⟩

theorem StandingLaw.receive (e : RxEntry) : StandingLaw (s.receive e) := by
  unfold State.receive
  split_ifs
  · split <;> exact h.same ⟨rfl, rfl, rfl⟩
  · exact StandingLaw.lineSuspect (h.same ⟨rfl, rfl, rfl⟩)

theorem StandingLaw.judgeFrame (falseStart : Bool) (chars : List RxChar) : StandingLaw (s.judgeFrame falseStart chars) := by
  have hidle : StandingLaw { s with line :=
      { s.line.idled with spent := s.line.spent && !clearsSpent s.line.address chars } } := h.same ⟨rfl, rfl, rfl⟩
  unfold State.judgeFrame
  dsimp only
  split
  · exact (hidle.judgeOwn true).receive _
  · exact (hidle.judgeOwn false).discardFrame _ _

theorem StandingLaw.kegPresentTaken (k : Taken) : StandingLaw (s.kegPresentTaken k) := by
  cases k with
  | nothing => exact h
  | assertion =>
    have hmoved : StandingLaw (if s.mode.mode = .vacant then s.enterJoining else s) := by
      split_ifs
      · exact .enterJoining s
      · exact h
    exact hmoved.same (by simp [SameStanding, State.kegPresentTaken])
  | deassertion =>
    have hlost : StandingLaw s.kegLost := h.same (by simp [SameStanding])
    have hmoved : StandingLaw (if s.kegLost.active || s.kegLost.syncing then s.kegLost.enterVacant else s.kegLost) := by
      split_ifs
      · exact .enterVacant s.kegLost
      · exact hlost
    exact hmoved.same (by simp [SameStanding, State.kegPresentTaken])

theorem StandingLaw.handOn (before : State) : StandingLaw (State.handOn before s) :=
  (h.kegPresentTaken (takenOf before s .kegPresent)).same (by simp [SameStanding, State.handOn])

theorem StandingLaw.takeSilent : StandingLaw s.takeSilent := by
  unfold State.takeSilent
  generalize [1, 2, 3, 4, 5, 6, 7, 8, 9, 10, 11, 12] = l
  induction l generalizing s with
  | nil => exact h
  | cons a as ih => exact ih (h.removeSilent a)

end

theorem State.announceTimer_sameStanding (s : State) : SameStanding s s.announceTimer := by
  unfold State.announceTimer
  split_ifs <;> exact ⟨rfl, rfl, rfl⟩

theorem State.restTimer_sameStanding (s : State) : SameStanding s s.restTimer := by
  unfold State.restTimer
  split_ifs <;> exact ⟨rfl, rfl, rfl⟩

theorem State.slot_sameStanding (s : State) (r : Round) (wireHigh : Bool) : SameStanding s (s.slot r wireHigh) := by
  refine ⟨?_, by simp, by simp⟩
  unfold State.slot
  dsimp only
  split_ifs
  · rfl
  · split
    · split_ifs <;> rfl
    · rfl

theorem StandingLaw.takeDue {s : State} (h : StandingLaw s) : StandingLaw s.takeDue := by
  have hfirst : StandingLaw (State.starveDue .heat (State.starveDue .gas (State.starveDue .chill
      s.minuteEvent.hourEvent.driftDue.emptyDue.foamDue.settleDue))) := h.same (by simp [SameStanding])
  exact ((hfirst.takeSilent.same (State.announceTimer_sameStanding _)).answerWait).same (State.restTimer_sameStanding _)

theorem StandingLaw.second {s : State} (h : StandingLaw s) (probe pressure : Int) : StandingLaw (s.second probe pressure) :=
  h.takeDue.same (by simp [SameStanding, State.second])

/-! ### Starts and the configuration load (05 R76 to R80) -/

theorem StandingLaw.started {reason : StartReason} {strap : BitVec 4} {frozen : Option Hold} {program : Program}
    {log : List LogEntry} {keg : Keg} {notice : Notice} {inputs : Inputs} {draws : Nat} {pending : List Instr} :
    StandingLaw (State.started reason strap frozen program log keg notice inputs draws pending) :=
  fun x => by cases x <;> rfl

theorem StandingLaw.leaveStarting {s : State} (h : StandingLaw s) : StandingLaw s.leaveStarting := by
  have hleft : StandingLaw
      (if s.asserted .kegPresent = true then s.enterSync .joining else (s.enterMode .vacant).thermalEval) := by
    split_ifs
    · exact .enterSync s .joining
    · exact h.same (by simp [SameStanding])
  unfold State.leaveStarting
  dsimp only
  generalize (if s.asserted .kegPresent = true then s.enterSync .joining else (s.enterMode .vacant).thermalEval) = u at hleft ⊢
  split_ifs
  · exact hleft.same ⟨rfl, rfl, rfl⟩
  · exact hleft
  · exact h

theorem StandingLaw.configLoadEnd {s : State} (h : StandingLaw s) (read : Option WorkingCopy) :
    StandingLaw ((s.takeConfig read).judgeInputs).leaveStarting :=
  StandingLaw.leaveStarting (h.same (by simp [SameStanding]))

/-! ### The rows -/

/-- A row of a frame, the table's laws standing as its effect begins. -/
theorem StandingLaw.frameRow {s t : State} {ok : FrameClass → Bool} {f : RxEntry → State → State} (h : StandingLaw s)
    (ht : TableLaw s) (hf : ∀ e u, TableLaw u → StandingLaw u → StandingLaw (f e u))
    (he : whileRunning s (fun s => takeFrame s ok f) = .next t) : StandingLaw t :=
  whileRunning_keeps h
    (takeFrame_keeps s _ _ h fun e => hf e _ (ht.same ⟨rfl, rfl, rfl, rfl⟩) (h.same ⟨rfl, rfl, rfl⟩)) he

/-- A row of an order whose performance passes the standings by. -/
theorem StandingLaw.orderRow {s t : State} {o : OrderCode} {p : List Byte → State → Reply} (h : StandingLaw s)
    (hp : ∀ a u, SameStanding u (p a u).state) (he : orderRow o p s = .next t) : StandingLaw t :=
  orderRow_keeps h (fun _ => h.same ⟨rfl, rfl, rfl⟩) (fun _ hu => hu.same ⟨rfl, rfl, rfl⟩)
    (fun _ _ _ _ _ hu => hu.same ⟨rfl, rfl, rfl⟩) (fun a u hu => hu.same (hp a u)) he

/-- A row whose effect passes the standings by. -/
theorem StandingLaw.passedBy {s t : State} {f : State → State} (h : StandingLaw s) (hf : SameStanding s (f s))
    (he : whileRunning s f = .next t) : StandingLaw t :=
  whileRunning_keeps h (h.same hf) he

theorem StandingLaw.row {c : Instr} {s t : State} (ht : TableLaw s) (h : StandingLaw s) (he : exec c s = .next t) :
    StandingLaw t := by
  cases c with
  | coldStart strap => cases he; exact .started
  | dipStart strap => cases he; exact .started
  | supplyFall => cases he; exact h.same ⟨rfl, rfl, rfl⟩
  | orderedStart strap =>
    cases he
    split_ifs
    · exact .started
    · exact h
  | configLoadEnd read =>
    refine whileRunning_keeps h ?_ he
    split_ifs
    · exact h.configLoadEnd _
    · exact h
  | secondEvent probe pressure =>
    change execSecondEvent probe pressure s = .next t at he
    rw [execSecondEvent] at he
    refine whileRunning_keeps h ?_ he
    split_ifs
    · exact h
    · exact h.second _ _
  | minuteEvent | hourEvent | meterPulse | driftLimit | emptyEnd | foamEnd | settlingEnd =>
    exact h.passedBy (by simp [SameStanding]) he
  | pinChange input high => cases he; exact h.same ⟨rfl, rfl, rfl⟩
  | inputSettled inputs =>
    change execInputSettled inputs s = .next t at he
    rw [execInputSettled] at he
    refine whileRunning_keeps h ?_ he
    have hsettled : StandingLaw (s.settleAll inputs) := h.same ⟨rfl, rfl, rfl⟩
    exact (hsettled.handOn s).same (by simp [SameStanding])
  | configLoad | lineIdle | breakSeen => exact whileRunning_keeps h (by split_ifs <;> exact h.same ⟨rfl, rfl, rfl⟩) he
  | stub =>
    change execStub s = .next t at he
    rw [execStub] at he
    exact whileRunning_keeps h (by split <;> exact h.same ⟨rfl, rfl, rfl⟩) he
  | frameEnd falseStart chars =>
    refine whileRunning_keeps h ?_ he
    split_ifs
    · exact h.judgeFrame _ _
    · exact h
  | frameBroken cause falseStart chars =>
    refine whileRunning_keeps h ?_ he
    have hbroken : StandingLaw { s with line := s.line.outside (BreakCause.leadsTo cause) } := h.same ⟨rfl, rfl, rfl⟩
    split_ifs
    · exact (hbroken.judgeOwn false).discardFrame _ _
    · exact h
  | slotBegin wireHigh =>
    change execSlotBegin wireHigh s = .next t at he
    rw [execSlotBegin] at he
    refine whileRunning_keeps h ?_ he
    split
    · split_ifs
      · exact h.same (s.slot_sameStanding _ _)
      · exact h
    · exact h
  | quietWindow =>
    change execQuietWindow s = .next t at he
    rw [execQuietWindow] at he
    refine whileRunning_keeps h ?_ he
    split
    · split_ifs <;> exact h.same ⟨rfl, rfl, rfl⟩
    · exact h
  | lostArbitration bit =>
    change execLostArbitration bit s = .next t at he
    rw [execLostArbitration] at he
    refine whileRunning_keeps h ?_ he
    split
    · split_ifs <;> exact h.same ⟨rfl, rfl, rfl⟩
    · exact h
  | sendFault bit =>
    change execSendFault bit s = .next t at he
    rw [execSendFault] at he
    refine whileRunning_keeps h ?_ he
    split
    · split_ifs
      · exact StandingLaw.lineSuspect (h.same ⟨by simp [Line.faulted_eq], rfl, rfl⟩)
      · exact h
    · exact h
  | frameComplete =>
    change execFrameComplete s = .next t at he
    rw [execFrameComplete] at he
    refine whileRunning_keeps h ?_ he
    split
    · exact h.same (by simp [SameStanding])
    · exact h
  | frameRejected =>
    change execFrameRejected s = .next t at he
    rw [execFrameRejected] at he
    refine h.frameRow ht (fun e u _ hu => ?_) he
    exact StandingLaw.setSuspect (hu.same ⟨rfl, rfl, rfl⟩)
  | frameNoBlock => exact h.frameRow ht (fun _ _ _ hu => hu) he
  | claim => exact h.frameRow ht (fun e _ htu hu => hu.claimFrame htu e) he
  | renew => exact h.frameRow ht (fun e _ htu hu => hu.renewFrame htu e) he
  | yield => exact h.frameRow ht (fun e _ htu hu => hu.yieldFrame htu e) he
  | yieldAll => exact h.frameRow ht (fun e _ htu hu => hu.yieldAllFrame htu e) he
  | expire => exact h.frameRow ht (fun e _ htu hu => hu.expireFrame htu e) he
  | syncTable => exact h.frameRow ht (fun e _ _ hu => (hu.syncTableFrame e).releaseSuspect) he
  | syncAsk => exact h.frameRow ht (fun _ _ _ hu => hu.same (by simp [SameStanding])) he
  | announce => exact h.frameRow ht (fun e _ _ hu => (hu.announceFrame e).releaseSuspect) he
  | answerWaitExpiry => exact whileRunning_keeps h h.answerWait he
  | restEnd => exact h.passedBy s.restTimer_sameStanding he
  | announceTimer => exact h.passedBy s.announceTimer_sameStanding he
  | rosterEntryRemoved address => exact whileRunning_keeps h (h.removeSilent address) he
  | renewPoint x | lapse x | expiryPoint x | starveLimit x => exact h.passedBy (by simp [SameStanding]) he
  | readStatus | readKeg => exact h.orderRow (fun _ _ => ⟨rfl, rfl, rfl⟩) he
  | readStep | readPourLog | readNotices | clearNotices | setNoticeEnable | raiseNotice | setFill | setServe | loadStep
  | clearProgram | startProgram | pauseProgram | resumeProgram | advanceStep | stopPour | restartBay =>
    exact h.orderRow (by simp [SameStanding]) he
  | pourPortion settled =>
    refine h.frameRow ht (fun e u _ hu => ?_) he
    have hsettled : StandingLaw (u.settleAll settled) := hu.same ⟨rfl, rfl, rfl⟩
    exact State.pourPortionRow_keeps _ _ _ (fun l => (hsettled.handOn u).same (by simp [SameStanding]))
      (fun _ hv => hv.same ⟨rfl, rfl, rfl⟩) (fun _ _ _ _ hv => hv.same ⟨rfl, rfl, rfl⟩)
  | unknownOrder =>
    refine h.frameRow ht (fun _ _ _ hu => ?_) he
    split_ifs <;> exact hu.same ⟨rfl, rfl, rfl⟩

/-- Settles O60: the table's laws and the standing law go together through every step. -/
theorem everyStepKeepsTheStandingLaw : Obligations.EveryStepKeepsTheStandingLaw := by
  intro s t htable hstanding he
  refine (standingLaw_iff t).mpr (step_keeps (P := fun u => TableLaw u ∧ StandingLaw u) (fun u l ⟨htu, hu⟩ => ?_)
    (fun u ⟨htu, hu⟩ => ?_) (fun _ _ _ ⟨htu, hu⟩ heu => ⟨htu.row heu, hu.row htu heu⟩) s t
    ⟨(tableLaw_iff s).mp htable, (standingLaw_iff s).mp hstanding⟩ he).2
  · exact ⟨htu.same ⟨rfl, rfl, rfl, rfl⟩, hu.same ⟨rfl, rfl, rfl⟩⟩
  · rw [State.tick_eq]
    split_ifs
    · exact ⟨htu.same ⟨rfl, rfl, rfl, rfl⟩, hu.same ⟨rfl, rfl, rfl⟩⟩
    · exact ⟨htu, hu⟩

end Sys2Proof.Machine
end

section
/-! PROOFS. Changes of need by demand state (04 R58, R61, R65; log 16) and the retry of REQUESTED frames (04 R66). -/

namespace Sys2Proof.Machine

/-! ### What becomes of the pending frame (01 R20, R21, 04 R60) -/

/-- The pending frame of d is withdrawn: it stands in the queue at stage IN-QUEUE alone. -/
def FrameWithdrawn (x : Resource) (d e : DemandTx) : Prop :=
  e.rcd.pending = none ∧
    e.tx = if d.rcd.pending.map Pending.stage = some .inQueue then d.tx.withdraw (TxFrame.keyedTo x) else d.tx

/-- The pending CLAIM of d is updated in place: only one in flight is replaced. -/
def FrameUpdated (x : Resource) (d e : DemandTx) : Prop :=
  e.rcd.pending = d.rcd.pending ∧
    e.tx = if d.rcd.pending.map Pending.stage = some .inQueue ∧ d.tx.queues (TxFrame.keyedTo x) = false ∧
        d.tx.holds (TxFrame.keyedTo x) = true then (d.tx.withdraw (TxFrame.keyedTo x)).enqueue (.claim x) else d.tx

/-- The pending frame of d is REQUESTED, or IN-QUEUE and still queued. -/
def Recalled (x : Resource) (d : DemandTx) : Prop :=
  d.rcd.pending.map Pending.stage = some .requested ∨
    (d.rcd.pending.map Pending.stage = some .inQueue ∧ d.tx.queues (TxFrame.keyedTo x) = true)

section
variable (d : DemandTx) (x : Resource)

theorem DemandTx.recallable_iff : d.recallable x = true ↔ Recalled x d := by
  unfold DemandTx.recallable Recalled
  rcases d.rcd.pending with _ | ⟨k, _ | _ | _⟩ <;> simp

theorem DemandTx.drop_withdrawn : FrameWithdrawn x d (d.drop x) := by
  refine ⟨rfl, ?_⟩
  unfold DemandTx.drop
  rcases d.rcd.pending with _ | ⟨k, _ | _ | _⟩ <;> rfl

theorem DemandTx.refresh_updated (h : d.rcd.pending.map Pending.kind = some .claim) : FrameUpdated x d (d.refresh x) := by
  unfold FrameUpdated DemandTx.refresh
  obtain ⟨⟨k, stage⟩, hp, rfl⟩ := Option.map_eq_some_iff.mp h
  cases stage with
  | inQueue =>
    simp only [hp, Tx.update, Tx.replace]
    cases d.tx.queues (TxFrame.keyedTo x) <;> cases d.tx.holds (TxFrame.keyedTo x) <;> simp
  | _ => simp [hp]

end

/-! ### Demand states (04 R59) -/

section
variable {r : DemandRec}

theorem DemandRec.meets_iff {n : Need} : r.meets n = true ↔ r.standing = .waiting n ∨ r.standing = .granted n := by
  unfold DemandRec.meets
  cases r.standing <;> simp

/-- The rows of R59 while the station is ACTIVE: a pending YIELD, then the own entry, then the need. -/
theorem demandState_active (r : DemandRec) :
    demandState true r =
      if r.pending.map Pending.kind = some .yield then .yielding
      else
        match r.standing with
        | .granted _ => if r.pending.map Pending.kind = some .claim then .changing else .held
        | .waiting _ => .waiting
        | .absent => if r.need.isSome then .sending else .idle := by
  unfold demandState
  generalize r.pending.map Pending.kind = kind
  rcases kind with _ | _ | _ | _ <;> cases r.standing <;> rfl

/-- Only a pending CLAIM makes a GRANTED entry CHANGING. -/
theorem claimed_of_changing (h : demandState true r = .changing) : r.pending.map Pending.kind = some .claim := by
  by_contra hk
  rw [demandState_active] at h
  by_cases hy : r.pending.map Pending.kind = some .yield
  · simp [hy] at h
  · cases hs : r.standing with
    | granted n => simp [hy, hk, hs] at h
    | waiting n => simp [hy, hs] at h
    | absent => cases hn : r.need <;> simp [hy, hs, hn] at h

end

/-! ### A need that appears, disappears or changes (04 R61) -/

section
variable (d : DemandTx) (x : Resource)

theorem DemandTx.needAppears_cases (n : Need) :
    (demandState true d.rcd = .idle → AskedFor d.tx x .claim (d.needAppears x n)) ∧
    (demandState true d.rcd = .yielding → Recalled x d → d.rcd.lapse = false → FrameWithdrawn x d (d.needAppears x n)) ∧
    (demandState true d.rcd = .yielding → ¬ Recalled x d ∨ d.rcd.lapse = true → NothingAsked d (d.needAppears x n)) ∧
    (demandState true d.rcd ≠ .idle → demandState true d.rcd ≠ .yielding → NothingAsked d (d.needAppears x n)) := by
  rw [← d.recallable_iff x]
  unfold DemandTx.needAppears
  refine ⟨fun hs => ?_, fun hs hr hl => ?_, fun hs hkept => ?_, fun hidle hyielding => ?_⟩
  · simp only [hs]
    exact DemandTx.ask_askedFor ⟨{ d.rcd with need := some n }, d.tx⟩ x .claim
  · simp only [hs, hr, hl]
    exact DemandTx.drop_withdrawn ⟨{ d.rcd with need := some n }, d.tx⟩ x
  · have hnot : (d.recallable x && !d.rcd.lapse) = false := by
      rcases hkept with h | h <;> simp [h]
    simp only [hs, hnot]
    exact ⟨rfl, rfl⟩
  · dsimp only
    split
    · next hs => exact absurd hs hidle
    · next hs => exact absurd hs hyielding
    · exact ⟨rfl, rfl⟩

theorem DemandTx.needDisappears_cases :
    (demandState true d.rcd = .sending → d.rcd.pending.map Pending.kind = some .claim →
      (Recalled x d → FrameWithdrawn x d (d.needDisappears x)) ∧
      (¬ Recalled x d → AskedFor d.tx x .yield (d.needDisappears x))) ∧
    (demandState true d.rcd = .waiting ∨ demandState true d.rcd = .held ∨ demandState true d.rcd = .changing →
      AskedFor d.tx x .yield (d.needDisappears x)) ∧
    (demandState true d.rcd = .yielding → NothingAsked d (d.needDisappears x)) := by
  have hasked := DemandTx.ask_askedFor ⟨{ d.rcd with need := none }, d.tx⟩ x .yield
  rw [← d.recallable_iff x]
  unfold DemandTx.needDisappears
  refine ⟨fun hs hclaim => ?_, fun hs => ?_, fun hs => ?_⟩
  · obtain ⟨⟨k, stage⟩, hp, rfl⟩ := Option.map_eq_some_iff.mp hclaim
    simp only [hs, hp]
    refine ⟨fun hr => ?_, fun hr => ?_⟩
    · rw [if_pos hr]
      have hdropped := DemandTx.drop_withdrawn ⟨{ d.rcd with need := none }, d.tx⟩ x
      simpa only [FrameWithdrawn, hp] using hdropped
    · rw [if_neg hr]
      simpa only [hp] using hasked
  · rcases hs with hs | hs | hs <;> simp only [hs] <;> exact hasked
  · simp only [hs]
    exact ⟨rfl, rfl⟩

theorem DemandTx.needChanges_sending (n : Need) (hs : demandState true d.rcd = .sending)
    (hclaim : d.rcd.pending.map Pending.kind = some .claim) : FrameUpdated x d (d.needChanges x n) := by
  simp only [DemandTx.needChanges, hs]
  exact DemandTx.refresh_updated ⟨{ d.rcd with need := some n, resend := false }, d.tx⟩ x hclaim

/-- In WAITING a change is claimed, by the pending CLAIM where there is one; one back to the standing withdraws it. -/
theorem DemandTx.needChanges_of_waiting (n : Need) (hs : demandState true d.rcd = .waiting) :
    d.needChanges x n =
      let e : DemandTx := ⟨{ d.rcd with need := some n, resend := false }, d.tx⟩
      if d.rcd.pending.map Pending.kind = some .claim then (if d.rcd.meets n then e.drop x else e.refresh x)
      else (if d.rcd.meets n then e else e.ask x .claim) := by
  simp only [DemandTx.needChanges, hs]
  have hkind : (∀ stage, d.rcd.pending = some ⟨.claim, stage⟩ → False) → d.rcd.pending.map Pending.kind ≠ some .claim := by
    intro hnot hk
    obtain ⟨⟨k, stage⟩, hp, rfl⟩ := Option.map_eq_some_iff.mp hk
    exact hnot stage hp
  split
  · next hp hm => rw [if_pos (by rw [hp]; rfl), if_pos hm]
  · next hp hm => rw [if_pos (by rw [hp]; rfl), if_neg (by simp [hm])]
  · next hm hnot => rw [if_neg (hkind hnot), if_pos hm]
  · next hm hnot => rw [if_neg (hkind hnot), if_neg (by simp [hm])]

theorem DemandTx.needChanges_waiting (n : Need) (hs : demandState true d.rcd = .waiting) :
    (d.rcd.meets n = true → d.rcd.pending.map Pending.kind = some .claim → FrameWithdrawn x d (d.needChanges x n)) ∧
    (d.rcd.meets n = true → d.rcd.pending.map Pending.kind ≠ some .claim → NothingAsked d (d.needChanges x n)) ∧
    (d.rcd.meets n = false → d.rcd.pending.map Pending.kind = some .claim → FrameUpdated x d (d.needChanges x n)) ∧
    (d.rcd.meets n = false → d.rcd.pending.map Pending.kind ≠ some .claim → AskedFor d.tx x .claim (d.needChanges x n)) := by
  rw [d.needChanges_of_waiting x n hs]
  refine ⟨fun hm hk => ?_, fun hm hk => ?_, fun hm hk => ?_, fun hm hk => ?_⟩
  · rw [if_pos hk, if_pos hm]
    exact DemandTx.drop_withdrawn ⟨{ d.rcd with need := some n, resend := false }, d.tx⟩ x
  · rw [if_neg hk, if_pos hm]
    exact ⟨rfl, rfl⟩
  · rw [if_pos hk, if_neg (by simp [hm])]
    exact DemandTx.refresh_updated ⟨{ d.rcd with need := some n, resend := false }, d.tx⟩ x hk
  · rw [if_neg hk, if_neg (by simp [hm])]
    exact DemandTx.ask_askedFor ⟨{ d.rcd with need := some n, resend := false }, d.tx⟩ x .claim

theorem DemandTx.needChanges_held (n : Need) (hs : demandState true d.rcd = .held) :
    (d.rcd.meets n = true → NothingAsked d (d.needChanges x n)) ∧
    (d.rcd.meets n = false → AskedFor d.tx x .claim (d.needChanges x n)) := by
  unfold DemandTx.needChanges
  refine ⟨fun hm => ?_, fun hm => ?_⟩ <;> simp only [hs, hm]
  · exact ⟨rfl, rfl⟩
  · exact DemandTx.ask_askedFor ⟨{ d.rcd with need := some n, resend := false }, d.tx⟩ x .claim

theorem DemandTx.needChanges_changing (n : Need) (hs : demandState true d.rcd = .changing) :
    (d.rcd.meets n = true → FrameWithdrawn x d (d.needChanges x n)) ∧
    (d.rcd.meets n = false → FrameUpdated x d (d.needChanges x n)) := by
  unfold DemandTx.needChanges
  refine ⟨fun hm => ?_, fun hm => ?_⟩ <;> simp only [hs, hm]
  · exact DemandTx.drop_withdrawn ⟨{ d.rcd with need := some n, resend := false }, d.tx⟩ x
  · exact DemandTx.refresh_updated ⟨{ d.rcd with need := some n, resend := false }, d.tx⟩ x
      (claimed_of_changing (r := d.rcd) hs)

theorem DemandTx.needChanges_yielding (n : Need) (hs : demandState true d.rcd = .yielding) :
    NothingAsked d (d.needChanges x n) := by
  simp only [DemandTx.needChanges, hs]
  exact ⟨rfl, rfl⟩

/-! ### A published need (04 R58) -/

/-- The same, an episode of starvation that has ended settled. -/
def DemandTx.settled (d : DemandTx) (active : Bool) : DemandTx := ⟨d.rcd.settle active, d.tx⟩

/-- Settling touches no frame and no mark. -/
theorem DemandTx.settled_frame (active : Bool) :
    (d.settled active).rcd.pending = d.rcd.pending ∧ (d.settled active).tx = d.tx ∧
      (d.settled active).rcd.resend = d.rcd.resend ∧ (d.settled active).rcd.lapse = d.rcd.lapse :=
  ⟨(d.rcd.settle_standing active).2.2, rfl, (d.rcd.settle_marks active).1, (d.rcd.settle_marks active).2⟩

theorem DemandTx.publish_rests {active : Bool} {need : Option Need} (h : d.rcd.need = need ∨ active = false) :
    d.publish active x need = (⟨{ d.rcd with need := need }, d.tx⟩ : DemandTx).settled active := by
  unfold DemandTx.publish DemandTx.settled
  dsimp only
  split_ifs with hsame hinactive
  · subst hsame
    rfl
  · rfl
  · exact absurd h (by tauto)

theorem DemandTx.publish_appears {n : Need} (h : d.rcd.need = none) :
    d.publish true x (some n) = (d.needAppears x n).settled true := by
  simp [DemandTx.publish, DemandTx.settled, h]

theorem DemandTx.publish_disappears {m : Need} (h : d.rcd.need = some m) :
    d.publish true x none = (d.needDisappears x).settled true := by
  simp [DemandTx.publish, DemandTx.settled, h]

theorem DemandTx.publish_changes {m n : Need} (h : d.rcd.need = some m) (hne : m ≠ n) :
    d.publish true x (some n) = (d.needChanges x n).settled true := by
  simp [DemandTx.publish, DemandTx.settled, h, hne]

theorem DemandTx.needAppears_lapse (n : Need) : (d.needAppears x n).rcd.lapse = d.rcd.lapse := by
  unfold DemandTx.needAppears
  dsimp only
  split
  · rfl
  · split_ifs <;> rfl
  · rfl

theorem DemandTx.needDisappears_lapse : (d.needDisappears x).rcd.lapse = d.rcd.lapse := by
  unfold DemandTx.needDisappears
  dsimp only
  repeat' split
  all_goals rfl

theorem DemandTx.needChanges_lapse (n : Need) : (d.needChanges x n).rcd.lapse = d.rcd.lapse := by
  have hrefresh := DemandTx.refresh_rcd ⟨{ d.rcd with need := some n, resend := false }, d.tx⟩ x
  unfold DemandTx.needChanges
  dsimp only
  split
  · rw [hrefresh]
  · split
    · rfl
    · rw [hrefresh]
    · rfl
    · rfl
  · split_ifs <;> rfl
  · split_ifs
    · rfl
    · rw [hrefresh]
  all_goals rfl

/-- A publication keeps the lapse mark. -/
theorem DemandTx.publish_lapse (active : Bool) (need : Option Need) : (d.publish active x need).rcd.lapse = d.rcd.lapse := by
  by_cases hrests : d.rcd.need = need ∨ active = false
  · rw [d.publish_rests x hrests, (DemandTx.settled_frame _ active).2.2.2]
  · obtain ⟨hne, hactive⟩ := not_or.mp hrests
    obtain rfl : active = true := by simpa using hactive
    cases hneed : d.rcd.need with
    | none =>
      cases need with
      | none => exact absurd hneed hne
      | some n => rw [d.publish_appears x hneed, (DemandTx.settled_frame _ true).2.2.2, d.needAppears_lapse]
    | some m =>
      cases need with
      | none => rw [d.publish_disappears x hneed, (DemandTx.settled_frame _ true).2.2.2, d.needDisappears_lapse]
      | some n =>
        rw [d.publish_changes x hneed fun heq => hne (hneed.trans (congrArg some heq)),
          (DemandTx.settled_frame _ true).2.2.2, d.needChanges_lapse]

end

/-! ### The retry of REQUESTED frames (04 R66) -/

/-- A share frame of one resource does not decide whether a YIELD-ALL holds the sort. -/
theorem Tx.shareBarred_putShare (tx : Tx) (x : Resource) (k : PendKind) : (tx.putShare x k).shareBarred = tx.shareBarred := by
  unfold Tx.putShare
  cases hbarred : tx.shareBarred with
  | true => simpa using hbarred
  | false => exact tx.holds_replace_false _ _ _ (by cases k <;> rfl) hbarred

theorem DemandTx.retry_shareBarred (d : DemandTx) (x : Resource) : (d.retry x).tx.shareBarred = d.tx.shareBarred := by
  unfold DemandTx.retry
  split
  · exact d.tx.shareBarred_putShare x _
  · rfl

/-- A frame asked for again stays REQUESTED behind a YIELD-ALL alone. -/
theorem DemandTx.retry_requested {d : DemandTx} {x : Resource} {k : PendKind}
    (h : (d.retry x).rcd.pending = some ⟨k, .requested⟩) : d.tx.shareBarred = true := by
  unfold DemandTx.retry at h
  split at h
  · by_contra hfree
    simp [DemandTx.ask, Tx.putStage, hfree] at h
  · next hnot => exact absurd h (hnot k)

/-- A REQUESTED frame of the resource stands behind a YIELD-ALL. -/
def RequestedBarred (s : State) (x : Resource) : Prop :=
  ∀ k, (s.demand.get x).pending = some ⟨k, .requested⟩ → s.tx.shareBarred = true

/-- One record's retry settles its own frame and leaves those settled before it. -/
theorem RequestedBarred.retry {s : State} {l : List Resource} (y : Resource) (h : ∀ x ∈ l, RequestedBarred s x) :
    ∀ x ∈ y :: l, RequestedBarred (s.onDemand y (fun d => d.retry y)) x := by
  intro x hx k hp
  rw [State.onDemand_tx, DemandTx.retry_shareBarred]
  rw [State.onDemand_demand, PerRes.get_set] at hp
  split_ifs at hp with hxy
  · exact DemandTx.retry_requested hp
  · exact h x ((List.mem_cons.mp hx).resolve_left hxy) k hp

theorem State.retryRequested_barred (s : State) (x : Resource) : RequestedBarred s.retryRequested x := by
  have hnone : ∀ x ∈ ([] : List Resource), RequestedBarred s x := by simp
  exact RequestedBarred.retry .heat (RequestedBarred.retry .gas (RequestedBarred.retry .chill hnone)) x (by cases x <;> simp)

/-- Settles O26: the record's change of need by its three forms, each by demand state; the retry of one record after another. -/
theorem changesOfNeedAndRetries : Obligations.ChangesOfNeedAndRetries := by
  refine ⟨fun r tx active x need => ?_, fun s probe pressure hrun hload => ?_⟩
  · intro d e state claimed recalled withdrawn updated equals
    obtain ⟨hneed, hstanding⟩ := e.publish_need active x need
    have hequals : ∀ n, equals n ↔ r.meets n = true := fun n => DemandRec.meets_iff.symm
    have hdiffers : ∀ n, ¬ equals n → r.meets n = false := fun n hn => Bool.eq_false_iff.mpr (mt (hequals n).mpr hn)
    refine ⟨hneed, hstanding, e.publish_lapse x active need, fun h => ?_, fun n ha hn hn' => ?_, fun n ha hn hn' => ?_,
      fun m n ha hm hn hne => ?_⟩
    · have hd : d = (⟨{ e.rcd with need := need }, tx⟩ : DemandTx).settled active := e.publish_rests x h
      obtain ⟨hp, htx, hresend, -⟩ := DemandTx.settled_frame ⟨{ e.rcd with need := need }, tx⟩ active
      rw [← hd] at hp htx hresend
      exact ⟨⟨hp, htx⟩, hresend⟩
    · subst ha hn'
      have hd : d = (e.needAppears x n).settled true := e.publish_appears x hn
      obtain ⟨hp, htx, -, -⟩ := (e.needAppears x n).settled_frame true
      rw [← hd] at hp htx
      have hcases := e.needAppears_cases x n
      simp only [AskedFor, NothingAsked, FrameWithdrawn, ← hp, ← htx] at hcases
      exact hcases
    · subst ha hn'
      have hd : d = (e.needDisappears x).settled true := e.publish_disappears x hn
      obtain ⟨hp, htx, -, -⟩ := (e.needDisappears x).settled_frame true
      rw [← hd] at hp htx
      obtain ⟨hsending, hothers, hyielding⟩ := e.needDisappears_cases x
      simp only [AskedFor, NothingAsked, FrameWithdrawn, ← hp, ← htx] at hsending hothers hyielding
      exact ⟨fun hs hc => (hsending hs hc).1, fun hs hc => (hsending hs hc).2, hothers, hyielding⟩
    · subst ha hn
      have hd : d = (e.needChanges x n).settled true := e.publish_changes x hm hne
      obtain ⟨hp, htx, hresend, -⟩ := (e.needChanges x n).settled_frame true
      rw [← hd] at hp htx hresend
      have hcleared : d.rcd.resend = false := hresend.trans (e.needChanges_resend x n)
      have hsending := e.needChanges_sending x n
      have hwaiting := e.needChanges_waiting x n
      have hheld := e.needChanges_held x n
      have hchanging := e.needChanges_changing x n
      have hyielding := e.needChanges_yielding x n
      simp only [AskedFor, NothingAsked, FrameWithdrawn, FrameUpdated, ← hp, ← htx] at hsending hwaiting hheld hchanging hyielding
      refine ⟨hcleared, hsending, fun hs heq hc => (hwaiting hs).1 ((hequals n).mp heq) hc,
        fun hs heq hc => (hwaiting hs).2.1 ((hequals n).mp heq) hc, fun hs hne hc => (hwaiting hs).2.2.1 (hdiffers n hne) hc,
        fun hs hne hc => (hwaiting hs).2.2.2 (hdiffers n hne) hc,
        fun hs => ⟨hcleared, fun heq => (hheld hs).1 ((hequals n).mp heq), fun hne => (hheld hs).2 (hdiffers n hne)⟩,
        fun hs => ⟨fun heq => (hchanging hs).1 ((hequals n).mp heq), fun hne => (hchanging hs).2 (hdiffers n hne)⟩, hyielding⟩
  · exact ⟨_, exec_secondEvent s probe pressure hrun hload, fun x k hp => State.retryRequested_barred _ x k hp⟩

end Sys2Proof.Machine
end

section
/-! PROOFS. The lease, starve and drift thresholds (04 R69 to R74, 06 R113). -/

namespace Sys2Proof.Machine

/-! ### Frames asked for where the place is free (01 R19) -/

/-- What holds no place of a wider sort holds none of a narrower one. -/
theorem Tx.holds_false_of_imp {tx : Tx} {p q : TxFrame → Bool} (hqp : ∀ f, q f = true → p f = true) (h : tx.holds p = false) :
    tx.holds q = false := by
  simp only [Tx.holds, List.any_eq_false] at h ⊢
  exact fun f hf hq => h f hf (hqp f hq)

/-- A withdrawal of what holds no place changes nothing. -/
theorem Tx.withdraw_of_not_holds {tx : Tx} {p : TxFrame → Bool} (h : tx.holds p = false) : tx.withdraw p = tx := by
  obtain ⟨queue, inFlight, stamp⟩ := tx
  simp only [Tx.holds, Tx.held, Tx.flying, List.any_append, Bool.or_eq_false_iff] at h
  obtain ⟨hqueue, hflying⟩ := h
  have hkept : queue.filter (fun e => !p e.frame) = queue := by
    rw [List.filter_eq_self]
    intro e he
    simpa using List.any_eq_false.mp hqueue e.frame (List.mem_map_of_mem he)
  have hflight : inFlight.map (fun f => { f with withdrawn := f.withdrawn || p f.entry.frame }) = inFlight := by
    cases inFlight with
    | none => rfl
    | some f =>
      obtain ⟨entry, withdrawn, chars⟩ := f
      cases withdrawn <;> simp_all
  simp only [Tx.withdraw, hkept, hflight]

theorem TxFrame.holdsShare_of_keyedTo {x : Resource} {f : TxFrame} (h : f.keyedTo x = true) : f.holdsShare x = true := by
  cases f with
  | claim y | renew y | yield y => exact h
  | _ => cases h

/-- A share frame asked for where the resource's place is free is queued. -/
theorem DemandTx.ask_free {d : DemandTx} {x : Resource} (k : PendKind) (h : d.tx.holds (TxFrame.holdsShare x) = false) :
    d.ask x k = ⟨{ d.rcd with pending := some ⟨k, .inQueue⟩ }, d.tx.enqueue (shareFrame x k)⟩ := by
  have hbarred : d.tx.shareBarred = false := Tx.holds_false_of_imp (fun f hf => by rw [beq_iff_eq.mp hf]; rfl) h
  have hkeyed : d.tx.holds (TxFrame.keyedTo x) = false := Tx.holds_false_of_imp (fun _ => TxFrame.holdsShare_of_keyedTo) h
  simp only [DemandTx.ask, Tx.putStage, Tx.putShare, Tx.replace, hbarred, Bool.false_eq_true, if_false,
    Tx.withdraw_of_not_holds hkeyed]

/-! ### The own entry's age (04 R69 to R71) -/

section
variable {s : State} {x : Resource} {t : PerRes Section} {a : Nat}

theorem State.ownAge_of_held (ht : s.share.table = some t) (hlive : (t.get x).live = true)
    (hst : standingIn s.line.address (t.get x) ≠ .absent) :
    s.ownAge x = ageOf s.line.address (s.lease.ages.get x) := by
  have hstanding := Share.standing_of_live (Share.liveSection_some ht hlive) s.line.address
  unfold State.ownAge
  rw [hstanding]
  cases hs : standingIn s.line.address (t.get x) with
  | absent => exact absurd hs hst
  | waiting n => rfl
  | granted n => rfl

theorem State.renewDue_asks (ha : s.active = true) (hage : s.ownAge x = some a) (h1 : renewPointOf (leaseOf s.cfg x) ≤ a)
    (h2 : a < leaseOf s.cfg x) (hp : (s.demand.get x).pending = none) (hfree : s.tx.holds (TxFrame.holdsShare x) = false) :
    s.renewDue x = { s with
      demand := s.demand.set x { s.demand.get x with pending := some ⟨.renew, .inQueue⟩ }
      tx := s.tx.enqueue (.renew x) } := by
  have hask : DemandTx.askRenew ⟨s.demand.get x, s.tx⟩ x =
      ⟨{ s.demand.get x with pending := some ⟨.renew, .inQueue⟩ }, s.tx.enqueue (.renew x)⟩ := by
    simp only [DemandTx.askRenew, hp]
    exact DemandTx.ask_free .renew hfree
  simp only [State.renewDue, ha, hage, h1, h2, and_self, if_true, State.onDemand, hask]

theorem State.lapseDue_lapses (ha : s.active = true) (hage : s.ownAge x = some a) (h1 : leaseOf s.cfg x ≤ a)
    (hl : (s.demand.get x).lapse = false) : s.lapseDue x = s.onDemand x (fun d => d.lapse x) := by
  simp only [State.lapseDue, ha, hage, h1, hl, and_self, if_true]

theorem DemandTx.lapse_yields (d : DemandTx) (x : Resource) :
    (d.lapse x).rcd.lapse = true ∧ (d.lapse x).rcd.pending.map Pending.kind = some .yield := by
  unfold DemandTx.lapse
  dsimp only
  split
  · next hp => exact ⟨rfl, by rw [hp]; rfl⟩
  · exact ⟨rfl, rfl⟩

/-- A pending YIELD closes the permission. -/
theorem permission_of_yield (active : Bool) {r : DemandRec} (h : r.pending.map Pending.kind = some .yield) :
    permission active r = false := by
  cases active with
  | false => exact permission_inactive r
  | true => rw [permission, demandState_active, if_pos h]

/-- One record and the queue are all an operation on the share place of a resource writes. -/
theorem State.onDemand_eq (s : State) (x : Resource) (f : DemandTx → DemandTx) :
    s.onDemand x f = { s with demand := s.demand.set x ((s.onDemand x f).demand.get x), tx := (s.onDemand x f).tx } := by
  rw [State.onDemand_demand, PerRes.get_set_self]
  rfl

/-! ### A peer's entry (04 R72) -/

theorem overdue_eq (own point : Nat) (ages : List (Nat × Nat)) (sec : Section) :
    overdue own point ages sec =
      (sec.grants ++ sec.waits).find? (fun g => g.bay != own && (ageOf g.bay ages).any (fun age => decide (point ≤ age))) := by
  unfold overdue
  congr 1
  funext g
  cases ageOf g.bay ages <;> rfl

theorem State.expiryDue_queues {e : Entry} (ha : s.active = true) (ht : s.share.table = some t) (hlive : (t.get x).live = true)
    (hnone : s.lease.expiry.get x = none)
    (hdue : overdue s.line.address (expiryPointOf (leaseOf s.cfg x)) (s.lease.ages.get x) (t.get x) = some e)
    (hfree : s.tx.holds (TxFrame.isExpire x) = false) :
    s.expiryDue x = { s with
      lease := { s.lease with expiry := s.lease.expiry.set x (some ⟨e.bay, e.renewCount, false⟩) }
      tx := s.tx.enqueue (.expire x e.bay e.renewCount) } := by
  simp only [State.expiryDue, ha, hnone, Share.liveSection_some ht hlive, hdue, LeaseTx.queueExpire, Tx.request, hfree,
    Bool.false_eq_true, if_false]

end

/-! ### Starvation and drift (04 R74, 06 R113) -/

/-- A need is unmet unless an ACTIVE station holds just it and no YIELD is pending. -/
theorem DemandRec.unmet_of_need {r : DemandRec} {n : Need} {active : Bool} (hn : r.need = some n)
    (h : ¬ (active = true ∧ r.standing = .granted n ∧ r.pending.map Pending.kind ≠ some .yield)) : r.unmet active = true := by
  cases active with
  | false => simp [DemandRec.unmet, demandState, hn]
  | true =>
    unfold DemandRec.unmet
    rw [demandState_active, hn]
    by_cases hy : r.pending.map Pending.kind = some .yield
    · rw [if_pos hy]
    · rw [if_neg hy]
      cases hs : r.standing with
      | absent => rfl
      | waiting m => rfl
      | granted m =>
        have hmeets : r.meets n = false := by
          refine Bool.eq_false_iff.mpr fun hm => h ⟨rfl, ?_, hy⟩
          simpa [hs] using DemandRec.meets_iff.mp hm
        dsimp only
        split_ifs <;> simp [hmeets]

section
variable {s : State}

theorem State.starveDue_raises {x : Resource} (hunmet : (s.demand.get x).unmet s.active = true)
    (hlimit : s.cfg.starveLimit * 60 ≤ (s.demand.get x).starve) (hnew : (s.demand.get x).starveNoticed = false) :
    s.starveDue x =
      State.raise { s with demand := s.demand.set x { s.demand.get x with starveNoticed := true } } Flag.starved.mask :=
  if_pos ⟨hunmet, hlimit, hnew⟩

theorem State.starveDue_noticed {x : Resource} (h : (s.demand.get x).starveNoticed = true) : s.starveDue x = s :=
  if_neg (by simp [h])

theorem State.driftDue_raises (hlimit : s.cfg.driftLimit * 60 ≤ s.thermal.drift) (hnew : s.thermal.driftNoticed = false) :
    s.driftDue = State.raise { s with thermal := { s.thermal with driftNoticed := true } } Flag.tempDrift.mask :=
  if_pos ⟨hlimit, hnew⟩

theorem State.driftDue_noticed (h : s.thermal.driftNoticed = true) : s.driftDue = s := if_neg (by simp [h])

/-- A raise writes the notice unit and the queue alone. -/
theorem State.raise_eq (s : State) (m : Word) : s.raise m = { s with notice := s.notice.raised m, tx := (s.raise m).tx } := rfl

end

/-- Settles O34: each row at its threshold, the record, the queue and the flags it writes. -/
theorem leaseStarveAndDriftThresholds : Obligations.LeaseStarveAndDriftThresholds := by
  refine ⟨fun s x t a hrun hm ht hlive => ?_, fun s hrun => ⟨fun x n hn hlimit hunheld => ?_, fun hlimit => ?_⟩⟩
  · have ha := s.active_iff.mpr hm
    refine ⟨fun hst hage => ?_, fun e hnone hdue hfree => ?_⟩
    · have hown : s.ownAge x = some a := (State.ownAge_of_held ht hlive hst).trans hage
      refine ⟨fun h1 h2 hp hfree => ?_, fun h1 hl => ?_⟩
      · exact (whileRunning_on s _ hrun).trans (congrArg _ (State.renewDue_asks ha hown h1 h2 hp hfree))
      · have hlapse := State.lapseDue_lapses ha hown h1 hl
        have hrcd : (s.lapseDue x).demand.get x = (DemandTx.lapse ⟨s.demand.get x, s.tx⟩ x).rcd := by
          rw [hlapse, State.onDemand_demand, PerRes.get_set_self]
        obtain ⟨hmark, hyield⟩ := DemandTx.lapse_yields ⟨s.demand.get x, s.tx⟩ x
        rw [← hrcd] at hmark hyield
        refine ⟨s.lapseDue x, whileRunning_on s _ hrun, hmark, hyield, permission_of_yield _ hyield, ?_⟩
        rw [hlapse]
        exact s.onDemand_eq x _
    · rw [← overdue_eq] at hdue
      exact (whileRunning_on s _ hrun).trans (congrArg _ (State.expiryDue_queues ha ht hlive hnone hdue hfree))
  · refine ⟨fun hnew => ?_, fun hold => ?_⟩
    · have hunmet : (s.demand.get x).unmet s.active = true :=
        DemandRec.unmet_of_need hn fun ⟨ha, hrest⟩ => hunheld ⟨s.active_iff.mp ha, hrest⟩
      refine ⟨_, whileRunning_on s _ hrun, ?_⟩
      rw [State.starveDue_raises hunmet hlimit hnew]
      exact State.raise_eq _ _
    · exact (whileRunning_on s _ hrun).trans (congrArg _ (State.starveDue_noticed hold))
  · refine ⟨fun hnew => ?_, fun hold => ?_⟩
    · refine ⟨_, whileRunning_on s _ hrun, ?_⟩
      rw [State.driftDue_raises hlimit hnew]
      exact State.raise_eq _ _
    · exact (whileRunning_on s _ hrun).trans (congrArg _ (State.driftDue_noticed hold))

end Sys2Proof.Machine
end

section
/-! PROOFS. The laws of the device about driven outputs (04 R75, 06 R112, 08 R144, 09 R159). -/

namespace Sys2Proof.Machine

/-- An output that is driven open belongs to a part that runs. -/
theorem State.driven_stopped {s : State} (h : s.power ≠ .running) : s.driven = Outputs.closed := if_pos h

section
variable {s : State}

/-- A driven outlet is the one the engine is POURING on. -/
theorem State.driven_outlets :
    (s.driven.frontValve = true → s.pouringOn .front = true) ∧ (s.driven.fillValve = true → s.pouringOn .fill = true) := by
  by_cases hrun : s.power = .running
  · simp only [State.driven, hrun, ne_eq, not_true_eq_false, if_false, Bool.and_eq_true]
    exact ⟨fun ⟨⟨_, hpouring⟩, _⟩ => hpouring, fun ⟨⟨_, hpouring⟩, _⟩ => hpouring⟩
  · rw [State.driven_stopped hrun]
    exact ⟨fun h => (by cases h), fun h => (by cases h)⟩

/-- A driven output that is shared is staged and permitted. -/
theorem State.driven_shared :
    (s.driven.chillValve = true → s.staged.chillValve = true ∧ s.permitted .chill = true) ∧
    (s.driven.heater = true → s.staged.heater = true ∧ s.permitted .heat = true) ∧
    (s.driven.gasValve = true → s.staged.gasValve = true ∧ s.permitted .gas = true) := by
  by_cases hrun : s.power = .running
  · simp only [State.driven, hrun, ne_eq, not_true_eq_false, if_false, Bool.and_eq_true]
    exact ⟨fun ⟨⟨hopen, _⟩, _⟩ => hopen, fun ⟨⟨hopen, _⟩, _⟩ => hopen, fun ⟨⟨hopen, _⟩, _⟩ => hopen⟩
  · rw [State.driven_stopped hrun]
    exact ⟨fun h => (by cases h), fun h => (by cases h), fun h => (by cases h)⟩

theorem State.driven_relief (hrun : s.power = .running) : s.driven.reliefValve = s.relief := by
  simp [State.driven, hrun]

theorem State.pouringOn_iff (o : Outlet) :
    s.pouringOn o = true ↔ s.pour.state = .pouring ∧ s.pour.record.map OpenPour.outlet = some o := by
  simp [State.pouringOn]

/-- The permission is open in HELD and CHANGING alone, and so with a GRANTED entry. -/
theorem granted_of_permission {r : DemandRec} (h : permission true r = true) : ∃ n, r.standing = .granted n := by
  rw [permission, demandState_active] at h
  by_cases hy : r.pending.map Pending.kind = some .yield
  · simp [hy] at h
  · cases hs : r.standing with
    | granted n => exact ⟨n, rfl⟩
    | waiting n => simp [hy, hs] at h
    | absent => cases hn : r.need <;> simp [hy, hs, hn] at h

/-- An open permission is that of an ACTIVE station whose table grants its own bay the resource. -/
theorem StandingLaw.permitted (h : StandingLaw s) {x : Resource} (hp : s.permitted x = true) :
    s.mode.mode = .active ∧ s.holdsGrant x = true := by
  have hm : s.mode.mode = .active := by
    by_contra hnot
    simp [State.permitted_of_not_active s hnot x] at hp
  obtain ⟨n, hgranted⟩ : ∃ n, (s.demand.get x).standing = .granted n :=
    granted_of_permission (by simpa only [State.permitted, s.active_iff.mpr hm] using hp)
  refine ⟨hm, ?_⟩
  rw [State.holdsGrant, ← h x, hgranted]

/-- At the safety limit and in a fault the relief is called for. -/
theorem State.relief_of_limit (h : reliefLaw s = true)
    (hcause : s.pressure.sensor = .fault ∨
      (s.pressure.sensor = .good ∧ ∃ v, s.pressure.sample = some v ∧ (s.cfg.safetyLimit : Int) ≤ v)) : s.relief = true := by
  rcases hcause with hfault | ⟨hgood, v, hv, hlimit⟩
  · simp [State.relief, hfault]
  · have hreading : s.pressure.reading = some v := (if_pos hgood).trans hv
    have htripped : s.pressure.tripped = true := by
      simpa [reliefLaw, hreading, not_lt.mpr hlimit] using h
    simp [State.relief, htripped]

end

/-- Settles O51: one outlet is poured on at a time, staging follows needs that exclude each other, a permission rests on a grant,
and the relief on the safety state. -/
theorem drivenOutputsKeepTheDeviceLaws : Obligations.DrivenOutputsKeepTheDeviceLaws := by
  intro s
  obtain ⟨hfront, hfill⟩ := s.driven_outlets
  obtain ⟨hchill, hheat, hgas⟩ := s.driven_shared
  refine ⟨fun ⟨h1, h2⟩ => ?_, fun h => s.pouringOn_iff _ |>.mp (hfront h), fun h => s.pouringOn_iff _ |>.mp (hfill h),
    fun hlaw ⟨h1, h2⟩ => ?_, fun hlaw => ?_, fun hlaw hrun hcause => ?_⟩
  · have hone := ((s.pouringOn_iff _).mp (hfront h1)).2.symm.trans ((s.pouringOn_iff _).mp (hfill h2)).2
    cases hone
  · simp only [thermalLaw, Bool.and_eq_true, beq_iff_eq, Bool.not_eq_true'] at hlaw
    obtain ⟨⟨hcooling, hheating⟩, hexclude⟩ := hlaw
    rw [← hcooling, ← hheating, (hchill h1).1, (hheat h2).1] at hexclude
    cases hexclude
  · have hstanding := (standingLaw_iff s).mp hlaw
    exact ⟨fun h => hstanding.permitted (hchill h).2, fun h => hstanding.permitted (hheat h).2,
      fun h => hstanding.permitted (hgas h).2⟩
  · rw [State.driven_relief hrun]
    exact State.relief_of_limit hlaw hcause

end Sys2Proof.Machine
end

section
/-! PROOFS. The queue and the pending frames outside ACTIVE (04 R67, 05 R84), through the operations that move no mode: a station
that is not ACTIVE holds no frame of an ACTIVE one after them if it held none before. -/

namespace Sys2Proof.Machine

/-! ### The places held by other frames (01 R17 to R21) -/

/-- A withdrawal leaves every place of a sort that it does not withdraw. -/
theorem Tx.holds_withdraw_other (tx : Tx) (p q : TxFrame → Bool) (h : ∀ f, q f = true → p f = false) :
    (tx.withdraw p).holds q = tx.holds q := by
  have hfilter : (fun f => q f && !p f) = q := funext fun f => by
    cases hq : q f with
    | false => rfl
    | true => rw [h f hq]; rfl
  rw [Tx.holds_withdraw, hfilter]
  rfl

/-- A replacement leaves every place of a sort that neither its frame nor what it withdraws is of. -/
theorem Tx.holds_replace_other (tx : Tx) (p q : TxFrame → Bool) (f : TxFrame) (hf : q f = false)
    (h : ∀ g, q g = true → p g = false) : (tx.replace p f).holds q = tx.holds q := by
  rw [Tx.replace, Tx.holds_enqueue, hf, Tx.holds_withdraw_other tx p q h, Bool.false_or]

/-- A NOTICE asked for moves no other place. -/
theorem Tx.holds_askNotice_other (tx : Tx) (q : TxFrame → Bool) (hq : q .notice = false) :
    tx.askNotice.holds q = tx.holds q := by
  have hother : ∀ g, q g = true → (g == TxFrame.notice) = false := fun g hg => beq_eq_false_iff_ne.mpr fun he => by
    rw [he, hq] at hg
    cases hg
  unfold Tx.askNotice
  split_ifs
  · rfl
  · exact Tx.holds_replace_other tx _ q _ hq hother
  · rw [Tx.holds_enqueue, hq, Bool.false_or]

/-- A raise asks for a NOTICE at most. -/
theorem State.raise_holds_other (s : State) (m : Word) (q : TxFrame → Bool) (hq : q .notice = false) :
    (s.raise m).tx.holds q = s.tx.holds q := by
  unfold State.raise
  dsimp only
  split_ifs
  · exact Tx.holds_askNotice_other _ _ hq
  · rfl

/-! ### The law of the frames of a mode -/

/-- Outside ACTIVE no CLAIM, RENEW, EXPIRE or SYNC-TABLE holds a place, and no demand record has a pending frame (05 R84,
04 R67). -/
def Quiet (m : Mode) (tx : Tx) (demand : PerRes DemandRec) : Prop :=
  m ≠ .active → tx.holds TxFrame.ofActive = false ∧ ∀ x, (demand.get x).pending = none

section
variable {m : Mode} {tx : Tx} {demand : PerRes DemandRec}

theorem Quiet.of_active (h : m = .active) : Quiet m tx demand := fun hnot => absurd h hnot

/-- The law reads of the queue only whether a frame of an ACTIVE station holds a place. -/
theorem quiet_congr {tx' : Tx} (h : tx'.holds TxFrame.ofActive = tx.holds TxFrame.ofActive) :
    Quiet m tx' demand ↔ Quiet m tx demand := by
  simp only [Quiet, h]

@[simp] theorem quiet_answer (body : List Byte) : Quiet m (tx.enqueue (.answer body)) demand ↔ Quiet m tx demand :=
  quiet_congr (by simp [TxFrame.ofActive])

@[simp] theorem quiet_raise (s : State) (w : Word) : Quiet m (s.raise w).tx demand ↔ Quiet m s.tx demand :=
  quiet_congr (s.raise_holds_other w _ rfl)

theorem quiet_request {p : TxFrame → Bool} {f : TxFrame} (hf : f.ofActive = false) :
    Quiet m (tx.request p f) demand ↔ Quiet m tx demand :=
  quiet_congr (Tx.holds_request_other tx p _ f hf)

@[simp] theorem quiet_askSync : Quiet m tx.askSync demand ↔ Quiet m tx demand := quiet_request rfl

@[simp] theorem quiet_askAnnounce : Quiet m tx.askAnnounce demand ↔ Quiet m tx demand := quiet_request rfl

theorem Quiet.withdraw (h : Quiet m tx demand) (p : TxFrame → Bool) : Quiet m (tx.withdraw p) demand := fun hm =>
  ⟨Tx.holds_withdraw_false tx p _ (h hm).1, (h hm).2⟩

end

/-! ### A published need -/

section
variable {m : Mode} (s : State)

/-- Outside ACTIVE a need is published and no frame moves (04 R61). -/
@[simp] theorem State.publish_quiet (x : Resource) (n : Option Need) (hm : s.mode.mode = m) :
    Quiet m (s.publish x n).tx (s.publish x n).demand ↔ Quiet m s.tx s.demand := by
  refine forall_congr' fun hnot => ?_
  have hactive : s.active = false := by simpa [State.active, hm] using hnot
  obtain ⟨htx, hpending⟩ := DemandTx.publish_inactive ⟨s.demand.get x, s.tx⟩ x n
  have hdemand : ∀ y, ((s.publish x n).demand.get y).pending = (s.demand.get y).pending := fun y => by
    simp only [State.publish, hactive, PerRes.get_set]
    split_ifs with hy
    · rw [hpending, hy]
    · rfl
  have hqueue : (s.publish x n).tx = s.tx := by simp only [State.publish, hactive, htx]
  simp only [hdemand, hqueue]

@[simp] theorem State.publishThermal_quiet (hm : s.mode.mode = m) :
    Quiet m s.publishThermal.tx s.publishThermal.demand ↔ Quiet m s.tx s.demand := by
  unfold State.publishThermal
  split_ifs <;> simp [hm]

@[simp] theorem State.thermalEval_quiet (hm : s.mode.mode = m) :
    Quiet m s.thermalEval.tx s.thermalEval.demand ↔ Quiet m s.tx s.demand := by
  simp [State.thermalEval, hm]

@[simp] theorem State.pressureEvalFrom_quiet (b : Bool) (hm : s.mode.mode = m) :
    Quiet m (s.pressureEvalFrom b).tx (s.pressureEvalFrom b).demand ↔ Quiet m s.tx s.demand := by
  simp [State.pressureEvalFrom, hm]

@[simp] theorem State.pressureEval_quiet (hm : s.mode.mode = m) :
    Quiet m s.pressureEval.tx s.pressureEval.demand ↔ Quiet m s.tx s.demand := by
  simp [State.pressureEval, hm]

@[simp] theorem State.pressureSample_quiet (v : Int) (hm : s.mode.mode = m) :
    Quiet m (s.pressureSample v).tx (s.pressureSample v).demand ↔ Quiet m s.tx s.demand := by
  simp [State.pressureSample, hm]

@[simp] theorem State.leakBegin_quiet (hm : s.mode.mode = m) :
    Quiet m s.leakBegin.tx s.leakBegin.demand ↔ Quiet m s.tx s.demand := by
  simp [State.leakBegin, hm]

@[simp] theorem State.leakEnd_quiet (hm : s.mode.mode = m) :
    Quiet m s.leakEnd.tx s.leakEnd.demand ↔ Quiet m s.tx s.demand := by
  simp [State.leakEnd, hm]

@[simp] theorem State.endStep_quiet (hm : s.mode.mode = m) :
    Quiet m s.endStep.tx s.endStep.demand ↔ Quiet m s.tx s.demand := by
  simp [State.endStep, hm]

@[simp] theorem State.dueTest_quiet : Quiet m s.dueTest.tx s.demand ↔ Quiet m s.tx s.demand := by
  simp [State.dueTest]

@[simp] theorem State.minute_quiet (hm : s.mode.mode = m) :
    Quiet m s.minute.tx s.minute.demand ↔ Quiet m s.tx s.demand := by
  unfold State.minute
  dsimp only
  split_ifs <;> simp [hm]

@[simp] theorem State.hour_quiet (hm : s.mode.mode = m) :
    Quiet m s.hour.tx s.hour.demand ↔ Quiet m s.tx s.demand := by
  unfold State.hour
  dsimp only
  split_ifs <;> simp [hm]

@[simp] theorem State.pauseFor_quiet (r : PauseReason) (hm : s.mode.mode = m) :
    Quiet m (s.pauseFor r).tx (s.pauseFor r).demand ↔ Quiet m s.tx s.demand := by
  unfold State.pauseFor
  split_ifs <;> simp [hm]

@[simp] theorem State.probeSample_quiet (v : Int) (hm : s.mode.mode = m) :
    Quiet m (s.probeSample v).tx (s.probeSample v).demand ↔ Quiet m s.tx s.demand := by
  unfold State.probeSample
  dsimp only
  split_ifs <;> simp [hm]

/-! ### Pours (09 R155 to R162) -/

@[simp] theorem State.refusePour_quiet (r : PourRefusal) :
    Quiet m (s.refusePour r).tx s.demand ↔ Quiet m s.tx s.demand := by
  simp [State.refusePour]

@[simp] theorem State.checkPour_quiet (q : PourRequest) (hm : s.mode.mode = m) :
    Quiet m (s.checkPour q).tx (s.checkPour q).demand ↔ Quiet m s.tx s.demand := by
  unfold State.checkPour
  split <;> simp [State.acceptPour, hm]

@[simp] theorem State.arbitrate_quiet (l : List PourRequest) (hm : s.mode.mode = m) :
    Quiet m (s.arbitrate l).tx (s.arbitrate l).demand ↔ Quiet m s.tx s.demand := by
  unfold State.arbitrate
  split
  · rfl
  · dsimp only
    split_ifs <;> simp [State.refusePour, hm]

@[simp] theorem State.endPour_quiet (r : EndReason) (hm : s.mode.mode = m) :
    Quiet m (s.endPour r).tx (s.endPour r).demand ↔ Quiet m s.tx s.demand := by
  unfold State.endPour
  split_ifs <;> simp [hm]

@[simp] theorem State.meterOne_quiet (hm : s.mode.mode = m) :
    Quiet m s.meterOne.tx s.meterOne.demand ↔ Quiet m s.tx s.demand := by
  unfold State.meterOne
  dsimp only
  split <;> simp [hm]

@[simp] theorem State.meterMany_quiet (n : Nat) (hm : s.mode.mode = m) :
    Quiet m (State.meterMany n s).tx (State.meterMany n s).demand ↔ Quiet m s.tx s.demand := by
  induction n generalizing s with
  | zero => rfl
  | succ n ih => simp [State.meterMany, ih, hm]

@[simp] theorem State.pulse_quiet (hm : s.mode.mode = m) :
    Quiet m s.pulse.tx s.pulse.demand ↔ Quiet m s.tx s.demand := by
  unfold State.pulse
  dsimp only
  split_ifs <;> simp [hm]

/-! ### The pins and the load (05 R79, 10 R171) -/

@[simp] theorem State.kegLost_quiet (hm : s.mode.mode = m) :
    Quiet m s.kegLost.tx s.kegLost.demand ↔ Quiet m s.tx s.demand := by
  simp [State.kegLost, hm]

@[simp] theorem State.coupledTaken_quiet (k : Taken) (hm : s.mode.mode = m) :
    Quiet m (s.coupledTaken k).tx (s.coupledTaken k).demand ↔ Quiet m s.tx s.demand := by
  cases k <;> simp [State.coupledTaken, hm]

@[simp] theorem State.leakTaken_quiet (k : Taken) (hm : s.mode.mode = m) :
    Quiet m (s.leakTaken k).tx (s.leakTaken k).demand ↔ Quiet m s.tx s.demand := by
  cases k <;> simp [State.leakTaken, hm]

@[simp] theorem State.dripTaken_quiet (k : Taken) {demand : PerRes DemandRec} :
    Quiet m (s.dripTaken k).tx demand ↔ Quiet m s.tx demand := by
  cases k <;> simp [State.dripTaken]

@[simp] theorem State.handleTaken_quiet (k : Taken) (hm : s.mode.mode = m) :
    Quiet m (s.handleTaken k).tx (s.handleTaken k).demand ↔ Quiet m s.tx s.demand := by
  cases k with
  | deassertion =>
    simp only [State.handleTaken]
    split_ifs <;> simp [hm]
  | _ => rfl

@[simp] theorem State.takeConfig_quiet (c : Option WorkingCopy) :
    Quiet m (s.takeConfig c).tx s.demand ↔ Quiet m s.tx s.demand := by
  simp [State.takeConfig]

@[simp] theorem State.judgeInputs_quiet (hm : s.mode.mode = m) :
    Quiet m s.judgeInputs.tx s.judgeInputs.demand ↔ Quiet m s.tx s.demand := by
  unfold State.judgeInputs
  dsimp only
  split_ifs <;> simp [hm]

/-! ### The thresholds and the second event (04 R74, 05 R78, 06 R113, 09 R163 to R166) -/

@[simp] theorem State.starveDue_quiet (x : Resource) :
    Quiet m (s.starveDue x).tx (s.starveDue x).demand ↔ Quiet m s.tx s.demand := by
  unfold State.starveDue
  split_ifs
  · have hpending : ∀ y, ((s.demand.set x { s.demand.get x with starveNoticed := true }).get y).pending =
        (s.demand.get y).pending := fun y => by
      rw [PerRes.get_set]
      split_ifs with hy
      · rw [hy]
      · rfl
    rw [quiet_raise]
    simp only [State.raise_demand, Quiet, hpending]
  · rfl

@[simp] theorem State.driftDue_quiet : Quiet m s.driftDue.tx s.demand ↔ Quiet m s.tx s.demand := by
  unfold State.driftDue
  split_ifs <;> simp

@[simp] theorem State.emptyDue_quiet (hm : s.mode.mode = m) :
    Quiet m s.emptyDue.tx s.emptyDue.demand ↔ Quiet m s.tx s.demand := by
  unfold State.emptyDue
  dsimp only
  split_ifs <;> simp [hm]

@[simp] theorem State.foamDue_quiet (hm : s.mode.mode = m) :
    Quiet m s.foamDue.tx s.foamDue.demand ↔ Quiet m s.tx s.demand := by
  unfold State.foamDue
  split_ifs <;> simp [hm]

@[simp] theorem State.settleDue_quiet (hm : s.mode.mode = m) :
    Quiet m s.settleDue.tx s.settleDue.demand ↔ Quiet m s.tx s.demand := by
  unfold State.settleDue
  split_ifs <;> simp [hm]

@[simp] theorem State.minuteEvent_quiet (hm : s.mode.mode = m) :
    Quiet m s.minuteEvent.tx s.minuteEvent.demand ↔ Quiet m s.tx s.demand := by
  unfold State.minuteEvent
  split_ifs <;> simp [hm]

@[simp] theorem State.hourEvent_quiet (hm : s.mode.mode = m) :
    Quiet m s.hourEvent.tx s.hourEvent.demand ↔ Quiet m s.tx s.demand := by
  unfold State.hourEvent
  split_ifs <;> simp [hm]

@[simp] theorem State.probeSecond_quiet (v : Int) (hm : s.mode.mode = m) :
    Quiet m (s.probeSecond v).tx (s.probeSecond v).demand ↔ Quiet m s.tx s.demand := by
  simp [State.probeSecond, hm]

@[simp] theorem State.countSecond_quiet {tx : Tx} : Quiet m tx s.countSecond.demand ↔ Quiet m tx s.demand := by
  have hpending : ∀ x, (s.countSecond.demand.get x).pending = (s.demand.get x).pending := fun x => by
    simp only [State.countSecond, PerRes.get_map, DemandRec.starveTick]
    split_ifs <;> rfl
  simp only [Quiet, hpending]

/-- Where no frame is pending none is asked for again (04 R66). -/
theorem State.retryRequested_quiet (h : Quiet m s.tx s.demand) : Quiet m s.retryRequested.tx s.retryRequested.demand := by
  intro hm
  obtain ⟨hqueue, hpending⟩ := h hm
  have hrests : ∀ (x : Resource) (tx : Tx), DemandTx.retry ⟨s.demand.get x, tx⟩ x = ⟨s.demand.get x, tx⟩ := fun x tx => by
    simp only [DemandTx.retry, hpending x]
  have hone : ∀ x, s.onDemand x (fun d => d.retry x) = s := fun x => by
    simp only [State.onDemand, hrests]
    cases x <;> rfl
  have hsame : s.retryRequested = s := by rw [State.retryRequested, hone, hone, hone]
  rw [hsame]
  exact ⟨hqueue, hpending⟩

/-! ### The orders (07, 09, 10, 11) -/

@[simp] theorem State.raiseNotice_quiet (a : List Byte) :
    Quiet m (State.raiseNotice a s).state.tx s.demand ↔ Quiet m s.tx s.demand := by
  unfold State.raiseNotice
  split <;> simp

@[simp] theorem State.setFill_quiet (a : List Byte) (hm : s.mode.mode = m) :
    Quiet m (State.setFill a s).state.tx (State.setFill a s).state.demand ↔ Quiet m s.tx s.demand := by
  unfold State.setFill
  repeat' split
  all_goals simp [hm]

@[simp] theorem State.setServe_quiet (a : List Byte) (hm : s.mode.mode = m) :
    Quiet m (State.setServe a s).state.tx (State.setServe a s).state.demand ↔ Quiet m s.tx s.demand := by
  unfold State.setServe
  repeat' split
  all_goals simp [hm]

@[simp] theorem State.loadStep_quiet (a : List Byte) (hm : s.mode.mode = m) :
    Quiet m (State.loadStep a s).state.tx (State.loadStep a s).state.demand ↔ Quiet m s.tx s.demand := by
  unfold State.loadStep
  dsimp only
  repeat' split
  all_goals simp [hm]

@[simp] theorem State.clearProgram_quiet (a : List Byte) (hm : s.mode.mode = m) :
    Quiet m (State.clearProgram a s).state.tx (State.clearProgram a s).state.demand ↔ Quiet m s.tx s.demand := by
  unfold State.clearProgram
  split_ifs <;> simp [hm]

@[simp] theorem State.startProgram_quiet (a : List Byte) (hm : s.mode.mode = m) :
    Quiet m (State.startProgram a s).state.tx (State.startProgram a s).state.demand ↔ Quiet m s.tx s.demand := by
  unfold State.startProgram
  split_ifs <;> simp [hm]

@[simp] theorem State.pauseProgram_quiet (a : List Byte) (hm : s.mode.mode = m) :
    Quiet m (State.pauseProgram a s).state.tx (State.pauseProgram a s).state.demand ↔ Quiet m s.tx s.demand := by
  unfold State.pauseProgram
  split_ifs <;> simp [hm]

@[simp] theorem State.resumeProgram_quiet (a : List Byte) (hm : s.mode.mode = m) :
    Quiet m (State.resumeProgram a s).state.tx (State.resumeProgram a s).state.demand ↔ Quiet m s.tx s.demand := by
  unfold State.resumeProgram
  dsimp only
  split_ifs <;> simp [hm]

@[simp] theorem State.advanceStep_quiet (a : List Byte) (hm : s.mode.mode = m) :
    Quiet m (State.advanceStep a s).state.tx (State.advanceStep a s).state.demand ↔ Quiet m s.tx s.demand := by
  unfold State.advanceStep
  split_ifs <;> simp [hm]

@[simp] theorem State.stopPour_quiet (a : List Byte) (hm : s.mode.mode = m) :
    Quiet m (State.stopPour a s).state.tx (State.stopPour a s).state.demand ↔ Quiet m s.tx s.demand := by
  unfold State.stopPour
  split_ifs <;> simp [hm]

end

end Sys2Proof.Machine
end

section
/-! PROOFS. The law of the frames (04 R67, 05 R80, R84) through every step: what leaves ACTIVE withdraws its frames and ends its
pending ones, and what stays outside ACTIVE asks for none. -/

namespace Sys2Proof.Machine

/-! ### The law and what leaves it standing -/

/-- The laws of the load and of the frames. -/
structure FramesLaw (s : State) : Prop where
  load  : s.load = .ended ∨ s.mode.mode = .starting
  quiet : Quiet s.mode.mode s.tx s.demand

theorem noPending_iff (s : State) : noPending s = true ↔ ∀ x, (s.demand.get x).pending = none := by
  simp only [noPending, Bool.and_eq_true, Option.isNone_iff_eq_none]
  exact ⟨fun ⟨⟨hc, hg⟩, hh⟩ x => by cases x <;> assumption, fun h => ⟨⟨h .chill, h .gas⟩, h .heat⟩⟩

theorem framesLaw_iff (s : State) : (loadLaw s = true ∧ framesLaw s = true) ↔ FramesLaw s := by
  have hload : loadLaw s = true ↔ s.load = .ended ∨ s.mode.mode = .starting := by simp [loadLaw]
  have hquiet : framesLaw s = true ↔ Quiet s.mode.mode s.tx s.demand := by
    simp only [framesLaw, Quiet, State.active, Bool.or_eq_true, beq_iff_eq, Bool.and_eq_true, Bool.not_eq_true', noPending_iff]
    exact or_iff_not_imp_left
  rw [hload, hquiet]
  exact ⟨fun ⟨hl, hq⟩ => ⟨hl, hq⟩, fun h => ⟨h.load, h.quiet⟩⟩

/-- Load and mode are as they were, and nothing has come into the queue or the records that the mode does not allow. -/
def SameFrames (s t : State) : Prop :=
  t.load = s.load ∧ t.mode.mode = s.mode.mode ∧
    (Quiet s.mode.mode s.tx s.demand → Quiet s.mode.mode t.tx t.demand)

theorem FramesLaw.same {s t : State} (h : FramesLaw s) (hs : SameFrames s t) : FramesLaw t := by
  obtain ⟨hload, hmode, hquiet⟩ := hs
  exact ⟨by rw [hload, hmode]; exact h.load, by rw [hmode]; exact hquiet h.quiet⟩

theorem FramesLaw.ended {s : State} (h : FramesLaw s) (hm : s.mode.mode ≠ .starting) : s.load = .ended :=
  h.load.resolve_right hm

/-- An evaluation publishes needs alone. -/
theorem FramesLaw.thermalEval {s : State} (h : FramesLaw s) : FramesLaw s.thermalEval :=
  h.same ⟨by simp, by simp, (s.thermalEval_quiet rfl).mpr⟩

/-! ### The frame in flight (01 R14 to R16) -/

/-- The frame in flight that has gone out, or was broken off, holds no place any more. -/
theorem Quiet.completed {m : Mode} {tx : Tx} {demand : PerRes DemandRec} (hq : Quiet m tx demand) :
    Quiet m tx.completed demand := fun hm => by
  obtain ⟨hqueue, hpending⟩ := hq hm
  refine ⟨?_, hpending⟩
  rw [Tx.holds, Tx.held, List.any_append, Bool.or_eq_false_iff] at hqueue
  rw [Tx.holds, Tx.held_completed]
  exact hqueue.1

theorem quiet_returned {m : Mode} {tx : Tx} {demand : PerRes DemandRec} : Quiet m tx.returned demand ↔ Quiet m tx demand :=
  quiet_congr (Tx.held_returned tx).any_eq

/-! ### One record outside ACTIVE (04 R60 to R65) -/

/-- Outside ACTIVE the end of a frame's processing asks for nothing. -/
theorem DemandTx.finish_inactive (d : DemandTx) (x : Resource) (own : Option PendKind) (rep : Option Report)
    (h : d.rcd.pending = none) : (d.finish false x own rep).tx = d.tx ∧ (d.finish false x own rep).rcd.pending = none := by
  have hown : ∀ k, d.rcd.processed k = d.rcd := fun k => if_neg (by simp [h])
  have hreconcile : ∀ e : DemandTx, e.reconcile false x = e := fun _ => rfl
  have hresend : ∀ free, d.resend false x free = d := fun free => by
    unfold DemandTx.resend
    split <;> rfl
  have hexpired : ∀ e : DemandTx, e.rcd.pending = none → e.dropExpired x = e := fun e he => by
    simp only [DemandTx.dropExpired, he]
  have hnote : ∀ r, (d.note false x r).tx = d.tx ∧ (d.note false x r).rcd.pending = none := fun r => by
    cases r with
    | freed free => exact ⟨congrArg DemandTx.tx (hresend free), (congrArg (fun e => e.rcd.pending) (hresend free)).trans h⟩
    | expired =>
      have hrests : d.note false x .expired = ⟨{ d.rcd with standing := .absent, lapse := false }, d.tx⟩ := hexpired _ h
      rw [hrests]
      exact ⟨rfl, h⟩
    | _ => exact ⟨rfl, h⟩
  rcases own with _ | k <;> rcases rep with _ | r <;>
    simp only [DemandTx.finish, hown, hreconcile, ite_self, (DemandRec.settle_standing _ _).2.2, h, and_self]
  · exact hnote r
  · exact hnote r

/-- An operation that outside ACTIVE moves no frame of a record with none pending. -/
theorem State.onDemand_sameFrames (s : State) (x : Resource) (f : DemandTx → DemandTx)
    (h : s.active = false → ∀ d, d.rcd.pending = none → (f d).tx = d.tx ∧ (f d).rcd.pending = none) :
    SameFrames s (s.onDemand x f) := by
  refine ⟨rfl, rfl, fun hquiet hm => ?_⟩
  obtain ⟨hqueue, hpending⟩ := hquiet hm
  obtain ⟨htx, hnone⟩ := h (by simpa [State.active] using hm) ⟨s.demand.get x, s.tx⟩ (hpending x)
  refine ⟨by rw [State.onDemand_tx, htx]; exact hqueue, fun y => ?_⟩
  rw [State.onDemand_demand, PerRes.get_set]
  split_ifs
  · exact hnone
  · exact hpending y

/-- Processing a frame asks for nothing outside ACTIVE. -/
theorem State.finish_sameFrames (s : State) (x : Resource) (own : Option PendKind) (rep : Option Report) :
    SameFrames s (s.onDemand x (fun d => d.finish s.active x own rep)) :=
  s.onDemand_sameFrames x _ fun ha d hd => by
    rw [ha]
    exact d.finish_inactive x own rep hd

theorem DemandTx.frameLost_none (d : DemandTx) (a : Bool) (x : Resource) (k : PendKind) (h : d.rcd.pending = none) :
    d.frameLost a x k = d := if_neg (by simp [h])

theorem DemandRec.frameSent_none (r : DemandRec) (k : PendKind) (w : Bool) (h : r.pending = none) : r.frameSent k w = r :=
  if_neg (by simp [h])

/-! ### Modes entered and left (05 R80 to R98) -/

/-- A table given up or cleared leaves no frame pending. -/
theorem quiet_leave {m : Mode} {tx : Tx} (demand : PerRes DemandRec) (h : tx.holds TxFrame.ofActive = false) :
    Quiet m tx (demand.map DemandRec.leave) := fun _ => ⟨h, fun x => by rw [PerRes.get_map]; rfl⟩

/-- Where the table has been given up the queue holds no frame of an ACTIVE station, whatever the mode was. -/
theorem FramesLaw.giveUp_quiet {s : State} (h : FramesLaw s) (m : Mode) : Quiet m s.giveUp.tx s.giveUp.demand := by
  by_cases ha : s.active = true
  · rw [State.giveUp, if_pos ha]
    exact quiet_leave s.demand (Tx.holds_replace_false _ _ _ _ rfl (Tx.holds_withdraw_self _ _))
  · rw [State.giveUp, if_neg ha]
    have hqueue := (h.quiet (fun hm => ha (s.active_iff.mpr hm))).1
    exact quiet_leave s.demand (Tx.holds_withdraw_false _ _ _ hqueue)

/-- Another mode entered by a station that no frame of an ACTIVE one is left to. -/
theorem FramesLaw.enterMode {s : State} (hload : s.load = .ended) (m : Mode) (hq : Quiet m s.tx s.demand) :
    FramesLaw (s.enterMode m) :=
  ⟨.inl hload, quiet_askAnnounce.mpr hq⟩

theorem FramesLaw.enterSync {s : State} (hload : s.load = .ended) (m : Mode) (hq : s.tx.holds TxFrame.ofActive = false) :
    FramesLaw (s.enterSync m) :=
  FramesLaw.enterMode (s := { s.setTable Share.cleared with
      tx := s.tx.askYieldAll.askSync, mode := { s.mode with sync := Sync.asking } }) hload m
    (quiet_askSync.mpr (quiet_leave s.demand (Tx.holds_askYieldAll_false _ _ rfl hq)))

section
variable {s : State} (h : FramesLaw s)
include h

/-- In a mode that is not STARTING the load has ended. -/
theorem FramesLaw.ended_of_held (hm : s.active = true ∨ s.syncing = true) : s.load = .ended := by
  refine h.ended fun hstart => ?_
  rcases hm with ha | hs
  · rw [s.active_iff.mp ha] at hstart
    cases hstart
  · rcases s.syncing_iff.mp hs with hm | hm <;> rw [hm] at hstart <;> cases hstart

theorem FramesLaw.enterDoubtful (ha : s.active = true) : FramesLaw s.enterDoubtful := by
  obtain ⟨-, -, -, -, -, -, hqueue, -, -, hrecords⟩ := s.enterDoubtful_doubts
  exact ⟨.inl (by simpa using h.ended_of_held (.inl ha)), fun _ => ⟨hqueue, fun x => (hrecords x).2.2⟩⟩

theorem FramesLaw.enterMuted (hm : s.active = true ∨ s.syncing = true) : FramesLaw s.enterMuted := by
  have hentered : FramesLaw (s.giveUp.enterMode .muted) :=
    .enterMode (by simpa using h.ended_of_held hm) .muted (h.giveUp_quiet _)
  exact hentered.same ⟨rfl, rfl, fun hq => (quiet_raise _ _).mpr (hq.withdraw _)⟩

theorem FramesLaw.enterVacant (hm : s.active = true ∨ s.syncing = true) : FramesLaw s.enterVacant := by
  have hentered : FramesLaw (s.giveUp.enterMode .vacant) :=
    .enterMode (by simpa using h.ended_of_held hm) .vacant (h.giveUp_quiet _)
  exact hentered.thermalEval

theorem FramesLaw.enterJoining (hm : s.mode.mode = .vacant) : FramesLaw s.enterJoining := by
  have hnot : s.mode.mode ≠ .active := by rw [hm]; decide
  have hentered : FramesLaw (s.enterSync .joining) :=
    .enterSync (h.ended (by rw [hm]; decide)) .joining (h.quiet hnot).1
  exact hentered.thermalEval

theorem FramesLaw.becomeActive (hs : s.syncing = true) : FramesLaw s.becomeActive :=
  ⟨.inl (by simpa using h.ended_of_held (.inr hs)), .of_active rfl⟩

theorem FramesLaw.found (hs : s.syncing = true) : FramesLaw s.found :=
  ⟨.inl (by simpa using h.ended_of_held (.inr hs)), .of_active rfl⟩

theorem FramesLaw.spoilSync (hs : s.syncing = true) : FramesLaw s.spoilSync := by
  have hnot : s.mode.mode ≠ .active := by rcases s.syncing_iff.mp hs with hm | hm <;> rw [hm] <;> decide
  exact h.same ⟨rfl, rfl, fun hq => quiet_askSync.mpr (quiet_leave s.demand (hq hnot).1)⟩

/-! ### The suspect mark, the waits and ANNOUNCE (05 R85 to R97) -/

theorem FramesLaw.doubtTest : FramesLaw s.doubtTest := by
  unfold State.doubtTest
  split_ifs with hd
  · simp only [Bool.and_eq_true] at hd
    exact h.enterDoubtful hd.1.1
  · exact h

theorem FramesLaw.setSuspect : FramesLaw s.setSuspect := by
  have hmarked : FramesLaw (marked s) := h.same ⟨rfl, rfl, id⟩
  unfold State.setSuspect
  dsimp only
  split_ifs with hs
  · exact hmarked.spoilSync (Bool.and_eq_true_iff.mp hs).1
  · exact hmarked.doubtTest

theorem FramesLaw.releaseSuspect : FramesLaw s.releaseSuspect := by
  unfold State.releaseSuspect
  split_ifs
  · exact FramesLaw.setSuspect (h.same ⟨rfl, rfl, id⟩)
  · exact h

theorem FramesLaw.lineSuspect : FramesLaw s.lineSuspect := by
  unfold State.lineSuspect
  split_ifs
  · exact h.same ⟨rfl, rfl, id⟩
  · exact h.setSuspect

theorem FramesLaw.askAgain (n : Nat) : FramesLaw (s.askAgain n) := h.same ⟨rfl, rfl, quiet_askSync.mpr⟩

theorem FramesLaw.waitExpired (hs : s.syncing = true) : FramesLaw s.waitExpired := by
  unfold State.waitExpired
  split_ifs
  · exact h.found hs
  · exact h.same ⟨rfl, rfl, id⟩
  · exact h.askAgain _
  · exact h.found hs
  · exact h.same ⟨rfl, rfl, (quiet_raise _ _).mpr⟩

theorem FramesLaw.answerWait : FramesLaw s.answerWait := by
  unfold State.answerWait
  split_ifs with hw
  · exact h.waitExpired hw.1
  · exact h

theorem FramesLaw.restTimer : FramesLaw s.restTimer := by
  unfold State.restTimer
  split_ifs
  · exact h.askAgain _
  · exact h

theorem FramesLaw.announceTimer : FramesLaw s.announceTimer := by
  unfold State.announceTimer
  split_ifs
  · exact h.same ⟨rfl, rfl, quiet_askAnnounce.mpr⟩
  · exact h

theorem FramesLaw.removeSilent (a : Nat) : FramesLaw (s.removeSilent a) := by
  unfold State.removeSilent
  split_ifs
  · exact FramesLaw.doubtTest (h.same ⟨rfl, rfl, id⟩)
  · exact h

theorem FramesLaw.weighAnnounce (before : Option Nat) (r : RosterEntry) : FramesLaw (s.weighAnnounce before r) := by
  unfold State.weighAnnounce
  split_ifs with ha _ _ hs
  · unfold State.compare
    split_ifs
    · exact h.enterMuted (.inl ha)
    · exact h.enterDoubtful ha
    · exact h.same ⟨rfl, rfl, id⟩
  · exact h.doubtTest
  · exact h
  · simp only [Bool.and_eq_true] at hs
    unfold State.heardActive
    split_ifs
    · exact h.enterMuted (.inr hs.1.1)
    · exact h.askAgain _
    · exact h
  · exact h

theorem FramesLaw.announceFrame (e : RxEntry) : FramesLaw (s.announceFrame e) := by
  have hroster : FramesLaw { s with mode := { s.mode with roster := announceRoster e.sender e.body s.mode.roster } } :=
    h.same ⟨rfl, rfl, id⟩
  unfold State.announceFrame
  dsimp only
  split
  · exact hroster.weighAnnounce _ _
  · exact hroster

/-! ### The share frames (03 R41 to R56) -/

/-- The lease monitor only withdraws frames at a report (04 R73). -/
theorem FramesLaw.applyEffect (x : Resource) (own : Option PendKind) (eff : Effect) : FramesLaw (s.applyEffect x own eff) := by
  let l := LeaseTx.report ⟨s.lease, s.tx⟩ x eff.lease
  have hqueue : ∀ q, s.tx.holds q = false → l.tx.holds q = false := fun q hq => by
    obtain he | ⟨_, _, _, -, -, -, -, he⟩ | ⟨_, _, -, -, -, he⟩ :=
      (LeaseTx.aged ⟨s.lease, s.tx⟩ x eff.lease).reportExpiry_cases x eff.lease
    · exact (congrArg (fun k : LeaseTx => k.tx.holds q) he).trans hq
    · exact (congrArg (fun k : LeaseTx => k.tx.holds q) he).trans (Tx.holds_withdraw_false _ _ _ hq)
    · refine (congrArg (fun k : LeaseTx => k.tx.holds q) he).trans ?_
      simp only [Tx.holds, Tx.held, Tx.flying, List.any_append, Bool.or_eq_false_iff, List.any_map] at hq ⊢
      exact ⟨List.any_eq_false.mpr fun f hf => List.any_eq_false.mp hq.1 f (List.mem_of_mem_filter hf), hq.2⟩
  have hreported : FramesLaw { s with share := s.share.setSection x eff.sec, lease := l.lease, tx := l.tx } :=
    h.same ⟨rfl, rfl, fun hq hm => ⟨hqueue _ (hq hm).1, (hq hm).2⟩⟩
  exact hreported.same (State.finish_sameFrames _ x own _)

theorem FramesLaw.ownProcessed (x : Resource) (own : Option PendKind) : FramesLaw (s.ownProcessed x own) := by
  unfold State.ownProcessed
  split_ifs
  · exact h.same (s.finish_sameFrames x own none)
  · exact h

theorem FramesLaw.shareFrame (x : Resource) (own : Option PendKind) (f : Section → Option Effect) :
    FramesLaw (s.shareFrame x own f) := by
  unfold State.shareFrame
  split
  · exact (h.applyEffect x own _).same ⟨rfl, rfl, id⟩
  · exact h.ownProcessed x own

theorem FramesLaw.claimFrame (e : RxEntry) : FramesLaw (s.claimFrame e) := by
  unfold State.claimFrame
  split
  · split
    · exact h.shareFrame _ _ _
    · exact h
  · exact h

theorem FramesLaw.renewFrame (e : RxEntry) : FramesLaw (s.renewFrame e) := by
  unfold State.renewFrame
  split
  · split
    · exact h.shareFrame _ _ _
    · exact h
  · exact h

theorem FramesLaw.yieldFrame (e : RxEntry) : FramesLaw (s.yieldFrame e) := by
  unfold State.yieldFrame
  split
  · split
    · exact h.shareFrame _ _ _
    · exact h
  · exact h

theorem FramesLaw.yieldOne (x : Resource) (e : RxEntry) : FramesLaw (s.yieldOne x e) := by
  unfold State.yieldOne
  split
  · exact h.applyEffect x _ _
  · exact h

theorem FramesLaw.yieldAllFrame (e : RxEntry) : FramesLaw (s.yieldAllFrame e) := by
  unfold State.yieldAllFrame
  split_ifs
  · exact (((h.yieldOne .chill e).yieldOne .gas e).yieldOne .heat e).same ⟨rfl, rfl, id⟩
  · exact h

theorem FramesLaw.expireFrame (e : RxEntry) : FramesLaw (s.expireFrame e) := by
  unfold State.expireFrame
  split
  · split
    · next target _ count _ _ _ x _ _ =>
      exact (h.shareFrame x none (expireEffect s.cfg x target.toNat count)).same (by simp [SameFrames])
    · exact h
  · exact h

theorem FramesLaw.adoptFrame (body : List Byte) : FramesLaw (s.adoptFrame body) := by
  unfold State.adoptFrame
  split
  · split_ifs
    · split
      · next x _ _ _ sec count _ =>
        have hset : FramesLaw { s with
            share := { s.share.setSection x sec with changeCount := count }
            lease := { s.lease with ages := s.lease.ages.set x (adoptedAges sec) } } := h.same ⟨rfl, rfl, id⟩
        exact hset.same (State.finish_sameFrames _ x none _)
      · exact h
    · exact h
  · exact h

theorem FramesLaw.syncTableFrame (e : RxEntry) : FramesLaw (s.syncTableFrame e) := by
  by_cases hasker : (e.body[0]?).map BitVec.toNat = some s.line.address
  · have hheard : FramesLaw (s.adoptFrame e.body).tableHeard := (h.adoptFrame e.body).same ⟨rfl, rfl, id⟩
    rw [s.syncTableFrame_own e hasker]
    split_ifs with hdone
    · exact hheard.becomeActive (Bool.and_eq_true_iff.mp hdone).1
    · exact hheard
  · rw [s.syncTableFrame_other e hasker]
    exact h

/-- Only an ACTIVE station answers a SYNC-ASK (05 R88). -/
theorem FramesLaw.syncAskFrame (e : RxEntry) : FramesLaw (s.syncAskFrame e) := by
  unfold State.syncAskFrame
  split_ifs with ha
  · simp only [Bool.and_eq_true] at ha
    exact ⟨h.load, .of_active (s.active_iff.mp ha.1.1.1.1)⟩
  · exact h

/-! ### The line (01 R8 to R16) -/

theorem FramesLaw.ownerLost (f : TxFrame) : FramesLaw (s.ownerLost f) := by
  have hlost : ∀ x k, SameFrames s (s.onDemand x (fun d => d.frameLost s.active x k)) := fun x k =>
    s.onDemand_sameFrames x _ fun _ d hd => by rw [d.frameLost_none _ x k hd]; exact ⟨rfl, hd⟩
  cases f with
  | claim x => exact h.same (hlost x .claim)
  | renew x => exact h.same (hlost x .renew)
  | yield x => exact h.same (hlost x .yield)
  | _ => exact h.same ⟨rfl, rfl, id⟩

theorem FramesLaw.ownerSent (f : TxFrame) (w : Bool) : FramesLaw (s.ownerSent f w) := by
  have hsent : ∀ x k, SameFrames s (s.onDemand x (fun d => ⟨d.rcd.frameSent k w, d.tx⟩)) := fun x k =>
    s.onDemand_sameFrames x _ fun _ d hd => by rw [d.rcd.frameSent_none k w hd]; exact ⟨rfl, hd⟩
  cases f with
  | claim x => exact h.same (hsent x .claim)
  | renew x => exact h.same (hsent x .renew)
  | yield x => exact h.same (hsent x .yield)
  | _ => exact h.same ⟨rfl, rfl, id⟩

theorem FramesLaw.judgeOwn (accepted : Bool) : FramesLaw (s.judgeOwn accepted) := by
  have hjudged : FramesLaw { s with line := { s.line with ownAwaited := none } } := h.same ⟨rfl, rfl, id⟩
  unfold State.judgeOwn
  dsimp only
  split
  · split_ifs
    · exact hjudged
    · exact hjudged.ownerLost _
  · exact hjudged

theorem FramesLaw.discardFrame (own clean : Bool) : FramesLaw (s.discardFrame own clean) := by
  cases hjudged : (own || clean) with
  | true =>
    rw [s.discardFrame_suspected own clean hjudged]
    exact FramesLaw.lineSuspect (h.same ⟨rfl, rfl, id⟩)
  | false =>
    obtain ⟨rfl, rfl⟩ := Bool.or_eq_false_iff.mp hjudged
    exact h

theorem FramesLaw.receive (e : RxEntry) : FramesLaw (s.receive e) := by
  unfold State.receive
  split_ifs
  · split <;> exact h.same ⟨rfl, rfl, id⟩
  · exact FramesLaw.lineSuspect (h.same ⟨rfl, rfl, id⟩)

theorem FramesLaw.judgeFrame (falseStart : Bool) (chars : List RxChar) : FramesLaw (s.judgeFrame falseStart chars) := by
  have hidle : FramesLaw { s with line :=
      { s.line.idled with spent := s.line.spent && !clearsSpent s.line.address chars } } := h.same ⟨rfl, rfl, id⟩
  unfold State.judgeFrame
  dsimp only
  split
  · exact (hidle.judgeOwn true).receive _
  · exact (hidle.judgeOwn false).discardFrame _ _

/-- A send moves the head of the queue into flight, where it holds the place it held. -/
theorem FramesLaw.slot (r : Round) (wireHigh : Bool) : FramesLaw (s.slot r wireHigh) := by
  unfold State.slot
  dsimp only
  split_ifs with hfell
  · exact h.same ⟨rfl, rfl, id⟩
  · have hfree : s.tx.inFlight = none := by simpa using (not_or.mp hfell).2
    split
    · split_ifs
      · exact h.same ⟨rfl, rfl, (quiet_congr (Tx.held_launch s.tx _ hfree).any_eq).mpr⟩
      · exact h.same ⟨rfl, rfl, id⟩
      · exact h.same ⟨rfl, rfl, id⟩
    · exact h.same ⟨rfl, rfl, id⟩

/-! ### The pins, the timers and the second event (04 R70 to R72, 05 R78, R83, 10 R171) -/

theorem FramesLaw.kegPresentTaken (k : Taken) : FramesLaw (s.kegPresentTaken k) := by
  cases k with
  | nothing => exact h
  | assertion =>
    have hmoved : FramesLaw (if s.mode.mode = .vacant then s.enterJoining else s) := by
      split_ifs with hm
      · exact h.enterJoining hm
      · exact h
    exact hmoved.same (by simp [SameFrames, State.kegPresentTaken])
  | deassertion =>
    have hlost : FramesLaw s.kegLost := h.same (by simp [SameFrames])
    have hmoved : FramesLaw (if s.kegLost.active || s.kegLost.syncing then s.kegLost.enterVacant else s.kegLost) := by
      split_ifs with hm
      · exact hlost.enterVacant (by simpa using hm)
      · exact hlost
    exact hmoved.same (by simp [SameFrames, State.kegPresentTaken])

theorem FramesLaw.handOn (before : State) : FramesLaw (State.handOn before s) :=
  (h.kegPresentTaken (takenOf before s .kegPresent)).same (by simp [SameFrames, State.handOn])

/-- The lease thresholds are those of an ACTIVE station. -/
theorem FramesLaw.renewDue (x : Resource) : FramesLaw (s.renewDue x) := by
  unfold State.renewDue
  split
  · next a ha _ =>
    split_ifs
    · exact ⟨h.load, .of_active (s.active_iff.mp ha)⟩
    · exact h
  · exact h

theorem FramesLaw.lapseDue (x : Resource) : FramesLaw (s.lapseDue x) := by
  unfold State.lapseDue
  split
  · next a ha _ =>
    split_ifs
    · exact ⟨h.load, .of_active (s.active_iff.mp ha)⟩
    · exact h
  · exact h

theorem FramesLaw.expiryDue (x : Resource) : FramesLaw (s.expiryDue x) := by
  unfold State.expiryDue
  split
  · next _ ha _ _ =>
    split
    · exact ⟨h.load, .of_active (s.active_iff.mp ha)⟩
    · exact h
  · exact h

theorem FramesLaw.takeSilent : FramesLaw s.takeSilent := by
  unfold State.takeSilent
  generalize [1, 2, 3, 4, 5, 6, 7, 8, 9, 10, 11, 12] = l
  induction l generalizing s with
  | nil => exact h
  | cons a as ih => exact ih (h.removeSilent a)

theorem FramesLaw.takeDue : FramesLaw s.takeDue := by
  have hfirst : FramesLaw (State.starveDue .heat (State.starveDue .gas (State.starveDue .chill
      s.minuteEvent.hourEvent.driftDue.emptyDue.foamDue.settleDue))) := h.same (by simp [SameFrames])
  exact hfirst.takeSilent.announceTimer.answerWait.restTimer

theorem FramesLaw.second (probe pressure : Int) : FramesLaw (s.second probe pressure) := by
  have hdue : FramesLaw s.takeDue := h.takeDue
  rw [State.second]
  generalize s.takeDue = v at hdue ⊢
  have hticked : FramesLaw { v with timebase := v.timebase.second } := hdue.same ⟨rfl, rfl, id⟩
  generalize ({ v with timebase := v.timebase.second } : State) = u at hticked ⊢
  have hsampled : FramesLaw ((u.probeSecond probe).pressureSample pressure) := hticked.same (by simp [SameFrames])
  have hcounted : FramesLaw ((u.probeSecond probe).pressureSample pressure).countSecond :=
    hsampled.same ⟨rfl, rfl, (State.countSecond_quiet _).mpr⟩
  exact hcounted.same ⟨rfl, rfl, State.retryRequested_quiet _⟩

end

/-! ### Starts and the configuration load (05 R76 to R80) -/

theorem FramesLaw.started {reason : StartReason} {strap : BitVec 4} {frozen : Option Hold} {program : Program}
    {log : List LogEntry} {keg : Keg} {notice : Notice} {inputs : Inputs} {draws : Nat} {pending : List Instr} :
    FramesLaw (State.started reason strap frozen program log keg notice inputs draws pending) :=
  ⟨.inr rfl, fun _ => ⟨rfl, fun x => by cases x <;> rfl⟩⟩

/-- STARTING is left with no frame of an ACTIVE station in the queue. -/
theorem FramesLaw.leaveStarting {s : State} (h : FramesLaw s) (hload : s.load = .ended) (hm : s.mode.mode = .starting) :
    FramesLaw s.leaveStarting := by
  obtain ⟨hqueue, hpending⟩ := h.quiet (by rw [hm]; decide)
  have hleft : FramesLaw
      (if s.asserted .kegPresent = true then s.enterSync .joining else (s.enterMode .vacant).thermalEval) := by
    split_ifs
    · exact .enterSync hload .joining hqueue
    · exact (FramesLaw.enterMode hload .vacant fun _ => ⟨hqueue, hpending⟩).thermalEval
  unfold State.leaveStarting
  dsimp only
  generalize (if s.asserted .kegPresent = true then s.enterSync .joining else (s.enterMode .vacant).thermalEval) = u at hleft ⊢
  split_ifs
  · exact hleft.same ⟨rfl, rfl, (quiet_congr (Tx.holds_askNotice_other u.tx _ rfl)).mpr⟩
  · exact hleft
  · exact h

theorem FramesLaw.configLoadEnd {s : State} (h : FramesLaw s) (read : Option WorkingCopy) (hreading : s.load = .reading) :
    FramesLaw ((s.takeConfig read).judgeInputs).leaveStarting := by
  have hm : s.mode.mode = .starting := h.load.resolve_left (by rw [hreading]; decide)
  have hload : (s.takeConfig read).load = .ended := rfl
  have hmode : (s.takeConfig read).mode.mode = .starting := hm
  have htaken : FramesLaw (s.takeConfig read) :=
    ⟨.inl hload, (s.takeConfig_quiet read).mpr h.quiet⟩
  exact FramesLaw.leaveStarting (htaken.same (by simp [SameFrames])) (by simpa using hload) (by simpa using hmode)

/-! ### The rows -/

/-- A row of a frame whose effect keeps the law. -/
theorem FramesLaw.frameRow {s t : State} {ok : FrameClass → Bool} {f : RxEntry → State → State} (h : FramesLaw s)
    (hf : ∀ e u, FramesLaw u → FramesLaw (f e u)) (he : whileRunning s (fun s => takeFrame s ok f) = .next t) : FramesLaw t :=
  frameRow_keeps h (fun _ => h.same ⟨rfl, rfl, id⟩) hf he

theorem FramesLaw.answer {s : State} (h : FramesLaw s) (e : RxEntry) (c : Byte) (r : Result) (d : List Byte) :
    FramesLaw (s.answer e c r d) := h.same ⟨rfl, rfl, (quiet_answer _).mpr⟩

/-- A row of an order whose performance moves no frame outside ACTIVE. -/
theorem FramesLaw.orderRow {s t : State} {o : OrderCode} {p : List Byte → State → Reply} (h : FramesLaw s)
    (hp : ∀ a u, SameFrames u (p a u).state) (he : orderRow o p s = .next t) : FramesLaw t :=
  orderRow_keeps h (fun _ => h.same ⟨rfl, rfl, id⟩) (fun _ hu => hu.same ⟨rfl, rfl, id⟩)
    (fun _ e c r d hu => hu.answer e c r d) (fun a u hu => hu.same (hp a u)) he

/-- A row whose effect moves no frame outside ACTIVE. -/
theorem FramesLaw.passedBy {s t : State} {f : State → State} (h : FramesLaw s) (hf : SameFrames s (f s))
    (he : whileRunning s f = .next t) : FramesLaw t :=
  whileRunning_keeps h (h.same hf) he

theorem FramesLaw.row {c : Instr} {s t : State} (h : FramesLaw s) (he : exec c s = .next t) : FramesLaw t := by
  cases c with
  | coldStart strap => cases he; exact .started
  | dipStart strap => cases he; exact .started
  | supplyFall => cases he; exact h.same ⟨rfl, rfl, Quiet.completed⟩
  | orderedStart strap =>
    cases he
    split_ifs
    · exact .started
    · exact h
  | configLoad =>
    refine whileRunning_keeps h ?_ he
    split_ifs with hdelay
    · exact ⟨.inr (h.load.resolve_left (by rw [hdelay]; decide)), h.quiet⟩
    · exact h
  | configLoadEnd read =>
    refine whileRunning_keeps h ?_ he
    split_ifs with hreading
    · exact h.configLoadEnd _ hreading
    · exact h
  | secondEvent probe pressure =>
    change execSecondEvent probe pressure s = .next t at he
    rw [execSecondEvent] at he
    refine whileRunning_keeps h ?_ he
    split_ifs
    · exact h
    · exact h.second _ _
  | minuteEvent | hourEvent | meterPulse | driftLimit | emptyEnd | foamEnd | settlingEnd =>
    exact h.passedBy (by simp [SameFrames]) he
  | pinChange input high => cases he; exact h.same ⟨rfl, rfl, id⟩
  | inputSettled inputs =>
    change execInputSettled inputs s = .next t at he
    rw [execInputSettled] at he
    refine whileRunning_keeps h ?_ he
    have hsettled : FramesLaw (s.settleAll inputs) := h.same ⟨rfl, rfl, id⟩
    exact (hsettled.handOn s).same (by simp [SameFrames])
  | lineIdle | breakSeen => exact whileRunning_keeps h (by split_ifs <;> exact h.same ⟨rfl, rfl, id⟩) he
  | stub =>
    change execStub s = .next t at he
    rw [execStub] at he
    exact whileRunning_keeps h (by split <;> exact h.same ⟨rfl, rfl, id⟩) he
  | frameEnd falseStart chars =>
    refine whileRunning_keeps h ?_ he
    split_ifs
    · exact h.judgeFrame _ _
    · exact h
  | frameBroken cause falseStart chars =>
    refine whileRunning_keeps h ?_ he
    have hbroken : FramesLaw { s with line := s.line.outside (BreakCause.leadsTo cause) } := h.same ⟨rfl, rfl, id⟩
    split_ifs
    · exact (hbroken.judgeOwn false).discardFrame _ _
    · exact h
  | slotBegin wireHigh =>
    change execSlotBegin wireHigh s = .next t at he
    rw [execSlotBegin] at he
    refine whileRunning_keeps h ?_ he
    split
    · split_ifs
      · exact h.slot _ _
      · exact h
    · exact h
  | quietWindow =>
    change execQuietWindow s = .next t at he
    rw [execQuietWindow] at he
    refine whileRunning_keeps h ?_ he
    split
    · split_ifs <;> exact h.same ⟨rfl, rfl, id⟩
    · exact h
  | lostArbitration bit =>
    change execLostArbitration bit s = .next t at he
    rw [execLostArbitration] at he
    refine whileRunning_keeps h ?_ he
    split
    · split_ifs
      · exact h.same ⟨rfl, rfl, quiet_returned.mpr⟩
      · exact h
    · exact h
  | sendFault bit =>
    change execSendFault bit s = .next t at he
    rw [execSendFault] at he
    refine whileRunning_keeps h ?_ he
    split
    · split_ifs
      · exact FramesLaw.lineSuspect (h.same ⟨rfl, rfl, quiet_returned.mpr⟩)
      · exact h
    · exact h
  | frameComplete =>
    change execFrameComplete s = .next t at he
    rw [execFrameComplete] at he
    refine whileRunning_keeps h ?_ he
    split
    · next f _ =>
      have hcompleted : FramesLaw { s with
          tx := s.tx.completed
          line := { s.line.fell with spent := true, ownAwaited := some f.entry } } := h.same ⟨rfl, rfl, Quiet.completed⟩
      exact hcompleted.ownerSent _ _
    · exact h
  | frameRejected =>
    change execFrameRejected s = .next t at he
    rw [execFrameRejected] at he
    refine h.frameRow (fun e u hu => ?_) he
    exact FramesLaw.setSuspect (hu.same ⟨rfl, rfl, id⟩)
  | frameNoBlock => exact h.frameRow (fun _ _ hu => hu) he
  | claim => exact h.frameRow (fun e _ hu => hu.claimFrame e) he
  | renew => exact h.frameRow (fun e _ hu => hu.renewFrame e) he
  | yield => exact h.frameRow (fun e _ hu => hu.yieldFrame e) he
  | yieldAll => exact h.frameRow (fun e _ hu => hu.yieldAllFrame e) he
  | expire => exact h.frameRow (fun e _ hu => hu.expireFrame e) he
  | syncTable => exact h.frameRow (fun e _ hu => (hu.syncTableFrame e).releaseSuspect) he
  | syncAsk => exact h.frameRow (fun e _ hu => hu.syncAskFrame e) he
  | announce => exact h.frameRow (fun e _ hu => (hu.announceFrame e).releaseSuspect) he
  | answerWaitExpiry => exact whileRunning_keeps h h.answerWait he
  | restEnd => exact whileRunning_keeps h h.restTimer he
  | announceTimer => exact whileRunning_keeps h h.announceTimer he
  | rosterEntryRemoved address => exact whileRunning_keeps h (h.removeSilent address) he
  | renewPoint x => exact whileRunning_keeps h (h.renewDue x) he
  | lapse x => exact whileRunning_keeps h (h.lapseDue x) he
  | expiryPoint x => exact whileRunning_keeps h (h.expiryDue x) he
  | starveLimit x => exact h.passedBy (by simp [SameFrames]) he
  | readStatus | readKeg => exact h.orderRow (fun _ _ => ⟨rfl, rfl, id⟩) he
  | readStep | readPourLog | readNotices | clearNotices | setNoticeEnable | raiseNotice | setFill | setServe | loadStep
  | clearProgram | startProgram | pauseProgram | resumeProgram | advanceStep | stopPour | restartBay =>
    exact h.orderRow (by simp [SameFrames]) he
  | pourPortion settled =>
    refine h.frameRow (fun e u hu => ?_) he
    have hsettled : FramesLaw (u.settleAll settled) := hu.same ⟨rfl, rfl, id⟩
    exact State.pourPortionRow_keeps _ _ _ (fun l => (hsettled.handOn u).same (by simp [SameFrames]))
      (fun _ hv => hv.same ⟨rfl, rfl, id⟩) (fun _ c r d hv => hv.answer e c r d)
  | unknownOrder =>
    refine h.frameRow (fun _ _ hu => ?_) he
    split_ifs
    · exact hu.same ⟨rfl, rfl, id⟩
    all_goals exact hu.answer _ _ _ _

end Sys2Proof.Machine
end

section
/-! PROOFS. The law of the roster (05 R85) through every step: what hears a station, what ages or removes an entry, and what
leaves the roster as it was. -/

namespace Sys2Proof.Machine

/-! ### The law and what leaves it standing -/

/-- An entry the roster of a station may hold: another station's address, a silence age of 0 to 15 (05 R85). -/
def RosterEntry.Fits (own : Nat) (r : RosterEntry) : Prop := 1 ≤ r.address ∧ r.address ≤ 12 ∧ r.address ≠ own ∧ r.silence ≤ 15

/-- At most one entry for each address of 1 to 12 other than the own, by ascending address (05 R85). -/
structure RosterFits (own : Nat) (l : List RosterEntry) : Prop where
  entries   : ∀ r ∈ l, r.Fits own
  ascending : (l.map RosterEntry.address).Pairwise (· < ·)

/-- The law of the roster at a station. -/
def RosterLaw (s : State) : Prop := RosterFits s.line.address s.mode.roster

theorem rosterLaw_iff (s : State) : rosterLaw s = true ↔ RosterLaw s := by
  simp only [rosterLaw, Bool.and_eq_true, decide_eq_true_eq, List.all_eq_true, bne_iff_ne, ne_eq]
  refine ⟨fun ⟨hentries, hasc⟩ => ⟨fun r hr => ?_, hasc⟩, fun ⟨hentries, hasc⟩ => ⟨fun r hr => ?_, hasc⟩⟩
  · obtain ⟨⟨⟨h1, h12⟩, hother⟩, hage⟩ := hentries r hr
    exact ⟨h1, h12, hother, hage⟩
  · obtain ⟨h1, h12, hother, hage⟩ := hentries r hr
    exact ⟨⟨⟨h1, h12⟩, hother⟩, hage⟩

/-- What the law reads is as it was. -/
def SameRoster (s t : State) : Prop := t.mode.roster = s.mode.roster ∧ t.line.address = s.line.address

theorem RosterLaw.same {s t : State} (h : RosterLaw s) (hs : SameRoster s t) : RosterLaw t := by
  obtain ⟨hroster, haddress⟩ := hs
  rw [RosterLaw, hroster, haddress]
  exact h

theorem SameRoster.trans {s t u : State} (h1 : SameRoster s t) (h2 : SameRoster t u) : SameRoster s u :=
  ⟨h2.1.trans h1.1, h2.2.trans h1.2⟩

/-! ### What the roster hears, ages and removes (05 R85, R86) -/

section
variable {own : Nat} {l : List RosterEntry} (h : RosterFits own l)
include h

theorem RosterFits.filter (p : RosterEntry → Bool) : RosterFits own (l.filter p) :=
  ⟨fun r hr => h.entries r (List.mem_of_mem_filter hr), h.ascending.sublist (List.filter_sublist.map _)⟩

/-- A change of every entry that keeps its address and brings no silence age past 15. -/
theorem RosterFits.map {f : RosterEntry → RosterEntry} (haddress : ∀ r, (f r).address = r.address)
    (hsilence : ∀ r, r.silence ≤ 15 → (f r).silence ≤ 15) : RosterFits own (l.map f) := by
  refine ⟨fun r hr => ?_, ?_⟩
  · obtain ⟨q, hq, rfl⟩ := List.mem_map.mp hr
    obtain ⟨h1, h12, hother, hage⟩ := h.entries q hq
    exact ⟨by rwa [haddress], by rwa [haddress], by rwa [haddress], hsilence q hage⟩
  · rw [List.map_map, show RosterEntry.address ∘ f = RosterEntry.address from funext haddress]
    exact h.ascending

/-- The entries of a roster that has heard a station are those it held but for that station's. -/
theorem mem_refreshRoster {a : Nat} {q : RosterEntry} (hq : q ∈ refreshRoster a l) :
    q ∈ l ∨ (q.address = a ∧ q.silence = 0) := by
  induction l with
  | nil =>
    obtain rfl := List.mem_singleton.mp hq
    exact .inr ⟨rfl, rfl⟩
  | cons r rest ih =>
    unfold refreshRoster at hq
    split_ifs at hq with hlt heq
    · rcases List.mem_cons.mp hq with rfl | hq
      · exact .inr ⟨rfl, rfl⟩
      · exact .inl hq
    · rcases List.mem_cons.mp hq with rfl | hq
      · exact .inr ⟨heq.symm, rfl⟩
      · exact .inl (List.mem_cons_of_mem _ hq)
    · rcases List.mem_cons.mp hq with rfl | hq
      · exact .inl List.mem_cons_self
      · exact (ih ⟨fun r hr => h.entries r (List.mem_cons_of_mem _ hr), (List.pairwise_cons.mp h.ascending).2⟩ hq).imp_left
          (List.mem_cons_of_mem _)

/-- A station heard keeps its place by address or takes it. -/
theorem RosterFits.refresh {a : Nat} (h1 : 1 ≤ a) (h12 : a ≤ 12) (hother : a ≠ own) : RosterFits own (refreshRoster a l) := by
  refine ⟨fun q hq => ?_, ?_⟩
  · rcases mem_refreshRoster h hq with hold | ⟨rfl, hage⟩
    · exact h.entries q hold
    · exact ⟨h1, h12, hother, by omega⟩
  · induction l with
    | nil => exact List.pairwise_singleton _ _
    | cons r rest ih =>
      obtain ⟨hfirst, hrest⟩ := List.pairwise_cons.mp h.ascending
      have htail : RosterFits own rest := ⟨fun r hr => h.entries r (List.mem_cons_of_mem _ hr), hrest⟩
      unfold refreshRoster
      split_ifs with hlt heq
      · refine List.pairwise_cons.mpr ⟨fun b hb => ?_, h.ascending⟩
        rcases List.mem_cons.mp hb with rfl | hb
        · exact hlt
        · exact hlt.trans (hfirst b hb)
      · exact h.ascending
      · refine List.pairwise_cons.mpr ⟨fun b hb => ?_, ih htail⟩
        obtain ⟨q, hq, rfl⟩ := List.mem_map.mp hb
        rcases mem_refreshRoster htail hq with hold | ⟨hq, -⟩
        · exact hfirst _ (List.mem_map_of_mem hold)
        · omega

end

/-- A frame that no test of R25 rejects names a sender of 1 to 12 that is not the station itself, unless it carries the own
mark. -/
theorem sender_of_accepted {own : Nat} {e : RxEntry} (h : (classify own e).rejected = false) (hown : e.own = false) :
    1 ≤ e.sender ∧ e.sender ≤ 12 ∧ e.sender ≠ own := by
  by_contra hnot
  have hbad : e.sender = 0 ∨ 13 ≤ e.sender ∨ (e.sender = own ∧ e.own = false) := by
    simp only [hown, and_true]
    omega
  cases hk : kindOf e.kind with
  | none => rw [classify_unknownKind own e hk] at h; cases h
  | some k => rw [classify_badHeader own e k hk (.inr hbad)] at h; cases h

theorem RosterLaw.popFrame {s : State} (h : RosterLaw s) (e : RxEntry) : RosterLaw (s.popFrame e) := by
  unfold State.popFrame
  unfold RosterLaw
  dsimp only
  split_ifs with hpassed
  · exact h
  · obtain ⟨hown, hrejected⟩ : e.own = false ∧ (classify s.line.address e).rejected = false := by simpa using hpassed
    obtain ⟨h1, h12, hother⟩ := sender_of_accepted hrejected hown
    exact h.refresh h1 h12 hother

theorem announced_address_silence (r : RosterEntry) (body : List Byte) :
    (r.announced body).address = r.address ∧ (r.announced body).silence = r.silence := by
  unfold RosterEntry.announced
  split <;> exact ⟨rfl, rfl⟩

theorem RosterLaw.announced {s : State} (h : RosterLaw s) (sender : Nat) (body : List Byte) :
    RosterLaw { s with mode := { s.mode with roster := announceRoster sender body s.mode.roster } } := by
  refine RosterFits.map h (fun r => ?_) (fun r hr => ?_)
  · split_ifs
    · exact (announced_address_silence r body).1
    · rfl
  · split_ifs
    · rw [(announced_address_silence r body).2]; exact hr
    · exact hr

/-! ### What leaves the roster as it was (05 R80 to R98) -/

section
variable (s : State)

theorem State.giveUp_roster : s.giveUp.mode.roster = s.mode.roster := by
  unfold State.giveUp
  split_ifs <;> rfl

theorem State.enterMode_roster (m : Mode) : (s.enterMode m).mode.roster = s.mode.roster := rfl

theorem State.becomeActive_roster : s.becomeActive.mode.roster = s.mode.roster := rfl

theorem State.enterMuted_sameRoster : SameRoster s s.enterMuted := ⟨s.giveUp_roster, by simp⟩

theorem State.enterVacant_sameRoster : SameRoster s s.enterVacant :=
  ⟨by simp [State.enterVacant, s.giveUp.enterMode_roster, s.giveUp_roster], by simp⟩

theorem State.enterJoining_sameRoster : SameRoster s s.enterJoining :=
  ⟨by simp [State.enterJoining, State.enterSync, State.enterMode, State.announceRequest], by simp⟩

theorem State.doubtTest_sameRoster : SameRoster s s.doubtTest := by
  unfold State.doubtTest
  split_ifs <;> exact ⟨rfl, rfl⟩

theorem State.setSuspect_sameRoster : SameRoster s s.setSuspect := ⟨s.setSuspect_roster, by simp⟩

theorem State.releaseSuspect_sameRoster : SameRoster s s.releaseSuspect := by
  unfold State.releaseSuspect
  split_ifs
  · exact State.setSuspect_sameRoster _
  · exact ⟨rfl, rfl⟩

theorem State.lineSuspect_sameRoster : SameRoster s s.lineSuspect := by
  unfold State.lineSuspect
  split_ifs
  · exact ⟨rfl, rfl⟩
  · exact s.setSuspect_sameRoster

theorem State.waitExpired_sameRoster : SameRoster s s.waitExpired := by
  unfold State.waitExpired
  split_ifs <;> exact ⟨rfl, rfl⟩

theorem State.answerWait_sameRoster : SameRoster s s.answerWait := by
  unfold State.answerWait
  split_ifs
  · exact s.waitExpired_sameRoster
  · exact ⟨rfl, rfl⟩

theorem State.restTimer_sameRoster : SameRoster s s.restTimer := by
  unfold State.restTimer
  split_ifs <;> exact ⟨rfl, rfl⟩

theorem State.announceTimer_sameRoster : SameRoster s s.announceTimer := by
  unfold State.announceTimer
  split_ifs <;> exact ⟨rfl, rfl⟩

theorem State.weighAnnounce_sameRoster (before : Option Nat) (r : RosterEntry) : SameRoster s (s.weighAnnounce before r) := by
  unfold State.weighAnnounce
  split_ifs
  · unfold State.compare
    split_ifs
    · exact s.enterMuted_sameRoster
    · exact ⟨rfl, rfl⟩
    · exact ⟨rfl, rfl⟩
  · exact s.doubtTest_sameRoster
  · exact ⟨rfl, rfl⟩
  · unfold State.heardActive
    split_ifs
    · exact s.enterMuted_sameRoster
    · exact ⟨rfl, rfl⟩
    · exact ⟨rfl, rfl⟩
  · exact ⟨rfl, rfl⟩

theorem State.syncTableFrame_sameRoster (e : RxEntry) : SameRoster s (s.syncTableFrame e) := by
  refine ⟨?_, by simp⟩
  have hadopted : (s.adoptFrame e.body).mode = s.mode := by simp
  by_cases hasker : (e.body[0]?).map BitVec.toNat = some s.line.address
  · rw [s.syncTableFrame_own e hasker]
    generalize s.adoptFrame e.body = u at hadopted ⊢
    have hheard : u.tableHeard.mode.roster = s.mode.roster := Eq.trans (b := u.mode.roster) rfl (congrArg ModeCtl.roster hadopted)
    split_ifs
    · rw [State.becomeActive_roster, hheard]
    · exact hheard
  · rw [s.syncTableFrame_other e hasker]

/-! ### The line, the pins and the load (01 R8 to R16, 05 R79, 10 R171) -/

theorem State.judgeOwn_sameRoster (accepted : Bool) : SameRoster s (s.judgeOwn accepted) := by
  refine ⟨by simp, ?_⟩
  unfold State.judgeOwn
  dsimp only
  split
  · split_ifs <;> simp
  · rfl

theorem State.discardFrame_sameRoster (own clean : Bool) : SameRoster s (s.discardFrame own clean) := by
  cases hjudged : (own || clean) with
  | true =>
    rw [s.discardFrame_suspected own clean hjudged]
    exact State.lineSuspect_sameRoster _
  | false =>
    obtain ⟨rfl, rfl⟩ := Bool.or_eq_false_iff.mp hjudged
    exact ⟨rfl, rfl⟩

theorem State.receive_sameRoster (e : RxEntry) : SameRoster s (s.receive e) := by
  unfold State.receive
  split_ifs
  · split <;> exact ⟨rfl, rfl⟩
  · exact State.lineSuspect_sameRoster _

theorem State.judgeFrame_sameRoster (falseStart : Bool) (chars : List RxChar) :
    SameRoster s (s.judgeFrame falseStart chars) := by
  have hidled : SameRoster s
      { s with line := { s.line.idled with spent := s.line.spent && !clearsSpent s.line.address chars } } := ⟨rfl, rfl⟩
  unfold State.judgeFrame
  dsimp only
  generalize ({ s with line := { s.line.idled with spent := s.line.spent && !clearsSpent s.line.address chars } } : State) = u
    at hidled ⊢
  split
  · exact (hidled.trans (u.judgeOwn_sameRoster true)).trans (State.receive_sameRoster _ _)
  · exact (hidled.trans (u.judgeOwn_sameRoster false)).trans (State.discardFrame_sameRoster _ _ _)

theorem State.slot_sameRoster (r : Round) (wireHigh : Bool) : SameRoster s (s.slot r wireHigh) :=
  ⟨by simp, (s.slot_sameStanding r wireHigh).1⟩

theorem State.ownerSent_sameRoster (f : TxFrame) (w : Bool) : SameRoster s (s.ownerSent f w) := by
  cases f <;> exact ⟨rfl, rfl⟩

theorem State.kegPresentTaken_sameRoster (k : Taken) : SameRoster s (s.kegPresentTaken k) := by
  have hjoin := s.enterJoining_sameRoster
  have hvacant := s.kegLost.enterVacant_sameRoster
  simp only [SameRoster, State.kegLost_frame] at hjoin hvacant
  cases k <;> simp only [State.kegPresentTaken]
  · exact ⟨rfl, rfl⟩
  · split_ifs <;> simp [SameRoster, hjoin]
  · split_ifs <;> simp [SameRoster, hvacant]

theorem State.handOn_sameRoster (before : State) : SameRoster s (State.handOn before s) :=
  (s.kegPresentTaken_sameRoster (takenOf before s .kegPresent)).trans (by simp [SameRoster, State.handOn])

theorem State.leaveStarting_sameRoster : SameRoster s s.leaveStarting := by
  have hleft : SameRoster s
      (if s.asserted .kegPresent = true then s.enterSync .joining else (s.enterMode .vacant).thermalEval) := by
    split_ifs
    · exact ⟨rfl, rfl⟩
    · simp [SameRoster, State.enterMode, State.announceRequest]
  unfold State.leaveStarting
  dsimp only
  generalize (if s.asserted .kegPresent = true then s.enterSync .joining else (s.enterMode .vacant).thermalEval) = u at hleft ⊢
  split_ifs
  · exact hleft
  · exact hleft
  · exact ⟨rfl, rfl⟩

theorem State.takeConfig_sameRoster (c : Option WorkingCopy) : SameRoster s (s.takeConfig c) := ⟨rfl, rfl⟩

end

/-! ### The roster's own timers (05 R85, R96) -/

section
variable {s : State} (h : RosterLaw s)
include h

theorem RosterLaw.removeSilent (a : Nat) : RosterLaw (s.removeSilent a) := by
  unfold State.removeSilent
  split_ifs
  · have hleft : RosterLaw { s with mode := { s.mode with
        roster := s.mode.roster.filter fun r => !(r.address == a && r.silence == 15) } } := RosterFits.filter h _
    exact hleft.same (State.doubtTest_sameRoster _)
  · exact h

theorem RosterLaw.takeSilent : RosterLaw s.takeSilent := by
  unfold State.takeSilent
  generalize [1, 2, 3, 4, 5, 6, 7, 8, 9, 10, 11, 12] = l
  induction l generalizing s with
  | nil => exact h
  | cons a as ih => exact ih (h.removeSilent a)

theorem RosterLaw.countSecond : RosterLaw s.countSecond :=
  RosterFits.map h (fun _ => rfl) fun _ _ => Nat.min_le_right _ _

theorem RosterLaw.takeDue : RosterLaw s.takeDue := by
  have hfirst : RosterLaw (State.starveDue .heat (State.starveDue .gas (State.starveDue .chill
      s.minuteEvent.hourEvent.driftDue.emptyDue.foamDue.settleDue))) := h.same (by simp [SameRoster])
  exact ((hfirst.takeSilent.same (State.announceTimer_sameRoster _)).same (State.answerWait_sameRoster _)).same
    (State.restTimer_sameRoster _)

theorem RosterLaw.second (probe pressure : Int) : RosterLaw (s.second probe pressure) := by
  have hdue : RosterLaw s.takeDue := h.takeDue
  rw [State.second]
  generalize s.takeDue = v at hdue ⊢
  have hsampled : RosterLaw (({ v with timebase := v.timebase.second }.probeSecond probe).pressureSample pressure) :=
    hdue.same (by simp [SameRoster])
  exact hsampled.countSecond.same ⟨rfl, rfl⟩

theorem RosterLaw.announceFrame (e : RxEntry) : RosterLaw (s.announceFrame e) := by
  have hheard := h.announced e.sender e.body
  unfold State.announceFrame
  dsimp only
  split
  · exact hheard.same (State.weighAnnounce_sameRoster _ _ _)
  · exact hheard

end

/-! ### The rows -/

theorem RosterLaw.started {reason : StartReason} {strap : BitVec 4} {frozen : Option Hold} {program : Program}
    {log : List LogEntry} {keg : Keg} {notice : Notice} {inputs : Inputs} {draws : Nat} {pending : List Instr} :
    RosterLaw (State.started reason strap frozen program log keg notice inputs draws pending) :=
  ⟨fun r hr => absurd hr (List.not_mem_nil (a := r)), List.Pairwise.nil⟩

/-- A row of a frame, the frame's sender heard as its effect begins. -/
theorem RosterLaw.frameRow {s t : State} {ok : FrameClass → Bool} {f : RxEntry → State → State} (h : RosterLaw s)
    (hf : ∀ e u, RosterLaw u → RosterLaw (f e u)) (he : whileRunning s (fun s => takeFrame s ok f) = .next t) : RosterLaw t :=
  frameRow_keeps h h.popFrame hf he

/-- A row of an order whose performance leaves the roster. -/
theorem RosterLaw.orderRow {s t : State} {o : OrderCode} {p : List Byte → State → Reply} (h : RosterLaw s)
    (hp : ∀ a u, SameRoster u (p a u).state) (he : orderRow o p s = .next t) : RosterLaw t :=
  orderRow_keeps h h.popFrame (fun _ hu => hu.same ⟨rfl, rfl⟩) (fun _ _ _ _ _ hu => hu.same ⟨rfl, rfl⟩)
    (fun a u hu => hu.same (hp a u)) he

/-- A row whose effect leaves the roster. -/
theorem RosterLaw.passedBy {s t : State} {f : State → State} (h : RosterLaw s) (hf : SameRoster s (f s))
    (he : whileRunning s f = .next t) : RosterLaw t :=
  whileRunning_keeps h (h.same hf) he

theorem RosterLaw.row {c : Instr} {s t : State} (h : RosterLaw s) (he : exec c s = .next t) : RosterLaw t := by
  cases c with
  | coldStart strap => cases he; exact .started
  | dipStart strap => cases he; exact .started
  | supplyFall => cases he; exact h.same ⟨rfl, rfl⟩
  | orderedStart strap =>
    cases he
    split_ifs
    · exact .started
    · exact h
  | configLoadEnd read =>
    refine whileRunning_keeps h ?_ he
    split_ifs
    · have hjudged : RosterLaw ((s.takeConfig (ConfigRead.usable read)).judgeInputs) :=
        (h.same (s.takeConfig_sameRoster (ConfigRead.usable read))).same (by simp [SameRoster])
      exact hjudged.same (State.leaveStarting_sameRoster _)
    · exact h
  | secondEvent probe pressure =>
    change execSecondEvent probe pressure s = .next t at he
    rw [execSecondEvent] at he
    refine whileRunning_keeps h ?_ he
    split_ifs
    · exact h
    · exact h.second _ _
  | minuteEvent | hourEvent | meterPulse | driftLimit | emptyEnd | foamEnd | settlingEnd =>
    exact h.passedBy (by simp [SameRoster]) he
  | pinChange input high => cases he; exact h.same ⟨rfl, rfl⟩
  | inputSettled inputs =>
    change execInputSettled inputs s = .next t at he
    rw [execInputSettled] at he
    refine whileRunning_keeps h ?_ he
    have hsettled : RosterLaw (s.settleAll inputs) := h.same ⟨rfl, rfl⟩
    exact (hsettled.same (State.handOn_sameRoster _ s)).same (by simp [SameRoster])
  | configLoad | lineIdle | breakSeen => exact whileRunning_keeps h (by split_ifs <;> exact h.same ⟨rfl, rfl⟩) he
  | stub =>
    change execStub s = .next t at he
    rw [execStub] at he
    exact whileRunning_keeps h (by split <;> exact h.same ⟨rfl, rfl⟩) he
  | frameEnd falseStart chars =>
    refine whileRunning_keeps h ?_ he
    split_ifs
    · exact h.same (s.judgeFrame_sameRoster _ _)
    · exact h
  | frameBroken cause falseStart chars =>
    refine whileRunning_keeps h ?_ he
    have hbroken : RosterLaw { s with line := s.line.outside (BreakCause.leadsTo cause) } := h.same ⟨rfl, rfl⟩
    split_ifs
    · exact (hbroken.same (State.judgeOwn_sameRoster _ false)).same (State.discardFrame_sameRoster _ _ _)
    · exact h
  | slotBegin wireHigh =>
    change execSlotBegin wireHigh s = .next t at he
    rw [execSlotBegin] at he
    refine whileRunning_keeps h ?_ he
    split
    · split_ifs
      · exact h.same (s.slot_sameRoster _ _)
      · exact h
    · exact h
  | quietWindow =>
    change execQuietWindow s = .next t at he
    rw [execQuietWindow] at he
    refine whileRunning_keeps h ?_ he
    split
    · split_ifs <;> exact h.same ⟨rfl, rfl⟩
    · exact h
  | lostArbitration bit =>
    change execLostArbitration bit s = .next t at he
    rw [execLostArbitration] at he
    refine whileRunning_keeps h ?_ he
    split
    · split_ifs <;> exact h.same ⟨rfl, rfl⟩
    · exact h
  | sendFault bit =>
    change execSendFault bit s = .next t at he
    rw [execSendFault] at he
    refine whileRunning_keeps h ?_ he
    split
    · split_ifs
      · have hfaulted : RosterLaw { s with tx := s.tx.returned, line := s.line.faulted bit } :=
          h.same ⟨rfl, by simp [Line.faulted_eq]⟩
        exact hfaulted.same (State.lineSuspect_sameRoster _)
      · exact h
    · exact h
  | frameComplete =>
    change execFrameComplete s = .next t at he
    rw [execFrameComplete] at he
    refine whileRunning_keeps h ?_ he
    split
    · exact h.same (State.ownerSent_sameRoster _ _ _)
    · exact h
  | frameRejected =>
    change execFrameRejected s = .next t at he
    rw [execFrameRejected] at he
    refine h.frameRow (fun e u hu => ?_) he
    have hrejected : RosterLaw { u with handler := u.handler.reject (classify u.line.address e) } := hu.same ⟨rfl, rfl⟩
    exact hrejected.same (State.setSuspect_sameRoster _)
  | frameNoBlock => exact h.frameRow (fun _ _ hu => hu) he
  | claim | renew | yield | yieldAll | expire | syncAsk => exact h.frameRow (fun _ _ hu => hu.same (by simp [SameRoster])) he
  | syncTable =>
    exact h.frameRow (fun e u hu => (hu.same (u.syncTableFrame_sameRoster e)).same (State.releaseSuspect_sameRoster _)) he
  | announce => exact h.frameRow (fun e _ hu => (hu.announceFrame e).same (State.releaseSuspect_sameRoster _)) he
  | answerWaitExpiry => exact h.passedBy s.answerWait_sameRoster he
  | restEnd => exact h.passedBy s.restTimer_sameRoster he
  | announceTimer => exact h.passedBy s.announceTimer_sameRoster he
  | rosterEntryRemoved address => exact whileRunning_keeps h (h.removeSilent address) he
  | renewPoint x | lapse x | expiryPoint x | starveLimit x => exact h.passedBy (by simp [SameRoster]) he
  | readStatus | readKeg => exact h.orderRow (fun _ _ => ⟨rfl, rfl⟩) he
  | readStep | readPourLog | readNotices | clearNotices | setNoticeEnable | raiseNotice | setFill | setServe | loadStep
  | clearProgram | startProgram | pauseProgram | resumeProgram | advanceStep | stopPour | restartBay =>
    exact h.orderRow (by simp [SameRoster]) he
  | pourPortion settled =>
    refine h.frameRow (fun e u hu => ?_) he
    have hsettled : RosterLaw (u.settleAll settled) := hu.same ⟨rfl, rfl⟩
    exact State.pourPortionRow_keeps _ _ _
      (fun l => (hsettled.same (State.handOn_sameRoster _ u)).same (by simp [SameRoster]))
      (fun _ hv => hv.same ⟨rfl, rfl⟩) (fun _ _ _ _ hv => hv.same ⟨rfl, rfl⟩)
  | unknownOrder =>
    refine h.frameRow (fun _ _ hu => ?_) he
    split_ifs <;> exact hu.same ⟨rfl, rfl⟩

/-- Settles O57: the frames' law together with the load's, and the roster's law by itself, through the tick and every row. -/
theorem everyStepKeepsTheFramesAndRosterLaws : Obligations.EveryStepKeepsTheFramesAndRosterLaws := by
  intro s t he
  refine ⟨fun hload hframes => (framesLaw_iff t).mpr ?_, fun hroster => (rosterLaw_iff t).mpr ?_⟩
  · refine step_keeps (P := FramesLaw) (fun _ _ hu => hu.same ⟨rfl, rfl, id⟩) (fun u hu => ?_) (fun _ _ _ => FramesLaw.row) s t
      ((framesLaw_iff s).mp ⟨hload, hframes⟩) he
    rw [State.tick_eq]
    split_ifs <;> exact hu.same ⟨rfl, rfl, id⟩
  · refine step_keeps (P := RosterLaw) (fun _ _ hu => hu.same ⟨rfl, rfl⟩) (fun u hu => ?_) (fun _ _ _ => RosterLaw.row) s t
      ((rosterLaw_iff s).mp hroster) he
    rw [State.tick_eq]
    split_ifs <;> exact hu.same ⟨rfl, rfl⟩

end Sys2Proof.Machine
end

section
/-! PROOFS. The idle step, the starts, the fall of the supply and the end of the start delay. -/

namespace Sys2Proof.Machine

/-! ### The idle step (log 8) -/

/-- A millisecond counts only at an input whose settled level is not its pin's. -/
theorem InputState.tick_eq (i : InputState) :
    i.tick = if i.settled = some i.pin then i else { i with timer := min (i.timer + 1) 20 } := rfl

/-- Settles O2: the tick of the running part, and no effect at all where the part does not run. -/
theorem idleStepPassesOneMillisecond : Obligations.IdleStepPassesOneMillisecond := by
  intro s hidle
  have hstep : step s = .next s.tick := by rw [step, hidle]
  refine ⟨fun hoff => ?_, fun hrun => ?_⟩
  · rw [hstep, State.tick_eq, if_neg hoff]
  · rw [hstep, State.tick_eq, if_pos hrun, funext InputState.tick_eq]

/-! ### Starts (05 R76, R77) -/

/-- At a start every output is driven closed: the staged outputs are, and no sample has come in that could open the relief. -/
theorem State.started_driven (reason : StartReason) (strap : BitVec 4) (frozen : Option Hold) (program : Program)
    (log : List LogEntry) (keg : Keg) (notice : Notice) (inputs : Inputs) (draws : Nat) (pending : List Instr) :
    (State.started reason strap frozen program log keg notice inputs draws pending).driven = Outputs.closed := rfl

/-- Settles O5: the values of a start, COLD giving each of the retained ones its initial value. -/
theorem coldStartSetsEveryBlock : Obligations.ColdStartSetsEveryBlock := fun _ _ => ⟨_, rfl, rfl, rfl⟩

/-- A warm start is a COLD start but for the start record and what the blocks retain. -/
theorem State.warmStart_eq (s : State) (reason : StartReason) (strap : BitVec 4) :
    s.warmStart reason strap =
      let u := State.started .cold strap none .initial [] .initial .initial s.inputs s.draws s.pending
      { u with
        mode := { u.mode with startReason := reason }
        thermal := { u.thermal with frozen := s.thermal.frozen }
        program := s.program
        keg := s.keg
        notice := s.notice.warm
        pour := { u.pour with log := s.pour.logged s.keg.remaining } } := rfl

theorem Notice.warm_eq (n : Notice) : n.warm = ⟨n.flags ||| 0x2000, 0, n.enabled⟩ := by
  have hmask : Flag.restarted.mask = 0x2000 := by decide
  simp [Notice.warm, Notice.raised, hmask]

theorem Pour.logged_eq (p : Pour) (remaining : Nat) :
    p.logged remaining = match p.record with
      | none => p.log
      | some r => ⟨r.outlet, r.kind, r.volume, r.reason.getD .interrupted, remaining⟩ :: p.log.take 7 := by
  unfold Pour.logged
  cases p.record <;> rfl

/-- Settles O6: both rows are the one warm start, which is the COLD start with the retained records put back. -/
theorem warmStartsKeepTheRecords : Obligations.WarmStartsKeepTheRecords := by
  intro strap s c reason hrow
  refine ⟨s.warmStart reason strap, _, ?_, rfl, rfl, ?_⟩
  · rcases hrow with ⟨rfl, rfl⟩ | ⟨rfl, rfl, hdue⟩
    · rfl
    · change execOrderedStart strap s = _
      rw [execOrderedStart, if_pos hdue]
  · rw [State.warmStart_eq, Notice.warm_eq, Pour.logged_eq] <;> rfl

/-! ### The fall of the supply and the end of the start delay (05 R76, R78) -/

/-- Settles O7: a part that does not run drives nothing, and the delay's end is CONFIG_LOAD's own row. -/
theorem supplyFallAndEndOfStartDelay : Obligations.SupplyFallAndEndOfStartDelay := by
  refine ⟨fun s => ⟨_, rfl, State.driven_stopped (by simp), rfl⟩, fun s hrun hdelay => ?_⟩
  change execConfigLoad s = _
  rw [execConfigLoad, whileRunning_on _ _ hrun, if_pos hdelay]
  rfl

end Sys2Proof.Machine
end

section
/-! PROOFS. The answer wait, the rest, the announce timer and the silence age at their ends (05 R85, R86, R91, R92). -/

namespace Sys2Proof.Machine

/-- The founding test of R92, entry by entry: no keg station reports ACTIVE, and no lower one JOINING or DOUBTFUL. -/
theorem State.mayFound_eq_all (s : State) :
    s.mayFound = s.mode.roster.all (fun r => !(decide (IsBay r.address) && (r.reported == some 4 ||
      ((r.reported == some 3 || r.reported == some 5) && decide (r.address < s.line.address))))) := by
  rw [State.mayFound, Bool.eq_iff_iff]
  simp only [List.not_any_eq_all_not, Bool.and_eq_true, List.all_eq_true, ← forall₂_and]
  refine forall₂_congr fun r _ => ?_
  simp only [isKeg, reportsActive]
  cases decide (IsBay r.address) <;> simp

section
variable (s : State)

theorem State.found_mode : s.found.mode.mode = .active ∧ s.found.mode.suspect = false := ⟨rfl, rfl⟩

theorem State.found_share : s.found.share = Share.founded := rfl

/-- The third failed ask, or any failed ask of a slow sync, tests for founding and otherwise rests; the third raises
LINE-TROUBLE. -/
theorem State.waitExpired_last (h : s.mode.sync.slow = true ∨ s.mode.sync.failedAsks = 2) :
    s.waitExpired =
      if s.mayFound then s.found
      else if s.mode.sync.slow then s.beginRest else s.beginRest.raise Flag.lineTrouble.mask := by
  unfold State.waitExpired
  cases hslow : s.mode.sync.slow
  · simp [h.resolve_left (by simp [hslow])]
  · simp

theorem State.waitExpired_again (hslow : s.mode.sync.slow = false) (hasks : s.mode.sync.failedAsks < 2) :
    s.waitExpired = s.askAgain (s.mode.sync.failedAsks + 1) := by
  rw [State.waitExpired, hslow, if_neg Bool.false_ne_true, if_pos (by omega)]

theorem State.beginRest_sync (hwait : s.mode.sync.wait = 2) : s.beginRest.mode.sync = ⟨.resting, 3, true, 2, 0⟩ := by
  simp [State.beginRest, hwait]

/-- An entry whose silence age stands at 15 is removed, and the doubt test follows. -/
theorem State.removeSilent_silent {a : Nat} {r : RosterEntry} (hr : r ∈ s.mode.roster) (ha : r.address = a)
    (hage : r.silence = 15) :
    s.removeSilent a = State.doubtTest { s with
      mode := { s.mode with roster := s.mode.roster.filter (fun q => !(q.address == a && q.silence == 15)) } } :=
  if_pos (List.any_eq_true.mpr ⟨r, hr, by simp [ha, hage]⟩)

end

theorem execAnswerWaitExpiry_due {s : State} (hrun : s.power = .running) (hsync : s.mode.mode = .joining ∨ s.mode.mode = .doubtful)
    (hstage : s.mode.sync.stage = .listening) (hwait : s.mode.sync.wait = 2) :
    exec .answerWaitExpiry s = .next s.waitExpired := by
  change execAnswerWaitExpiry s = _
  rw [execAnswerWaitExpiry, whileRunning_on _ _ hrun, State.answerWait, if_pos ⟨s.syncing_iff.mpr hsync, hstage, hwait⟩]

/-- Settles O33: each timer's row at its end, a failed ask asking again or coming to the founding test. -/
theorem syncTimersAtTheirEnds : Obligations.SyncTimersAtTheirEnds := by
  refine fun s hrun => ⟨fun hsync hstage hwait hslow hasks => ?_, fun hsync hstage hwait hlast => ?_,
    fun hsync hstage hrest => ?_, fun htimer => ?_, fun a r hr ha hage hclear => ?_⟩
  · rw [execAnswerWaitExpiry_due hrun hsync hstage hwait, s.waitExpired_again hslow hasks]
    rfl
  · refine ⟨s.waitExpired, execAnswerWaitExpiry_due hrun hsync hstage hwait, ?_⟩
    rw [← s.mayFound_eq_all, s.waitExpired_last hlast]
    cases hfound : s.mayFound
    · refine ⟨fun h => absurd h Bool.false_ne_true, fun _ => ?_⟩
      have hrests := s.beginRest_sync hwait
      rw [if_neg Bool.false_ne_true]
      cases hslow : s.mode.sync.slow
      · exact ⟨rfl, rfl, hrests, fun _ => rfl, fun h => absurd h Bool.false_ne_true⟩
      · exact ⟨rfl, rfl, hrests, fun h => absurd h.symm Bool.false_ne_true, fun _ => rfl⟩
    · refine ⟨fun _ => ?_, fun h => absurd h.symm Bool.false_ne_true⟩
      rw [if_pos rfl]
      exact ⟨s.found_mode.1, s.found_share, s.found_mode.2⟩
  · change execRestEnd s = _
    rw [execRestEnd, whileRunning_on _ _ hrun, State.restTimer, if_pos ⟨s.syncing_iff.mpr hsync, hstage, hrest⟩]
    rfl
  · change execAnnounceTimer s = _
    rw [execAnnounceTimer, whileRunning_on _ _ hrun, State.announceTimer, if_pos htimer]
    rfl
  · change execRosterEntryRemoved a s = _
    rw [execRosterEntryRemoved, whileRunning_on _ _ hrun, s.removeSilent_silent hr ha hage]
    exact congrArg Host.Outcome.next (State.doubtTest_clear _ fun hm => hclear.resolve_left (not_not_intro hm))

end Sys2Proof.Machine
end

section
/-! PROOFS. The ANNOUNCE of another station: the entry it sets, how an ACTIVE and a JOINING or DOUBTFUL station weighs it, and a
setting of the suspect mark held back for it (05 R85, R91, R94 to R97; log 38). -/

namespace Sys2Proof.Machine

/-! ### The entry an ANNOUNCE sets -/

/-- A station heard has an entry of silence age 0, whatever the roster held. -/
theorem rosterOf_refreshRoster_self (a : Nat) (l : List RosterEntry) :
    ∃ r, rosterOf a (refreshRoster a l) = some r ∧ r.address = a ∧ r.silence = 0 := by
  induction l with
  | nil => exact ⟨RosterEntry.unreported a, by simp [refreshRoster, rosterOf, RosterEntry.unreported], rfl, rfl⟩
  | cons q rest ih =>
    unfold refreshRoster
    split_ifs with hlt heq
    · exact ⟨RosterEntry.unreported a, by simp [rosterOf, RosterEntry.unreported], rfl, rfl⟩
    · exact ⟨{ q with silence := 0 }, by simp [rosterOf, heq], heq.symm, rfl⟩
    · obtain ⟨r, hr, hfields⟩ := ih
      exact ⟨r, by simpa [rosterOf, Ne.symm heq] using hr, hfields⟩

theorem rosterOf_announceRoster (a : Nat) (body : List Byte) (l : List RosterEntry) :
    rosterOf a (announceRoster a body l) = (rosterOf a l).map (fun r => r.announced body) := by
  induction l with
  | nil => rfl
  | cons q rest ih =>
    by_cases heq : q.address = a
    · simp [rosterOf, announceRoster, heq, announced_address_silence]
    · simpa [rosterOf, announceRoster, heq] using ih

theorem mem_refreshRoster_other {a : Nat} {l : List RosterEntry} {q : RosterEntry} (h : q.address ≠ a) :
    q ∈ refreshRoster a l ↔ q ∈ l := by
  have hnew : q ≠ RosterEntry.unreported a := fun he => h (congrArg RosterEntry.address he)
  induction l with
  | nil => simp [refreshRoster, hnew]
  | cons r rest ih =>
    unfold refreshRoster
    split_ifs with hlt heq
    · simp [hnew]
    · have hthis : q ≠ r := fun he => h ((congrArg RosterEntry.address he).trans heq.symm)
      have hfresh : q ≠ { r with silence := 0 } := fun he => h ((congrArg RosterEntry.address he).trans heq.symm)
      simp [hthis, hfresh]
    · simp [ih]

theorem mem_announceRoster_other {a : Nat} {body : List Byte} {l : List RosterEntry} {q : RosterEntry} (h : q.address ≠ a) :
    q ∈ announceRoster a body l ↔ q ∈ l := by
  simp only [announceRoster, List.mem_map]
  refine ⟨fun ⟨r, hr, he⟩ => ?_, fun hq => ⟨q, hq, if_neg h⟩⟩
  split_ifs at he with hr'
  · exact absurd (he ▸ (announced_address_silence r body).1.trans hr') h
  · exact he ▸ hr

/-- The state as the ANNOUNCE in hand is weighed: the frame finished with, its sender heard and the sender's entry set. -/
def State.announced (s : State) (e : RxEntry) : State :=
  { s with
    line := { s.line with rxQueue := s.line.rxQueue.tail }
    handler := { s.handler with inHand := s.line.rxQueue.head? }
    mode := { s.mode with roster := announceRoster e.sender e.body (refreshRoster e.sender s.mode.roster) } }

section
variable {s : State} {e : RxEntry} (hown : e.own = false) (hclass : classify s.line.address e = .announce)
include hown hclass

/-- The ANNOUNCE of another station is weighed as its sender's entry stood and stands. -/
theorem State.announceFrame_popFrame :
    ∃ old, rosterOf e.sender (refreshRoster e.sender s.mode.roster) = some old ∧ old.address = e.sender ∧ old.silence = 0 ∧
      rosterOf e.sender (s.announced e).mode.roster = some (old.announced e.body) ∧
      (s.popFrame e).announceFrame e = (s.announced e).weighAnnounce old.reported (old.announced e.body) := by
  obtain ⟨old, hold, haddress, hsilence⟩ := rosterOf_refreshRoster_self e.sender s.mode.roster
  have hnew : rosterOf e.sender (announceRoster e.sender e.body (refreshRoster e.sender s.mode.roster)) =
      some (old.announced e.body) := by
    rw [rosterOf_announceRoster, hold]
    rfl
  have hpop : (s.popFrame e).mode.roster = refreshRoster e.sender s.mode.roster := by
    simp [State.popFrame, hown, hclass, FrameClass.rejected]
  have hset : { s.popFrame e with mode := { (s.popFrame e).mode with
      roster := announceRoster e.sender e.body (s.popFrame e).mode.roster } } = s.announced e := by
    rw [hpop]
    rfl
  refine ⟨old, hold, haddress, hsilence, hnew, ?_⟩
  unfold State.announceFrame
  dsimp only
  rw [hset, hpop, hold, hnew]

end

/-! ### The suspect mark released (05 R94) -/

/-- A held setting made where nothing acts on it: the mark alone is set. -/
def State.markReleased (s : State) : State :=
  { s with mode := { s.mode with suspect := s.mode.suspect || s.mode.suspectHeld, suspectHeld := false } }

/-- No section is LIVE in a sync, and an ACTIVE station has a lower ACTIVE peer: then a setting of the mark moves nothing else. -/
theorem State.releaseSuspect_markReleased (s : State) (hsync : (s.syncing && s.share.anyLive) = false)
    (hpeer : s.active = true → s.lowerActive = true) : s.releaseSuspect = s.markReleased := by
  cases hheld : s.mode.suspectHeld with
  | false =>
    rw [s.releaseSuspect_unheld hheld, State.markReleased, hheld, Bool.or_false, ← hheld]
  | true =>
    have hdoubt : ¬ (s.active && !s.lowerActive) = true := by
      cases ha : s.active
      · simp
      · simp [hpeer ha]
    have hnosync : ¬ (s.syncing && s.share.anyLive) = true := by simp [hsync]
    have hmarked : s.unheld.setSuspect = marked s.unheld := by
      rw [State.setSuspect_eq]
      exact (if_neg hnosync).trans (if_neg hdoubt)
    rw [s.releaseSuspect_held hheld, hmarked, State.markReleased, hheld, Bool.or_true]
    rfl

/-- The mark released is nothing that DOUBTFUL is entered with. -/
theorem Doubts.markReleased {s t : State} (h : Doubts s t) : Doubts s t.markReleased := h

theorem State.releaseSuspect_enterDoubtful (s : State) :
    s.enterDoubtful.releaseSuspect = s.enterDoubtful.markReleased :=
  s.enterDoubtful.releaseSuspect_markReleased rfl (fun h => by cases h)

/-! ### MUTED (05 R97, R98) -/

/-- What MUTED is entered with (05 R82, R97, R98). -/
def State.MutedByConflict (t : State) : Prop :=
  t.mode.mode = .muted ∧ t.share = ⟨none, 0⟩ ∧ t.notice.flags.getLsbD 3 = true ∧ t.tx.holds (· == .notice) = false ∧
    t.driven.chillValve = false ∧ t.driven.heater = false ∧ t.driven.gasValve = false

/-- The mark released is nothing that MUTED is entered with. -/
theorem State.MutedByConflict.markReleased {t : State} (h : t.MutedByConflict) : t.markReleased.MutedByConflict := h

theorem State.driven_shared_closed {s : State} (h : s.mode.mode ≠ .active) :
    s.driven.chillValve = false ∧ s.driven.heater = false ∧ s.driven.gasValve = false := by
  obtain ⟨hchill, hheat, hgas⟩ := s.driven_shared
  have hclosed : ∀ x, ¬ s.permitted x = true := fun x => by simp [s.permitted_of_not_active h x]
  exact ⟨Bool.eq_false_iff.mpr fun ho => hclosed _ (hchill ho).2, Bool.eq_false_iff.mpr fun ho => hclosed _ (hheat ho).2,
    Bool.eq_false_iff.mpr fun ho => hclosed _ (hgas ho).2⟩

section
variable (s : State)

/-- MUTED sends no NOTICE, so that CONFIG-CONFLICT asks for none. -/
theorem State.enterMuted_tx : s.enterMuted.tx = s.giveUp.tx.askAnnounce.withdraw (· == .notice) := by
  simp [State.enterMuted, State.raise, State.enterMode, State.announceRequest, Mode.sendsNotices]

theorem State.enterMuted_mutedByConflict : s.enterMuted.MutedByConflict := by
  have hmode : s.enterMuted.mode.mode = .muted := rfl
  refine ⟨hmode, s.giveUp_share, ?_, ?_, State.driven_shared_closed (by rw [hmode]; decide)⟩
  · have hnotice : s.enterMuted.notice = s.notice.raised Flag.configConflict.mask := by simp [State.enterMuted]
    rw [hnotice, Notice.raised_flags]
    simp [Flag.mask, Flag.bit]
  · rw [s.enterMuted_tx]
    exact Tx.holds_withdraw_self _ _

theorem State.enterMuted_releaseSuspect : s.enterMuted.releaseSuspect = s.enterMuted.markReleased :=
  s.enterMuted.releaseSuspect_markReleased rfl (fun h => by cases h)

/-- MUTED withdraws the NOTICE and asks for an ANNOUNCE; of another frame it holds what the table given up left. -/
theorem State.enterMuted_holds (q : TxFrame → Bool) (hannounce : q .announce = false) (hnotice : q .notice = false) :
    s.enterMuted.tx.holds q = s.giveUp.tx.holds q := by
  rw [s.enterMuted_tx, Tx.holds_withdraw_other, Tx.askAnnounce, Tx.holds_request_other _ _ _ _ hannounce]
  intro f hf
  cases f <;> simp_all

theorem State.giveUp_active (h : s.active = true) : s.giveUp = s.leaveActive Share.discarded := if_pos h

theorem State.giveUp_inactive (h : s.active = false) : s.giveUp = s.abandonSync := if_neg (by simp [h])

theorem State.enterMuted_holds_yieldAll (h : s.active = true) : s.enterMuted.tx.holds (· == .yieldAll) = true := by
  rw [s.enterMuted_holds _ rfl rfl, s.giveUp_active h]
  simp [State.leaveActive, Tx.putYieldAll, Tx.replace]

theorem State.enterMuted_abandons (h : s.active = false) :
    s.enterMuted.mode.sync = ⟨.noSync, 0, false, 0, 0⟩ ∧ s.enterMuted.tx.holds (· == .syncAsk) = false ∧
      s.enterMuted.tx.holds (· == .yieldAll) = s.tx.holds (· == .yieldAll) := by
  refine ⟨?_, ?_, ?_⟩
  · change s.giveUp.mode.sync = _
    rw [s.giveUp_inactive h]
    rfl
  · rw [s.enterMuted_holds _ rfl rfl, s.giveUp_inactive h]
    exact Tx.holds_withdraw_self _ _
  · rw [s.enterMuted_holds _ rfl rfl, s.giveUp_inactive h]
    refine Tx.holds_withdraw_other _ _ _ fun f hf => ?_
    cases f <;> simp_all

end

end Sys2Proof.Machine
end

section
/-! PROOFS. The ANNOUNCE of an ACTIVE peer weighed, and the doubt that follows a peer's leaving (05 R91, R94 to R97; log 38). -/

namespace Sys2Proof.Machine

/-! ### What weighing comes to (05 R91, R95 to R97) -/

section
variable {s : State} {r : RosterEntry} {before : Option Nat}

theorem State.weighAnnounce_peer (hactive : s.mode.mode = .active) (hbay : IsBay r.address) (hlower : r.address < s.line.address)
    (hreports : r.reported = some 4) : s.weighAnnounce before r = s.compare r := by
  rw [State.weighAnnounce, if_pos (s.active_iff.mpr hactive), if_pos (by simp [isKeg, reportsActive, hbay, hlower, hreports])]

/-- The sender no longer reports ACTIVE, or reports a mode for the first time. -/
theorem State.weighAnnounce_moved (hactive : s.mode.mode = .active) (hreports : r.reported ≠ some 4)
    (hmoved : r.reported ≠ before) : s.weighAnnounce before r = s.doubtTest := by
  rw [State.weighAnnounce, if_pos (s.active_iff.mpr hactive), if_neg (by simp [reportsActive, hreports]), if_pos hmoved]

theorem State.weighAnnounce_sync (hsync : s.mode.mode = .joining ∨ s.mode.mode = .doubtful) (hbay : IsBay r.address)
    (hreports : r.reported = some 4) : s.weighAnnounce before r = s.heardActive r := by
  have hinactive : ¬ s.active = true := fun h => by
    rcases hsync with hm | hm <;> simp [s.active_iff.mp h] at hm
  rw [State.weighAnnounce, if_neg hinactive,
    if_pos (by simp [s.syncing_iff.mpr hsync, isKeg, reportsActive, hbay, hreports])]

end

/-! ### The row of an ANNOUNCE in hand -/

section
variable {s : State} {e : RxEntry} {m p g k1 k0 d1 d0 c1 c0 n : Byte} (hhand : FrameInHand s e 0x0A 3)
  (hbody : e.body = [m, p, g, k1, k0, d1, d0, c1, c0, n])
include hhand hbody

theorem classify_announce : classify s.line.address e = .announce := by
  obtain ⟨-, -, hkind, hurgency, hlow, hhigh, hsender⟩ := hhand
  exact classify_of _ e .announce hkind hurgency hlow hhigh hsender (by rw [hbody]; rfl) rfl

/-- The entry the ANNOUNCE of another station sets, and its weighing. -/
theorem State.announceFrame_weighed (hown : e.own = false) :
    ∃ old new, rosterOf e.sender (refreshRoster e.sender s.mode.roster) = some old ∧
      rosterOf e.sender (s.announced e).mode.roster = some new ∧
      new = ⟨e.sender, some (m.toNat % 16), join16 k1 k0, join16 d1 d0, join16 c1 c0, 0⟩ ∧
      (s.popFrame e).announceFrame e = (s.announced e).weighAnnounce old.reported new := by
  obtain ⟨old, hold, haddress, hsilence, hnew, hframe⟩ :=
    State.announceFrame_popFrame hown (classify_announce hhand hbody)
  refine ⟨old, old.announced e.body, hold, hnew, ?_, hframe⟩
  rw [hbody, ← haddress, ← hsilence]
  rfl

/-- The row: the weighing, and then the setting of the mark that was held back for it. -/
theorem exec_announce : exec .announce s = .next ((s.popFrame e).announceFrame e).releaseSuspect :=
  takeFrame_inHand .announce hhand (by rw [hbody]; rfl) rfl rfl

end

/-! ### The three outcomes of a comparison (05 R95) -/

/-- A sender entered as an ACTIVE keg station of a lower address is a lower ACTIVE peer. -/
theorem State.lowerActive_of_rosterOf {s : State} {r : RosterEntry} (hr : rosterOf r.address s.mode.roster = some r)
    (hbay : IsBay r.address) (hlower : r.address < s.line.address) (hreports : r.reported = some 4) : s.lowerActive = true :=
  s.lowerActive_iff.mpr ⟨r, List.mem_of_find?_eq_some hr, hbay, hlower, hreports⟩

/-- The suspect mark cleared. -/
def State.markCleared (s : State) : State := { s with mode := { s.mode with suspect := false } }

theorem State.compare_equal {s : State} {r : RosterEntry} (hconfig : r.configDigest = s.mode.configDigest)
    (hcount : r.changeCount = s.share.changeCount) (hdigest : r.digest = s.share.digest) :
    s.compare r = s.markCleared := by
  rw [State.compare, if_neg (not_not_intro hconfig), if_neg (by simp [hcount, hdigest])]
  rfl

/-- An equal comparison clears the mark; a held setting then sets it again, the peer being there. -/
theorem State.compare_equal_releaseSuspect {s : State} {r : RosterEntry} (hconfig : r.configDigest = s.mode.configDigest)
    (hcount : r.changeCount = s.share.changeCount) (hdigest : r.digest = s.share.digest) (hactive : s.mode.mode = .active)
    (hpeer : s.lowerActive = true) :
    (s.compare r).releaseSuspect =
      { s with mode := { s.mode with suspect := s.mode.suspectHeld, suspectHeld := false } } := by
  have hnosync : s.markCleared.syncing = false := by simp [State.syncing, State.markCleared, hactive]
  rw [State.compare_equal hconfig hcount hdigest,
    s.markCleared.releaseSuspect_markReleased (by rw [hnosync]; rfl) fun _ => hpeer]
  simp [State.markReleased, State.markCleared]

theorem State.heardActive_equal {s : State} {r : RosterEntry} (hconfig : r.configDigest = s.mode.configDigest) :
    s.heardActive r = if s.mode.sync.stage = .resting then s.restEnds else s :=
  if_neg (not_not_intro hconfig)

theorem Tx.askSync_eq (tx : Tx) :
    tx.askSync = if tx.holds (· == .syncAsk) = false then tx.enqueue .syncAsk else tx := by
  rw [Tx.askSync, Tx.request]
  cases tx.holds (· == .syncAsk) <;> rfl

/-- Settles O28: an ACTIVE station compares the entry, a syncing one hears it, and the held setting follows. -/
theorem announceOfActivePeerIsWeighed : Obligations.AnnounceOfActivePeerIsWeighed := by
  intro s e m p g k1 k0 d1 d0 c1 c0 n hhand hbody hbay hsender hother hmode hown
  obtain ⟨old, new, -, hroster, hnew, hframe⟩ := State.announceFrame_weighed hhand hbody hown
  have hexec := exec_announce hhand hbody
  rw [hframe] at hexec
  have haddress : new.address = e.sender := by rw [hnew]
  have hreports : new.reported = some 4 := by rw [hnew, hmode]
  have hconfig : new.configDigest = join16 c1 c0 := by rw [hnew]
  have hcount : new.changeCount = join16 k1 k0 := by rw [hnew]
  have hdigest : new.digest = join16 d1 d0 := by rw [hnew]
  have hnewbay : IsBay new.address := haddress ▸ hsender
  refine ⟨fun hactive hlower => ?_, fun hsync hconflict => ?_, fun hsync hequal hunheld => ?_⟩
  · have hnewlower : new.address < s.line.address := haddress ▸ hlower
    refine ⟨_, hexec, ⟨new, ?_, by rw [hnew]; exact ⟨congrArg some hmode, rfl, rfl, rfl, rfl⟩⟩, ?_⟩
    · rw [(State.releaseSuspect_sameRoster _).1, (State.weighAnnounce_sameRoster _ _ _).1]
      exact hroster
    rw [State.weighAnnounce_peer (s := s.announced e) hactive hnewbay hnewlower hreports]
    split_ifs with hconflict hdiffer
    · have hmuted : (s.announced e).compare new = (s.announced e).enterMuted := if_pos (hconfig ▸ hconflict)
      rw [hmuted, State.enterMuted_releaseSuspect]
      exact ⟨(s.announced e).enterMuted_mutedByConflict.markReleased,
        State.enterMuted_holds_yieldAll (s.announced e) ((State.active_iff _).mpr hactive)⟩
    · have hdoubtful : (s.announced e).compare new = (s.announced e).enterDoubtful := by
        rw [State.compare, hconfig, hcount, hdigest]
        exact (if_neg hconflict).trans (if_pos hdiffer)
      rw [hdoubtful, State.releaseSuspect_enterDoubtful]
      exact Doubts.markReleased (State.enterDoubtful_doubts (s.announced e))
    · obtain ⟨hsamecount, hsamedigest⟩ := not_or.mp hdiffer
      have hpeer : (s.announced e).lowerActive = true :=
        State.lowerActive_of_rosterOf (haddress ▸ hroster) hnewbay hnewlower hreports
      rw [State.compare_equal_releaseSuspect (s := s.announced e) (hconfig.trans (not_not.mp hconflict))
        (hcount.trans (not_not.mp hsamecount)) (hdigest.trans (not_not.mp hsamedigest)) hactive hpeer]
      rfl
  · have hinactive : (s.announced e).active = false := by
      rcases hsync with h | h <;> simp [State.active, State.announced, h]
    have hmuted : (s.announced e).heardActive new = (s.announced e).enterMuted := if_pos (hconfig ▸ hconflict)
    refine ⟨_, hexec, ?_⟩
    rw [State.weighAnnounce_sync (s := s.announced e) hsync hnewbay hreports, hmuted, State.enterMuted_releaseSuspect]
    exact ⟨(s.announced e).enterMuted_mutedByConflict.markReleased, State.enterMuted_abandons (s.announced e) hinactive⟩
  · refine ⟨_, hexec, ?_⟩
    rw [State.weighAnnounce_sync (s := s.announced e) hsync hnewbay hreports,
      State.heardActive_equal (s := s.announced e) (hconfig.trans hequal)]
    by_cases hresting : s.mode.sync.stage = .resting
    · have htx : (if s.mode.sync.stage = .resting ∧ s.tx.holds (· == .syncAsk) = false then s.tx.enqueue .syncAsk
          else s.tx) = s.tx.askSync := by
        simp only [Tx.askSync_eq, hresting, true_and]
      have hends : (if (s.announced e).mode.sync.stage = .resting then (s.announced e).restEnds else s.announced e) =
        (s.announced e).restEnds := if_pos hresting
      rw [hends, State.releaseSuspect_unheld (s.announced e).restEnds hunheld, htx, if_pos hresting]
      rfl
    · have hstands : (if (s.announced e).mode.sync.stage = .resting then (s.announced e).restEnds else s.announced e) =
        s.announced e := if_neg hresting
      rw [hstands, State.releaseSuspect_unheld (s.announced e) hunheld, if_neg fun h => hresting h.1, if_neg hresting]
      rfl

end Sys2Proof.Machine
end

section
/-! PROOFS. The suspect mark of an ACTIVE station as its lower ACTIVE peers leave the roster or report another mode, and a setting
of it while an ANNOUNCE that compares equal is in hand (05 R94, R96; log 38). -/

namespace Sys2Proof.Machine

/-! ### The doubt test (05 R96) -/

section
variable {s : State}

theorem State.lowerActive_eq_false (h : ¬ HasLowerActive s.line.address s.mode.roster) : s.lowerActive = false :=
  Bool.eq_false_iff.mpr fun hl => h (s.lowerActive_iff.mp hl)

theorem State.doubtTest_unpeered (hactive : s.mode.mode = .active) (hsuspect : s.mode.suspect = true)
    (halone : ¬ HasLowerActive s.line.address s.mode.roster) : s.doubtTest = s.enterDoubtful :=
  if_pos (by rw [s.active_iff.mpr hactive, hsuspect, State.lowerActive_eq_false halone]; rfl)

theorem State.doubtTest_peered (hpeer : HasLowerActive s.line.address s.mode.roster) : s.doubtTest = s :=
  if_neg (by simp [s.lowerActive_iff.mpr hpeer])

end

/-- An ACTIVE peer that has gone over to another mode is one no more; the others are those they were. -/
theorem hasLowerActive_announceRoster {own a : Nat} {l : List RosterEntry} {body : List Byte} {reported : Nat}
    (hbody : ∀ r : RosterEntry, (r.announced body).reported = some reported) (hmode : reported ≠ 4) :
    HasLowerActive own (announceRoster a body (refreshRoster a l)) ↔ HasLowerActive own (l.filter (fun q => q.address != a)) := by
  refine exists_congr fun r => ?_
  by_cases hr : r.address = a
  · refine iff_of_false (fun ⟨hmem, _, _, hactive⟩ => ?_) (fun ⟨hmem, _⟩ => ?_)
    · obtain ⟨q, -, hq⟩ := List.mem_map.mp hmem
      split_ifs at hq with hqa
      · rw [← hq, hbody q] at hactive
        exact hmode (Option.some.inj hactive)
      · exact hqa (hq ▸ hr)
    · simp [hr] at hmem
  · rw [mem_announceRoster_other hr, mem_refreshRoster_other hr]
    simp [hr]

/-- Processing an ANNOUNCE of a lower ACTIVE peer that compares equal clears the mark, so that a setting of it waits (log 38). -/
theorem State.handClears_of_equal {s : State} {e : RxEntry} {m p g k1 k0 d1 d0 c1 c0 n : Byte} (hhand : FrameInHand s e 0x0A 3)
    (hbody : e.body = [m, p, g, k1, k0, d1, d0, c1, c0, n]) (hown : e.own = false) (hsender : IsBay e.sender)
    (hlower : e.sender < s.line.address) (hmode : m.toNat % 16 = 4) (hactive : s.mode.mode = .active)
    (hconfig : join16 c1 c0 = s.mode.configDigest) (hcount : join16 k1 k0 = s.share.changeCount)
    (hdigest : join16 d1 d0 = s.share.digest) : s.handClears = true := by
  obtain ⟨old, new, -, -, hnew, hframe⟩ := State.announceFrame_weighed (s := marked s) hhand hbody hown
  have hcompared : ((marked s).popFrame e).announceFrame e = ((marked s).announced e).markCleared := by
    subst hnew
    rw [hframe, State.weighAnnounce_peer (s := (marked s).announced e) hactive hsender hlower (congrArg some hmode)]
    exact State.compare_equal hconfig hcount hdigest
  have hinHand : s.handler.inHand = some e := hhand.2.1
  unfold State.handClears
  simp only [hinHand, classify_announce hhand hbody, hcompared, State.markCleared, Bool.not_false]

theorem State.lineSuspect_held {s : State} (h : s.handClears = true) :
    s.lineSuspect = { s with mode := { s.mode with suspectHeld := true } } := if_pos h

/-- A send fault of a withdrawn frame, but for the setting of the mark (01 R15). -/
def State.withdrawnFault (s : State) (bit : Nat) : State :=
  { s with
    line := { s.line with
      round := if bit = 0 then s.line.round else none, sendFaults := min (s.line.sendFaults + 1) 255 }
    tx := { s.tx with inFlight := none } }

/-- Settles O29: the doubt test after a removal and after an ANNOUNCE, and the line interface's setting held back. -/
theorem suspectMarkSettlesWithTheRoster : Obligations.SuspectMarkSettlesWithTheRoster := by
  refine ⟨fun s a r hrun hr ha hage hactive => ?_, fun s e m p g k1 k0 d1 d0 c1 c0 n r hhand hbody hown _ hlaw hactive hsuspect
    hold hmoved hmode => ?_, fun s e m p g k1 k0 d1 d0 c1 c0 n f bit hhand hbody hown hsender hlower _ hmode hactive hconfig
    hcount hdigest hflight hwithdrawn hlevel => ?_⟩
  · have hexec : exec (.rosterEntryRemoved a) s = .next (s.removeSilent a) := whileRunning_on s _ hrun
    rw [hexec, s.removeSilent_silent hr ha hage]
    dsimp only
    refine ⟨fun hsuspect halone => ⟨_, congrArg Host.Outcome.next (State.doubtTest_unpeered hactive hsuspect halone), hsuspect,
      rfl, State.enterDoubtful_doubts _⟩, fun hstays => congrArg Host.Outcome.next ?_⟩
    rcases hstays with hclear | hpeer
    · exact State.doubtTest_clear _ fun _ => hclear
    · exact State.doubtTest_peered hpeer
  · obtain ⟨old, new, hrefreshed, -, hnew, hframe⟩ := State.announceFrame_weighed hhand hbody hown
    obtain rfl : old = { r with silence := 0 } := Option.some.inj
      (hrefreshed.symm.trans (rosterOf_refreshRoster_known _ _ _ (rosterLaw_ascending s hlaw) hold))
    have hpeers : HasLowerActive s.line.address (s.announced e).mode.roster ↔
        HasLowerActive s.line.address (s.mode.roster.filter (fun q => q.address != e.sender)) :=
      hasLowerActive_announceRoster (fun q => by rw [hbody]; rfl) hmode
    have hweighed : (s.popFrame e).announceFrame e = (s.announced e).doubtTest := by
      subst hnew
      rw [hframe]
      exact State.weighAnnounce_moved hactive (fun h => hmode (Option.some.inj h)) (Ne.symm hmoved)
    have hexec := exec_announce hhand hbody
    rw [hweighed] at hexec
    have hset : ∀ u : State, u.mode.suspect = true → u.markReleased.mode.suspect = true := fun u hu => by
      simp [State.markReleased, hu]
    refine ⟨fun halone => ⟨_, hexec, ?_⟩, fun hpeer => ⟨_, hexec, ?_⟩⟩
    · rw [State.doubtTest_unpeered (s := s.announced e) hactive hsuspect (hpeers.not.mpr halone),
        State.releaseSuspect_enterDoubtful]
      exact ⟨hset _ hsuspect, Doubts.markReleased (State.enterDoubtful_doubts (s.announced e))⟩
    · have hheld := hpeers.mpr hpeer
      have hnosync : (s.announced e).syncing = false := by simp [State.syncing, State.announced, hactive]
      rw [State.doubtTest_peered (s := s.announced e) hheld, (s.announced e).releaseSuspect_markReleased
        (by rw [hnosync]; rfl) fun _ => (State.lowerActive_iff _).mpr hheld]
      exact ⟨hactive, hset _ hsuspect, rfl⟩
  · have hbit : faultBit f bit = true := by simp [faultBit, InFlight.level, hlevel]
    have hrun : s.power = .running := hhand.1
    rw [exec_sendFault s f bit hrun hflight hbit, Tx.returned_eq s.tx f hflight, Line.faulted_eq, hwithdrawn, if_pos rfl]
    have hclears : (s.withdrawnFault bit).handClears = true :=
      State.handClears_of_equal (s := s.withdrawnFault bit) hhand hbody hown hsender hlower hmode hactive hconfig hcount hdigest
    exact congrArg Host.Outcome.next (State.lineSuspect_held hclears)

end Sys2Proof.Machine
end

section
/-! PROOFS. What an evaluation, a pause and a pour's end leave to the program, the queue and the outputs, as the plant and the mode
controller see them (06 R107, 07 R129, 08 R142, R146, 09 R162). -/

namespace Sys2Proof.Machine

/-! ### The program through a pause and an evaluation -/

/-- The program is as it was but for the relief openings of the current hour. -/
def SameButOpenings (p q : Program) : Prop := q = { p with currentHour := q.currentHour }

theorem SameButOpenings.refl (p : Program) : SameButOpenings p p := rfl

theorem SameButOpenings.trans {p q r : Program} (h1 : SameButOpenings p q) (h2 : SameButOpenings q r) : SameButOpenings p r := by
  rw [SameButOpenings] at h1 h2 ⊢
  rw [h2, h1]

theorem SameButOpenings.fields {p q : Program} (h : SameButOpenings p q) :
    q.state = p.state ∧ q.reasons = p.reasons ∧ q.current = p.current ∧ q.elapsed = p.elapsed := by
  rw [SameButOpenings] at h
  rw [h]
  exact ⟨rfl, rfl, rfl, rfl⟩

theorem SameButOpenings.pause {p q : Program} (h : SameButOpenings p q) (r : PauseReason) :
    SameButOpenings (p.pause r) (q.pause r) := by
  obtain ⟨hstate, hreasons, -, -⟩ := h.fields
  have hway : q.underWay = p.underWay := by simp only [Program.underWay, hstate]
  unfold Program.pause
  rw [hway]
  split_ifs
  · rw [SameButOpenings, hreasons]
    conv_lhs => rw [h]
  · exact h

theorem Program.pause_underWay {p : Program} (h : p.underWay = true) (r : PauseReason) :
    p.pause r = { p with state := .paused, reasons := p.reasons.add r } := if_pos h

theorem Program.pause_idle {p : Program} (h : p.underWay = false) (r : PauseReason) : p.pause r = p :=
  if_neg (by simp [h])

section
variable (s : State)

theorem State.pressureEval_openings : SameButOpenings s.program s.pressureEval.program := s.pressureEval_program

/-- A reason that changes nothing is one the program holds already, or one it does not take. -/
theorem State.pauseFor_program (r : PauseReason) : (s.pauseFor r).program = s.program.pause r := by
  unfold State.pauseFor
  split
  · simp
  · next h =>
    by_cases hway : s.program.underWay = true
    · exact (not_not.mp (not_and.mp h hway)).symm
    · exact (Program.pause_idle (by simpa using hway) r).symm

theorem State.endPour_openings (r : EndReason) : SameButOpenings s.program (s.endPour r).program := by
  unfold State.endPour
  split_ifs
  · exact State.pressureEval_openings _
  · exact .refl _

/-! ### The queue through an evaluation outside ACTIVE (04 R58, R60, 10 R177) -/

section
variable (hinactive : s.active = false)
include hinactive

theorem State.publish_tx_inactive (x : Resource) (n : Option Need) : (s.publish x n).tx = s.tx := by
  rw [State.publish, hinactive]
  exact (DemandTx.publish_inactive _ _ _).1

theorem State.publishThermal_tx_inactive : s.publishThermal.tx = s.tx := by
  unfold State.publishThermal
  split_ifs
  · rw [State.publish_tx_inactive _ (by simpa [State.active] using hinactive), s.publish_tx_inactive hinactive]
  · rw [State.publish_tx_inactive _ (by simpa [State.active] using hinactive), s.publish_tx_inactive hinactive]

theorem State.thermalEval_tx_inactive : s.thermalEval.tx = s.tx :=
  State.publishThermal_tx_inactive _ (by simpa [State.active] using hinactive)

theorem State.pauseFor_tx_inactive (r : PauseReason) : (s.pauseFor r).tx = s.tx := by
  unfold State.pauseFor
  split
  · exact State.thermalEval_tx_inactive _ (by simpa [State.active] using hinactive)
  · rfl

/-- An evaluation may ask for a NOTICE; every other place of the queue stands. -/
theorem State.pressureEval_holds_inactive (q : TxFrame → Bool) (hq : q .notice = false) :
    s.pressureEval.tx.holds q = s.tx.holds q := by
  unfold State.pressureEval State.pressureEvalFrom
  dsimp only
  rw [State.publish_tx_inactive _ (by simpa [State.active] using hinactive)]
  exact State.raise_holds_other _ _ q hq

theorem State.endPour_holds_inactive (r : EndReason) (q : TxFrame → Bool) (hq : q .notice = false) :
    (s.endPour r).tx.holds q = s.tx.holds q := by
  unfold State.endPour
  split_ifs
  · exact State.pressureEval_holds_inactive _ (by simpa [State.active] using hinactive) q hq
  · rfl

end

/-! ### The gas need and the pour outlets (08 R146, 09 R158, R162) -/

/-- Without KEG-PRESENT and COUPLED the gas need is absent. -/
theorem State.pressureEval_noKeg (h : s.kegReady = false) :
    s.pressureEval.pressure.gasNeed = none ∧ s.pressureEval.staged.gasValve = false := by
  have hneed : s.gasNeedNow (s.pressure.judged s.cfg.safetyLimit) = none := by
    unfold State.gasNeedNow State.gasAllowed
    rw [h]
    cases s.pressure.reading <;> simp
  simp [State.pressureEval, State.pressureEvalFrom, hneed]

theorem State.driven_gasValve_closed (h : s.staged.gasValve = false) : s.driven.gasValve = false :=
  Bool.eq_false_iff.mpr fun ho => Bool.false_ne_true (h.symm.trans (s.driven_shared.2.2 ho).1)

theorem State.driven_outlets_closed (h : s.pour.state ≠ .pouring) :
    s.driven.frontValve = false ∧ s.driven.fillValve = false := by
  have hclosed : ∀ o, ¬ s.pouringOn o = true := fun o ho => h ((s.pouringOn_iff o).mp ho).1
  exact ⟨Bool.eq_false_iff.mpr fun ho => hclosed _ (s.driven_outlets.1 ho),
    Bool.eq_false_iff.mpr fun ho => hclosed _ (s.driven_outlets.2 ho)⟩

/-! ### A keg lost (07 R129, 09 R162) -/

theorem State.kegLost_openings : SameButOpenings (s.program.pause .kegAbsent) s.kegLost.program := by
  rw [State.kegLost, State.pauseFor_program]
  exact (s.endPour_openings .kegLost).pause .kegAbsent

theorem State.kegLost_pour :
    s.kegLost.pour = if s.pour.state = .pouring then s.pour.ended .kegLost else s.pour := by
  have hpause : s.kegLost.pour = (s.endPour .kegLost).pour := by simp [State.kegLost]
  rw [hpause, State.endPour]
  split_ifs
  · simp
  · rfl

theorem State.kegLost_holds_inactive (hinactive : s.active = false) (q : TxFrame → Bool) (hq : q .notice = false) :
    s.kegLost.tx.holds q = s.tx.holds q := by
  rw [State.kegLost, State.pauseFor_tx_inactive _ (by simpa [State.active] using hinactive),
    s.endPour_holds_inactive hinactive _ q hq]

end

end Sys2Proof.Machine
end

section
/-! PROOFS. KEG-PRESENT settling alone: which change is taken, and what its deassertion and its assertion do in each mode (05 R83,
10 R170, R171). -/

namespace Sys2Proof.Machine

/-! ### One input settling (10 R170) -/

theorem Inputs.get_set_other (i : Inputs) (v : InputState) {x y : Input} (h : y ≠ x) : (i.set x v).get y = i.get y := by
  cases x <;> cases y <;> simp_all [Inputs.get, Inputs.set]

theorem Inputs.get_set_self (i : Inputs) (x : Input) (v : InputState) : (i.set x v).get x = v := by
  cases x <;> rfl

theorem State.settleAll_one {s : State} {x : Input} (h : (s.inputs.get x).settled ≠ some (s.inputs.get x).pin) :
    s.settleAll [x] = settledAt s x := by
  simp only [State.settleAll, settleInputs, List.foldl_cons, List.foldl_nil, InputState.settle, if_neg h]

theorem takenOf_eq_nothing {s t : State} {x : Input} (h : t.asserted x = s.asserted x) : takenOf s t x = .nothing := by
  rw [takenOf, h]
  split_ifs
  · rfl
  · cases s.asserted x <;> rfl

theorem takenOf_settledAt_other (s : State) {x y : Input} (h : y ≠ x) : takenOf s (settledAt s x) y = .nothing :=
  takenOf_eq_nothing (by simp only [State.asserted, Inputs.get_set_other _ _ h])

/-- An input settled reads as its pin does. -/
theorem State.asserted_settledAt (s : State) (x : Input) :
    (settledAt s x).asserted x = ((s.inputs.get x).pin == s.cfg.polarity.getLsbD (inputBit x)) := by
  rw [State.asserted, Inputs.get_set_self]

section
variable {s : State} {x : Input}

theorem takenOf_of_deasserts (h : Deasserts s x) :
    takenOf s (settledAt s x) x = .deassertion ∧ (settledAt s x).asserted x = false := by
  obtain ⟨-, hload, hasserted, hmoved⟩ := h
  have hcleared : (settledAt s x).asserted x = false := by
    rw [s.asserted_settledAt x]
    unfold State.asserted at hasserted
    split at hasserted
    · next level hlevel =>
      rw [← beq_iff_eq.mp hasserted]
      exact beq_eq_false_iff_ne.mpr fun he => hmoved (hlevel.trans (congrArg some he.symm))
    · cases hasserted
  exact ⟨by rw [takenOf, if_neg (not_not_intro hload), hasserted, hcleared], hcleared⟩

theorem takenOf_of_asserts (h : Asserts s x) : takenOf s (settledAt s x) x = .assertion := by
  obtain ⟨-, hload, hasserted, -, hpin⟩ := h
  rw [takenOf, if_neg (not_not_intro hload), hasserted, s.asserted_settledAt x, beq_iff_eq.mpr hpin]

end

/-- KEG-PRESENT settling alone: the change taken of it is all that is handed on. -/
theorem exec_inputSettled_kegPresent {s : State} (hrun : s.power = .running)
    (hmoved : (s.inputs.get .kegPresent).settled ≠ some (s.inputs.get .kegPresent).pin) :
    exec (.inputSettled [.kegPresent]) s =
      .next ((settledAt s .kegPresent).kegPresentTaken (takenOf s (settledAt s .kegPresent) .kegPresent)) := by
  have hother : ∀ y, y ≠ .kegPresent → takenOf s (settledAt s .kegPresent) y = .nothing :=
    fun y => takenOf_settledAt_other s
  have hnone : inputRequests s (settledAt s .kegPresent) = [] := by
    simp [inputRequests, hother .handle (by decide), hother .fillButton (by decide)]
  change execInputSettled [.kegPresent] s = _
  rw [execInputSettled, whileRunning_on _ _ hrun]
  dsimp only
  rw [State.settleAll_one hmoved, hnone, State.handOn]
  simp only [hother .coupled (by decide), hother .leak (by decide), hother .drip (by decide), hother .handle (by decide)]
  rfl

/-! ### The keg taken away (05 R83, the table after 10 R171) -/

/-- The keg lost and, from a bay with a table, VACANT entered. -/
def State.kegLifted (s : State) : State := if s.active || s.syncing then s.kegLost.enterVacant else s.kegLost

theorem State.kegPresentTaken_deassertion (s : State) : s.kegPresentTaken .deassertion = s.kegLifted.pressureEval := by
  have hmode : s.kegLost.mode = s.mode := by simp
  have hactive : s.kegLost.active = s.active := by simp only [State.active, hmode]
  have hsyncing : s.kegLost.syncing = s.syncing := by simp only [State.syncing, hmode]
  rw [State.kegLifted, State.kegPresentTaken, hactive, hsyncing]

section
variable (s : State)

theorem State.kegLifted_frame :
    s.kegLifted.keg = s.keg ∧ s.kegLifted.line = s.line ∧ s.kegLifted.orders = s.orders ∧ s.kegLifted.cfg = s.cfg ∧
      s.kegLifted.inputs = s.inputs ∧ s.kegLifted.pour = s.kegLost.pour ∧ s.kegLifted.program = s.kegLost.program := by
  unfold State.kegLifted
  split_ifs <;> simp

/-- With KEG-PRESENT read as deasserted the lift leaves what KegGone says, in every mode. -/
theorem State.kegLifted_kegGone (hgone : s.asserted .kegPresent = false) : KegGone s s.kegLifted.pressureEval := by
  obtain ⟨hkeg, hline, horders, hcfg, hinputs, hpour, hprogram⟩ := s.kegLifted_frame
  have hnoKeg : s.kegLifted.kegReady = false := by
    simp only [State.asserted] at hgone
    simp [State.kegReady, State.asserted, hcfg, hinputs, hgone]
  obtain ⟨hneed, hvalve⟩ := State.pressureEval_noKeg _ hnoKeg
  have hfields := (s.kegLost_openings.trans (hprogram ▸ s.kegLifted.pressureEval_openings)).fields
  have hended : s.kegLifted.pressureEval.pour = if s.pour.state = .pouring then s.pour.ended .kegLost else s.pour := by
    rw [← s.kegLost_pour, ← hpour]
    simp
  have hclosed : s.kegLifted.pressureEval.pour.state ≠ .pouring := by
    rw [hended]
    split_ifs with h
    · simp [Pour.ended]
    · exact h
  obtain ⟨hstate, hreasons, hcurrent, helapsed⟩ := hfields
  obtain ⟨hfront, hfill⟩ := State.driven_outlets_closed _ hclosed
  refine ⟨fun h => by rw [hended, if_pos h]; rfl, fun h => by rw [hended, if_neg h], fun h => ?_, fun h => ?_, ?_, ?_, hneed,
    State.driven_gasValve_closed _ hvalve, hfront, hfill, by simpa using hkeg, by simpa using hline, by simpa using horders⟩
  · rw [hstate, hreasons, Program.pause_underWay h]
    exact ⟨rfl, rfl⟩
  · rw [hstate, hreasons, Program.pause_idle h]
    exact ⟨rfl, rfl⟩
  · rw [hcurrent, Program.pause]
    split_ifs <;> rfl
  · rw [helapsed, Program.pause]
    split_ifs <;> rfl

/-! ### VACANT entered from a bay with a table (05 R82, R83) -/

theorem State.enterVacant_fields :
    s.enterVacant.mode.mode = .vacant ∧ s.enterVacant.mode.announceTimer = some 0 ∧
      s.enterVacant.mode.sync = s.giveUp.mode.sync ∧ s.enterVacant.share = ⟨none, 0⟩ ∧ s.enterVacant.lease = s.giveUp.lease := by
  simp [State.enterVacant, State.enterMode, State.announceRequest, Share.discarded]

/-- The evaluations in VACANT ask for no frame but a NOTICE, and VACANT itself for an ANNOUNCE. -/
theorem State.enterVacant_holds (q : TxFrame → Bool) (hannounce : q .announce = false) (hnotice : q .notice = false) :
    s.enterVacant.pressureEval.tx.holds q = s.giveUp.tx.holds q := by
  have hvacant : (s.giveUp.enterMode .vacant).active = false := rfl
  have hentered : s.enterVacant.active = false := by simp [State.active, s.enterVacant_fields.1]
  rw [s.enterVacant.pressureEval_holds_inactive hentered q hnotice, State.enterVacant, State.thermalEval_tx_inactive _ hvacant]
  exact Tx.holds_request_other _ _ _ _ hannounce

theorem State.leaveActive_holds (sh : Share) :
    (s.leaveActive sh).tx.holds (· == .yieldAll) = true ∧ (s.leaveActive sh).tx.holds TxFrame.ofActive = false :=
  ⟨by simp [State.leaveActive, Tx.putYieldAll, Tx.replace],
    Tx.holds_replace_false _ _ _ _ rfl (Tx.holds_withdraw_self _ _)⟩

/-- A keg put into a VACANT bay (05 R83, R87). -/
theorem State.kegPresentTaken_assertion :
    s.kegPresentTaken .assertion = (if s.mode.mode = .vacant then s.enterJoining else s).pressureEval := rfl

theorem State.enterJoining_ages : s.enterJoining.pressureEval.lease.ages = ⟨[], [], []⟩ := by
  have hlease : s.enterJoining.pressureEval.lease = (s.enterSync .joining).lease := by simp [State.enterJoining]
  rw [hlease]
  rfl

theorem State.enterJoining_begun : SyncBegun s.enterJoining.pressureEval ∧ s.enterJoining.pressureEval.mode.mode = .joining := by
  have hinactive : (s.enterSync .joining).active = false := rfl
  have hevaluated : s.enterJoining.active = false := by
    have : s.enterJoining.mode = (s.enterSync .joining).mode := by simp [State.enterJoining]
    simp [State.active, this]
  have hplaces : ∀ q : TxFrame → Bool, q .notice = false →
      s.enterJoining.pressureEval.tx.holds q = (s.enterSync .joining).tx.holds q := fun q hq => by
    rw [s.enterJoining.pressureEval_holds_inactive hevaluated q hq, State.enterJoining, State.thermalEval_tx_inactive _ hinactive]
  obtain ⟨hyield, hask⟩ := s.enterSync_holds .joining
  refine ⟨⟨?_, ?_, (hplaces _ rfl).trans hyield, (hplaces _ rfl).trans hask, ?_⟩, ?_⟩
  · have hshare : s.enterJoining.pressureEval.share = Share.cleared := by simp [State.enterJoining]
    rw [hshare]
    rfl
  all_goals simp [State.enterJoining, State.enterSync, State.enterMode, State.announceRequest, Sync.asking]

end

/-! ### The lift and the putting in -/

theorem exec_kegPresent_lifted {s : State} (h : Deasserts s .kegPresent) :
    exec (.inputSettled [.kegPresent]) s = .next (settledAt s .kegPresent).kegLifted.pressureEval ∧
      KegGone s (settledAt s .kegPresent).kegLifted.pressureEval := by
  obtain ⟨htaken, hgone⟩ := takenOf_of_deasserts h
  obtain ⟨hrun, -, -, hmoved⟩ := h
  refine ⟨?_, State.kegLifted_kegGone _ hgone⟩
  rw [exec_inputSettled_kegPresent hrun hmoved, htaken, State.kegPresentTaken_deassertion]

theorem exec_kegPresent_putIn {s : State} (h : Asserts s .kegPresent) :
    exec (.inputSettled [.kegPresent]) s =
      .next (if s.mode.mode = .vacant then (settledAt s .kegPresent).enterJoining else settledAt s .kegPresent).pressureEval := by
  have htaken := takenOf_of_asserts h
  obtain ⟨hrun, -, -, hmoved, -⟩ := h
  rw [exec_inputSettled_kegPresent hrun hmoved, htaken]
  rfl

section
variable {s : State}

/-- From an ACTIVE bay (05 R82, R83). -/
theorem State.kegLifted_active (hactive : s.mode.mode = .active) :
    let t := s.kegLifted.pressureEval
    t.mode.mode = .vacant ∧ t.share = ⟨none, 0⟩ ∧ t.lease = ⟨⟨[], [], []⟩, ⟨none, none, none⟩⟩ ∧
      t.tx.holds (· == .yieldAll) = true ∧ t.tx.holds TxFrame.ofActive = false := by
  have hleft : s.kegLost.giveUp = s.kegLost.leaveActive Share.discarded :=
    State.giveUp_active _ (by simp [State.active, hactive])
  have hlifted : s.kegLifted = s.kegLost.enterVacant := if_pos (by simp [s.active_iff.mpr hactive])
  obtain ⟨hmode, -, -, hshare, hlease⟩ := s.kegLost.enterVacant_fields
  obtain ⟨hyield, hnone⟩ := s.kegLost.leaveActive_holds Share.discarded
  rw [hlifted]
  refine ⟨by simpa using hmode, by simpa using hshare, ?_, ?_, ?_⟩
  · have hlease' : s.kegLost.enterVacant.pressureEval.lease = s.kegLost.enterVacant.lease := by simp
    rw [hlease', hlease, hleft]
    rfl
  · rw [State.enterVacant_holds _ _ rfl rfl, hleft, hyield]
  · rw [State.enterVacant_holds _ _ rfl rfl, hleft, hnone]

/-- From a JOINING or DOUBTFUL bay (05 R83; log 13). -/
theorem State.kegLifted_syncing (hsync : s.mode.mode = .joining ∨ s.mode.mode = .doubtful) :
    let t := s.kegLifted.pressureEval
    t.mode.mode = .vacant ∧ t.share = ⟨none, 0⟩ ∧ t.lease.ages = ⟨[], [], []⟩ ∧ t.mode.sync = ⟨.noSync, 0, false, 0, 0⟩ ∧
      t.mode.announceTimer = some 0 ∧ t.tx.holds (· == .syncAsk) = false ∧
      t.tx.holds (· == .yieldAll) = s.tx.holds (· == .yieldAll) ∧ t.driven.chillValve = false ∧ t.driven.heater = false := by
  have hinactive : s.active = false := by rcases hsync with h | h <;> simp [State.active, h]
  have hleft : s.kegLost.giveUp = s.kegLost.abandonSync :=
    State.giveUp_inactive _ (by simpa [State.active] using hinactive)
  have hlifted : s.kegLifted = s.kegLost.enterVacant := if_pos (by simp [s.syncing_iff.mpr hsync])
  obtain ⟨hmode, htimer, hprogress, hshare, hlease⟩ := s.kegLost.enterVacant_fields
  have hvacant : s.kegLost.enterVacant.pressureEval.mode.mode = .vacant := by simpa using hmode
  obtain ⟨hchill, hheat, -⟩ := State.driven_shared_closed (by rw [hvacant]; decide)
  rw [hlifted]
  refine ⟨hvacant, by simpa using hshare, ?_, ?_, by simpa using htimer, ?_, ?_, hchill, hheat⟩
  · have hlease' : s.kegLost.enterVacant.pressureEval.lease = s.kegLost.enterVacant.lease := by simp
    rw [hlease', hlease, hleft]
    rfl
  · have hmode' : s.kegLost.enterVacant.pressureEval.mode = s.kegLost.enterVacant.mode := by simp
    rw [hmode', hprogress, hleft]
    rfl
  · rw [State.enterVacant_holds _ _ rfl rfl, hleft]
    exact Tx.holds_withdraw_self _ _
  · rw [State.enterVacant_holds _ _ rfl rfl, hleft, ← s.kegLost_holds_inactive hinactive (· == .yieldAll) rfl]
    refine Tx.holds_withdraw_other _ _ _ fun f hf => ?_
    rw [beq_iff_eq.mp hf]
    rfl

/-- In a mode without a table the lift leaves mode and table. -/
theorem State.kegLifted_bare (hbare : s.mode.mode = .starting ∨ s.mode.mode = .vacant ∨ s.mode.mode = .muted) :
    s.kegLifted = s.kegLost :=
  if_neg (by rcases hbare with h | h | h <;> simp [State.active, State.syncing, h])

end

/-- Settles O13: the one change handed on, in each mode. -/
theorem kegLiftLeavesThePlant : Obligations.KegLiftLeavesThePlant := by
  refine ⟨fun s hrun hload hactive hasserted hmoved => ?_, fun s => ⟨fun hlift hsync => ?_, fun hlift hbare => ?_,
    fun hput hvacant => ?_, fun hput hmode => ?_⟩⟩
  · obtain ⟨hexec, hpour, hnopour, hunderWay, hidle, hcurrent, helapsed, hneed, hgas, hfront, hfill, hkeg, hline, horders⟩ :=
      exec_kegPresent_lifted ⟨hrun, hload, hasserted, hmoved⟩
    obtain ⟨hmode, hshare, hlease, hyield, hnone⟩ := State.kegLifted_active (s := settledAt s .kegPresent) hactive
    obtain ⟨hchill, hheat, -⟩ := State.driven_shared_closed (by rw [hmode]; decide)
    refine ⟨_, hexec, hmode, hshare, hlease, hyield, hnone, hneed, hchill, hheat, hgas, fun h => ?_, hnopour, fun h => ?_,
      fun h => (hidle h).1, hkeg, hline, horders⟩
    · rw [hpour h]
      exact ⟨rfl, hfront, hfill, rfl⟩
    · obtain ⟨hstate, hreasons⟩ := hunderWay h
      exact ⟨hstate, by rw [hreasons], hcurrent, helapsed⟩
  · obtain ⟨hexec, hgone⟩ := exec_kegPresent_lifted hlift
    exact ⟨_, hexec, hgone, State.kegLifted_syncing (s := settledAt s .kegPresent) hsync⟩
  · obtain ⟨hexec, hgone⟩ := exec_kegPresent_lifted hlift
    refine ⟨_, hexec, hgone, ?_⟩
    rw [State.kegLifted_bare (s := settledAt s .kegPresent) hbare]
    simp
  · have hexec := exec_kegPresent_putIn hput
    rw [if_pos hvacant] at hexec
    obtain ⟨hbegun, hmode⟩ := (settledAt s .kegPresent).enterJoining_begun
    obtain ⟨hstate, hreasons, -, -⟩ := ((settledAt s .kegPresent).enterJoining.pressureEval_openings).fields
    exact ⟨_, hexec, hmode, hbegun, State.enterJoining_ages _, by simp, by simp,
      by simpa using hstate, by simpa using hreasons, by simp, by simp⟩
  · rw [exec_kegPresent_putIn hput, if_neg hmode]

end Sys2Proof.Machine
end

section
/-! PROOFS. The end of the configuration load: the working copy, the inputs judged under the loaded polarity, and STARTING left
(05 R79, R80, 07 R130, 08 R148, 10 R170, R172, R177). -/

namespace Sys2Proof.Machine

/-! ### Flags and the safety state through an evaluation (08 R141, 10 R176) -/

/-- A flag other than OVER-PRESSURE stands through an evaluation of the pressure controller. -/
theorem State.pressureEval_flag (s : State) {i : Nat} (hi : i ≠ 1) :
    s.pressureEval.notice.flags.getLsbD i = s.notice.flags.getLsbD i ∧
      s.pressureEval.notice.seen.getLsbD i = s.notice.seen.getLsbD i := by
  have hmask : ∀ b, (flagIf b .overPressure).getLsbD i = false := by
    intro b
    cases b <;> simp [flagIf, Flag.mask, Flag.bit, hi.symm]
  rw [State.pressureEval, State.pressureEvalFrom_notice, Notice.raised_flags, Notice.raised_seen, hmask, Bool.or_false,
    Bool.not_false, Bool.and_true]
  exact ⟨rfl, rfl⟩

theorem State.pressureEval_pressure (s : State) :
    s.pressureEval.pressure = { s.pressure with
      tripped := s.pressure.judged s.cfg.safetyLimit, gasNeed := s.gasNeedNow (s.pressure.judged s.cfg.safetyLimit) } := by
  simp [State.pressureEval, State.pressureEvalFrom]

/-- A second judgement of the same sample against the same limit stands by the first. -/
theorem Pressure.judged_again (p : Pressure) (limit : Nat) (leak : Bool) (need : Option Need) :
    Pressure.judged { p with tripped := p.judged limit, leak := leak, gasNeed := need } limit = p.judged limit := by
  have hreading : ∀ b, Pressure.reading { p with tripped := b, leak := leak, gasNeed := need } = p.reading := fun _ => rfl
  unfold Pressure.judged
  rw [hreading]
  cases p.reading with
  | none => rfl
  | some v =>
    dsimp only
    split_ifs <;> rfl

theorem Pressure.judged_of_sample {p : Pressure} {v : Int} (limit : Nat) (hgood : p.sensor = .good) (hv : p.sample = some v) :
    p.judged limit = if (limit : Int) ≤ v then true else if v ≤ (limit : Int) - 20 then false else p.tripped := by
  simp [Pressure.judged, Pressure.reading, hgood, hv]

/-- Under the leak lockout the gas need is absent (08 R146, R148). -/
theorem State.gasNeedNow_leak {s : State} (h : s.pressure.leak = true) (tripped : Bool) : s.gasNeedNow tripped = none := by
  unfold State.gasNeedNow State.gasAllowed
  rw [h]
  cases s.pressure.reading <;> simp

theorem State.driven_gasValve_leak {s : State} (h : s.pressure.leak = true) : s.driven.gasValve = false := by
  simp only [State.driven, h]
  split_ifs
  · rfl
  · simp

/-- The leak lockout set, before anything evaluates. -/
def State.leakLocked (s : State) : State := { s with pressure := { s.pressure with leak := true } }

theorem State.leakBegin_eq (s : State) : s.leakBegin = s.leakLocked.pressureEval.raise Flag.leak.mask := rfl

/-! ### In STARTING no frame is asked for (10 R177) -/

section
variable {s : State} (hstarting : s.mode.mode = .starting)
include hstarting

theorem State.inactive_of_starting : s.active = false := by simp [State.active, hstarting]

theorem State.raise_tx_starting (mask : Word) : (s.raise mask).tx = s.tx := by
  simp [State.raise, hstarting, Mode.sendsNotices]

theorem State.pressureEval_tx_starting : s.pressureEval.tx = s.tx := by
  unfold State.pressureEval State.pressureEvalFrom
  dsimp only
  rw [State.publish_tx_inactive _ (by simpa [State.active] using State.inactive_of_starting hstarting)]
  exact State.raise_tx_starting hstarting _

theorem State.leakBegin_tx_starting : s.leakBegin.tx = s.tx := by
  have hevaluated : s.leakLocked.pressureEval.mode.mode = .starting := by simp [State.leakLocked, hstarting]
  exact (State.raise_tx_starting hevaluated _).trans (State.pressureEval_tx_starting (s := s.leakLocked) hstarting)

end

/-! ### The inputs judged (07 R130, 08 R148, 10 R170, R172) -/

section
variable (s : State)

/-- A keg not in place or not coupled judged by the program unit. -/
def State.kegJudged : State := if s.kegReady then s else s.pauseFor .kegAbsent

/-- LEAK judged after it by the pressure controller. -/
def State.leakJudged : State := if s.asserted .leak then s.kegJudged.leakBegin else s.kegJudged

theorem State.judgeInputs_eq :
    s.judgeInputs = (s.leakJudged.raise (flagIf (s.asserted .drip) .dripFull)).pressureEval := rfl

theorem State.kegJudged_frame :
    s.kegJudged.cfg = s.cfg ∧ s.kegJudged.mode = s.mode ∧ s.kegJudged.notice = s.notice ∧ s.kegJudged.pressure = s.pressure := by
  unfold State.kegJudged
  split_ifs
  · exact ⟨rfl, rfl, rfl, rfl⟩
  · simp

theorem State.kegJudged_program :
    s.kegJudged.program = if s.kegReady then s.program else s.program.pause .kegAbsent := by
  unfold State.kegJudged
  split_ifs
  · rfl
  · exact s.pauseFor_program _

theorem State.leakBegin_openings : SameButOpenings s.program s.leakBegin.program :=
  s.leakLocked.pressureEval_openings

theorem State.judgeInputs_openings :
    SameButOpenings (if s.kegReady then s.program else s.program.pause .kegAbsent) s.judgeInputs.program := by
  have hleak : SameButOpenings s.kegJudged.program s.leakJudged.program := by
    unfold State.leakJudged
    split_ifs
    · exact s.kegJudged.leakBegin_openings
    · exact .refl _
  rw [← s.kegJudged_program]
  exact hleak.trans (State.pressureEval_openings (s.leakJudged.raise _))

theorem State.leakBegin_pressure :
    s.leakBegin.pressure = { s.pressure with
      leak := true, tripped := s.pressure.judged s.cfg.safetyLimit, gasNeed := none } := by
  rw [s.leakBegin_eq, State.raise_pressure, State.pressureEval_pressure, State.gasNeedNow_leak rfl]
  rfl

theorem State.leakJudged_pressure :
    s.leakJudged.pressure = if s.asserted .leak then
      { s.pressure with leak := true, tripped := s.pressure.judged s.cfg.safetyLimit, gasNeed := none } else s.pressure := by
  obtain ⟨hcfg, -, -, hpressure⟩ := s.kegJudged_frame
  unfold State.leakJudged
  split_ifs
  · rw [State.leakBegin_pressure, hcfg, hpressure]
  · exact hpressure

/-- The lockout, the safety state and the gas need as the judging leaves them. -/
theorem State.judgeInputs_pressure :
    s.judgeInputs.pressure.leak = (s.pressure.leak || s.asserted .leak) ∧
      s.judgeInputs.pressure.tripped = s.pressure.judged s.cfg.safetyLimit ∧
      (s.asserted .leak = true → s.judgeInputs.pressure.gasNeed = none) := by
  have hcfg : s.leakJudged.cfg = s.cfg := by
    unfold State.leakJudged
    split_ifs <;> simp [s.kegJudged_frame.1]
  have hpressure := s.leakJudged_pressure
  rw [s.judgeInputs_eq, State.pressureEval_pressure]
  simp only [State.raise_pressure, State.raise_cfg, hcfg]
  cases hleak : s.asserted .leak with
  | false =>
    rw [hleak, if_neg Bool.false_ne_true] at hpressure
    rw [hpressure, Bool.or_false]
    exact ⟨rfl, rfl, fun h => absurd h Bool.false_ne_true⟩
  | true =>
    rw [hleak, if_pos rfl] at hpressure
    have hlocked : (s.leakJudged.raise (flagIf (s.asserted .drip) .dripFull)).pressure.leak = true := by
      rw [State.raise_pressure, hpressure]
    refine ⟨?_, ?_, fun _ => State.gasNeedNow_leak hlocked _⟩
    · rw [hpressure, Bool.or_true]
    · rw [hpressure, Pressure.judged_again]

/-- What the judging does to a flag other than OVER-PRESSURE. -/
theorem State.judgeInputs_flag {i : Nat} (hi : i ≠ 1) :
    s.judgeInputs.notice.flags.getLsbD i = (s.notice.flags.getLsbD i || (flagIf (s.asserted .leak) .leak).getLsbD i ||
        (flagIf (s.asserted .drip) .dripFull).getLsbD i) ∧
      s.judgeInputs.notice.seen.getLsbD i = (s.notice.seen.getLsbD i && !(flagIf (s.asserted .leak) .leak).getLsbD i &&
        !(flagIf (s.asserted .drip) .dripFull).getLsbD i) := by
  have hkeg : s.kegJudged.notice = s.notice := s.kegJudged_frame.2.2.1
  have hleak : s.leakJudged.notice.flags.getLsbD i = (s.notice.flags.getLsbD i || (flagIf (s.asserted .leak) .leak).getLsbD i) ∧
      s.leakJudged.notice.seen.getLsbD i = (s.notice.seen.getLsbD i && !(flagIf (s.asserted .leak) .leak).getLsbD i) := by
    unfold State.leakJudged
    cases s.asserted .leak with
    | false => simp [hkeg, flagIf]
    | true =>
      obtain ⟨hflags, hseen⟩ :=
        State.pressureEval_flag s.kegJudged.leakLocked hi
      rw [if_pos rfl, State.leakBegin_eq, State.raise_notice, Notice.raised_flags, Notice.raised_seen, hflags, hseen]
      simp only [State.leakLocked, hkeg]
      exact ⟨rfl, rfl⟩
  rw [s.judgeInputs_eq, (State.pressureEval_flag _ hi).1, (State.pressureEval_flag _ hi).2, State.raise_notice,
    Notice.raised_flags, Notice.raised_seen, hleak.1, hleak.2]
  exact ⟨rfl, rfl⟩

theorem State.judgeInputs_tx (hstarting : s.mode.mode = .starting) : s.judgeInputs.tx = s.tx := by
  have hkeg : s.kegJudged.tx = s.tx := by
    unfold State.kegJudged
    split_ifs
    · rfl
    · exact s.pauseFor_tx_inactive (State.inactive_of_starting hstarting) _
  have hkegmode : s.kegJudged.mode.mode = .starting := by rw [s.kegJudged_frame.2.1, hstarting]
  have hleak : s.leakJudged.tx = s.tx ∧ s.leakJudged.mode.mode = .starting := by
    unfold State.leakJudged
    split_ifs
    · refine ⟨?_, by simpa using hkegmode⟩
      rw [State.leakBegin_tx_starting hkegmode, hkeg]
    · exact ⟨hkeg, hkegmode⟩
  rw [s.judgeInputs_eq, State.pressureEval_tx_starting (s := s.leakJudged.raise _) hleak.2, State.raise_tx_starting hleak.2,
    hleak.1]

end

end Sys2Proof.Machine
end

section
/-! PROOFS. CONFIG_LOAD_END: STARTING left by the strap address and KEG-PRESENT, and the row put together (05 R79, R80). -/

namespace Sys2Proof.Machine

/-- An input reads as the statements read it. -/
theorem State.asserted_eq_reads (s : State) (x : Input) :
    s.asserted x = readsAsserted (s.inputs.get x) s.cfg.polarity (inputBit x) := by
  unfold State.asserted readsAsserted
  cases (s.inputs.get x).settled <;> rfl

/-! ### STARTING left (05 R80, R87, 10 R177) -/

section
variable (s : State)

/-- JOINING with a keg in place, else VACANT. -/
def State.leftStarting : State :=
  if s.asserted .kegPresent then s.enterSync .joining else (s.enterMode .vacant).thermalEval

theorem State.leaveStarting_bay (h : IsBay s.line.address) :
    s.leaveStarting =
      if s.leftStarting.notice.asks s.leftStarting.notice.flags then { s.leftStarting with tx := s.leftStarting.tx.askNotice }
      else s.leftStarting :=
  if_pos h

theorem State.leaveStarting_other (h : ¬ IsBay s.line.address) : s.leaveStarting = s := if_neg h

theorem State.enterSync_holds_notice (m : Mode) : (s.enterSync m).tx.holds (· == .notice) = s.tx.holds (· == .notice) := by
  have hshare : ∀ f : TxFrame, (f == .notice) = true → f.isShare = false := fun f hf => by
    rw [beq_iff_eq.mp hf]
    rfl
  have hyield : s.tx.askYieldAll.holds (· == .notice) = s.tx.holds (· == .notice) := by
    unfold Tx.askYieldAll
    split_ifs
    · rfl
    · exact Tx.holds_replace_other _ _ _ _ rfl hshare
  change (s.tx.askYieldAll.askSync.askAnnounce).holds (· == .notice) = _
  rw [Tx.askAnnounce, Tx.holds_request_other _ _ _ _ rfl, Tx.askSync, Tx.holds_request_other _ _ _ _ rfl, hyield]

theorem State.leftStarting_fields :
    s.leftStarting.mode.mode = (if s.asserted .kegPresent then .joining else .vacant) ∧
      s.leftStarting.mode.announceTimer = some 0 ∧ s.leftStarting.mode.configDigest = s.mode.configDigest ∧
      s.leftStarting.notice = s.notice ∧ s.leftStarting.tx.holds (· == .notice) = s.tx.holds (· == .notice) := by
  have hvacant : (s.enterMode .vacant).active = false := rfl
  unfold State.leftStarting
  split_ifs
  · exact ⟨rfl, rfl, rfl, rfl, s.enterSync_holds_notice .joining⟩
  · rw [State.thermalEval_tx_inactive _ hvacant]
    simp only [State.thermalEval_frame]
    exact ⟨rfl, rfl, rfl, rfl, Tx.holds_request_other _ _ _ _ rfl⟩

theorem State.leaveStarting_fields (h : IsBay s.line.address) :
    s.leaveStarting.mode = s.leftStarting.mode ∧ s.leaveStarting.share = s.leftStarting.share ∧
      s.leaveStarting.tx =
        if s.notice.asks s.notice.flags then s.leftStarting.tx.askNotice else s.leftStarting.tx := by
  obtain ⟨-, -, -, hnotice, -⟩ := s.leftStarting_fields
  rw [s.leaveStarting_bay h, hnotice]
  split_ifs <;> exact ⟨rfl, rfl, rfl⟩

/-- The mode, the announce timer and the config digest after it. -/
theorem State.leaveStarting_mode (hstarting : s.mode.mode = .starting) :
    s.leaveStarting.mode.mode =
        (if ¬ IsBay s.line.address then .starting else if s.asserted .kegPresent then .joining else .vacant) ∧
      s.leaveStarting.mode.announceTimer = (if IsBay s.line.address then some 0 else s.mode.announceTimer) ∧
      s.leaveStarting.mode.configDigest = s.mode.configDigest := by
  by_cases h : IsBay s.line.address
  · obtain ⟨hmode, htimer, hdigest, -, -⟩ := s.leftStarting_fields
    rw [(s.leaveStarting_fields h).1, if_neg (not_not_intro h), if_pos h]
    exact ⟨hmode, htimer, hdigest⟩
  · rw [s.leaveStarting_other h, if_pos h, if_neg h]
    exact ⟨hstarting, rfl, rfl⟩

theorem State.leaveStarting_holds_notice :
    s.leaveStarting.tx.holds (· == .notice) =
      (s.tx.holds (· == .notice) || (decide (IsBay s.line.address) && s.notice.asks s.notice.flags)) := by
  by_cases h : IsBay s.line.address
  · obtain ⟨-, -, -, -, hplaces⟩ := s.leftStarting_fields
    rw [(s.leaveStarting_fields h).2.2, decide_eq_true h]
    cases s.notice.asks s.notice.flags with
    | false => simpa using hplaces
    | true => simpa using Tx.holds_askNotice s.leftStarting.tx
  · rw [s.leaveStarting_other h, decide_eq_false h, Bool.false_and, Bool.or_false]

/-- JOINING begins its sync, whatever NOTICE is asked for after it. -/
theorem State.leaveStarting_begun (hstarting : s.mode.mode = .starting) (hjoining : s.leaveStarting.mode.mode = .joining) :
    SyncBegun s.leaveStarting := by
  have hbay : IsBay s.line.address := by
    by_contra h
    rw [s.leaveStarting_other h, hstarting] at hjoining
    cases hjoining
  obtain ⟨hmode, hshare, htx⟩ := s.leaveStarting_fields hbay
  have hkeg : s.asserted .kegPresent = true := by
    rw [hmode, s.leftStarting_fields.1] at hjoining
    by_contra h
    rw [if_neg h] at hjoining
    cases hjoining
  have hleft : s.leftStarting = s.enterSync .joining := if_pos hkeg
  have hplaces : ∀ q : TxFrame → Bool, q .notice = false →
      s.leaveStarting.tx.holds q = (s.enterSync .joining).tx.holds q := fun q hq => by
    rw [htx, hleft]
    split_ifs
    · exact Tx.holds_askNotice_other _ _ hq
    · rfl
  obtain ⟨hyield, hask⟩ := s.enterSync_holds .joining
  refine ⟨by rw [hshare, hleft]; rfl, by rw [hmode, hleft]; rfl, (hplaces _ rfl).trans hyield, (hplaces _ rfl).trans hask,
    by rw [hmode, hleft]; rfl⟩

end

/-! ### The row -/

section
variable {s : State} (usable : Option WorkingCopy)

theorem State.takeConfig_fields :
    (s.takeConfig usable).cfg = usable.getD .defaults ∧ (s.takeConfig usable).load = .ended ∧
      (s.takeConfig usable).mode = { s.mode with configDigest := check16 (plantPart (usable.getD .defaults)) } ∧
      (s.takeConfig usable).notice = s.notice.raised (flagIf usable.isNone .configDefault) :=
  ⟨rfl, rfl, rfl, rfl⟩

theorem State.takeConfig_tx (hstarting : s.mode.mode = .starting) : (s.takeConfig usable).tx = s.tx :=
  State.raise_tx_starting (s := { s with
    cfg := usable.getD .defaults, load := .ended
    mode := { s.mode with configDigest := configDigestOf (usable.getD .defaults) } }) hstarting _

end

theorem exec_configLoadEnd {s : State} (read : ConfigRead) (hrun : s.power = .running) (hload : s.load = .reading) :
    exec (.configLoadEnd read) s = .next ((s.takeConfig (ConfigRead.usable read)).judgeInputs).leaveStarting := by
  change execConfigLoadEnd read s = _
  rw [execConfigLoadEnd, whileRunning_on _ _ hrun, if_pos hload]

theorem flagIf_getLsbD (b : Bool) (f : Flag) (i : Nat) : (flagIf b f).getLsbD i = (b && f.mask.getLsbD i) := by
  cases b <;> simp [flagIf]

section
variable (s : State)

/-- The flags of R170 and R172 as the judging leaves them, and CONFIG-DEFAULT. -/
theorem State.judgeInputs_flags :
    s.judgeInputs.notice.flags.getLsbD 0 = (s.notice.flags.getLsbD 0 || s.asserted .leak) ∧
      (s.asserted .leak = true → s.judgeInputs.notice.seen.getLsbD 0 = false) ∧
      s.judgeInputs.notice.flags.getLsbD 5 = (s.notice.flags.getLsbD 5 || s.asserted .drip) ∧
      (s.asserted .drip = true → s.judgeInputs.notice.seen.getLsbD 5 = false) ∧
      s.judgeInputs.notice.flags.getLsbD 14 = s.notice.flags.getLsbD 14 := by
  obtain ⟨hleak, hleakSeen⟩ := s.judgeInputs_flag (i := 0) (by decide)
  obtain ⟨hdrip, hdripSeen⟩ := s.judgeInputs_flag (i := 5) (by decide)
  obtain ⟨hdefault, -⟩ := s.judgeInputs_flag (i := 14) (by decide)
  simp only [flagIf_getLsbD] at hleak hleakSeen hdrip hdripSeen hdefault
  refine ⟨?_, fun h => ?_, ?_, fun h => ?_, ?_⟩
  · simpa [Flag.mask, Flag.bit] using hleak
  · rw [hleakSeen, h]
    simp [Flag.mask, Flag.bit]
  · simpa [Flag.mask, Flag.bit] using hdrip
  · rw [hdripSeen, h]
    simp [Flag.mask, Flag.bit]
  · simpa [Flag.mask, Flag.bit] using hdefault

/-- Judging the inputs changes neither what they read nor where the mode stands. -/
theorem State.judgeInputs_reads :
    s.judgeInputs.asserted .kegPresent = s.asserted .kegPresent ∧ s.judgeInputs.line = s.line ∧ s.judgeInputs.mode = s.mode := by
  simp [State.asserted]

/-- The program as the load's end leaves it. -/
theorem State.judgeInputs_program :
    (s.kegReady = false ∧ s.program.underWay = true → s.judgeInputs.program.state = .paused ∧
        s.judgeInputs.program.reasons = { s.program.reasons with kegAbsent := true }) ∧
      (s.kegReady = true ∨ s.program.underWay = false → s.judgeInputs.program.state = s.program.state ∧
        s.judgeInputs.program.reasons = s.program.reasons) := by
  obtain ⟨hstate, hreasons, -, -⟩ := s.judgeInputs_openings.fields
  rw [hstate, hreasons]
  refine ⟨fun ⟨hkeg, hway⟩ => ?_, fun h => ?_⟩
  · rw [hkeg, if_neg Bool.false_ne_true, Program.pause_underWay hway]
    exact ⟨rfl, rfl⟩
  · have hstands : (if s.kegReady then s.program else s.program.pause .kegAbsent) = s.program := by
      split_ifs with hkeg
      · rfl
      · exact Program.pause_idle (h.resolve_left hkeg) _
    rw [hstands]
    exact ⟨rfl, rfl⟩

end

/-- Settles O8: the state after the load, the inputs as the loaded polarity reads them, and the mode entered. -/
theorem configLoadEndLeavesStarting : Obligations.ConfigLoadEndLeavesStarting := by
  intro read usable s hrun hload hstarting husable
  obtain rfl : usable = ConfigRead.usable read := husable.trans (by cases read <;> rfl)
  have hexec := exec_configLoadEnd read hrun hload
  obtain ⟨hcfg, hended, hmode, hnotice⟩ := s.takeConfig_fields (ConfigRead.usable read)
  have htx := State.takeConfig_tx (ConfigRead.usable read) hstarting
  obtain ⟨hline, hkeg, hinputs, horders, htimebase, hprogram, hpressure⟩ :
      (s.takeConfig (ConfigRead.usable read)).line = s.line ∧ (s.takeConfig (ConfigRead.usable read)).keg = s.keg ∧
      (s.takeConfig (ConfigRead.usable read)).inputs = s.inputs ∧ (s.takeConfig (ConfigRead.usable read)).orders = s.orders ∧
      (s.takeConfig (ConfigRead.usable read)).timebase = s.timebase ∧
      (s.takeConfig (ConfigRead.usable read)).program = s.program ∧
      (s.takeConfig (ConfigRead.usable read)).pressure = s.pressure := by simp
  generalize s.takeConfig (ConfigRead.usable read) = c at *
  have hreads : ∀ x, c.asserted x = readsAsserted (s.inputs.get x) c.cfg.polarity (inputBit x) := fun x => by
    rw [c.asserted_eq_reads, hinputs]
  have hcstarting : c.mode.mode = .starting := by rw [hmode, hstarting]
  obtain ⟨hkegRead, hlineRead, hmodeRead⟩ := c.judgeInputs_reads
  have hjstarting : c.judgeInputs.mode.mode = .starting := by rw [hmodeRead, hcstarting]
  obtain ⟨hentered, htimer, hdigest⟩ := c.judgeInputs.leaveStarting_mode hjstarting
  have hplaces := c.judgeInputs.leaveStarting_holds_notice
  have hbegun := c.judgeInputs.leaveStarting_begun hjstarting
  obtain ⟨hpaused, hstands⟩ := c.judgeInputs_program
  obtain ⟨hlock, htripped, hneed⟩ := c.judgeInputs_pressure
  obtain ⟨hleak, hleakSeen, hdrip, hdripSeen, hdefault⟩ := c.judgeInputs_flags
  have hjtx := c.judgeInputs_tx hcstarting
  obtain ⟨hfcfg, hfload, hfline, hfkeg, hfinputs, hforders, hftimebase⟩ :
      c.judgeInputs.leaveStarting.cfg = c.cfg ∧ c.judgeInputs.leaveStarting.load = c.load ∧
      c.judgeInputs.leaveStarting.line = c.line ∧ c.judgeInputs.leaveStarting.keg = c.keg ∧
      c.judgeInputs.leaveStarting.inputs = c.inputs ∧ c.judgeInputs.leaveStarting.orders = c.orders ∧
      c.judgeInputs.leaveStarting.timebase = c.timebase := by simp
  obtain ⟨hfprogram, hfpressure, hfnotice⟩ : c.judgeInputs.leaveStarting.program = c.judgeInputs.program ∧
      c.judgeInputs.leaveStarting.pressure = c.judgeInputs.pressure ∧
      c.judgeInputs.leaveStarting.notice = c.judgeInputs.notice := by simp
  refine ⟨_, hexec, hfload.trans hended, hfcfg.trans hcfg, ?_, ?_, ?_, ?_, hfline.trans hline, hfkeg.trans hkeg,
    hfinputs.trans hinputs, hforders.trans horders, hftimebase.trans htimebase, ?_, ?_, hbegun⟩
  · rw [hdigest, hmodeRead, hmode, hfcfg, hcfg]
  · rw [hfnotice, hdefault, hnotice, Notice.raised_flags, flagIf_getLsbD]
    simp [Flag.mask, Flag.bit]
  · rw [hentered, hkegRead, hlineRead, hline, hfcfg, hreads .kegPresent]
    rfl
  · rw [htimer, hlineRead, hline, hmodeRead, hmode]
  · have hplace : c.kegReady = (readsAsserted s.inputs.kegPresent c.cfg.polarity 0 &&
        readsAsserted s.inputs.coupled c.cfg.polarity 1) := by
      rw [State.kegReady, hreads .kegPresent, hreads .coupled]
      rfl
    have hleakReads : c.asserted .leak = readsAsserted s.inputs.leak c.cfg.polarity 2 := hreads .leak
    have hdripReads : c.asserted .drip = readsAsserted s.inputs.drip c.cfg.polarity 3 := hreads .drip
    have hstood : ∀ i, i ≠ 14 → c.notice.flags.getLsbD i = s.notice.flags.getLsbD i := fun i hi => by
      rw [hnotice, Notice.raised_flags, flagIf_getLsbD]
      simp [Flag.mask, Flag.bit, hi.symm]
    rw [hfprogram, hfpressure, hfnotice, hfcfg]
    rw [hplace, hprogram] at hpaused hstands
    rw [hleakReads, hpressure] at hlock
    rw [hstood 0 (by decide), hleakReads] at hleak
    rw [hstood 5 (by decide), hdripReads] at hdrip
    rw [hleakReads] at hleakSeen hneed
    rw [hdripReads] at hdripSeen
    refine ⟨hpaused, hstands, hlock, hleak, fun h => ⟨hleakSeen h, hneed h, State.driven_gasValve_leak ?_⟩, hdrip, hdripSeen,
      fun v hgood hv => ?_⟩
    · rw [hfpressure, hlock, h, Bool.or_true]
    · rw [htripped, hpressure, Pressure.judged_of_sample _ hgood hv]
  · rw [hplaces, hjtx, htx, hlineRead, hline, hfnotice]
    rfl

end Sys2Proof.Machine
end

section
/-! PROOFS. A second event in its parts: the thresholds left over, the two samples, the needs they publish and the counts
(04 R66, R74, 05 R78, 06 R100, R113, 08 R138; log 5, log 19). -/

namespace Sys2Proof.Machine

/-! ### The timebase (05 R78) -/

theorem State.minuteEvent_timebase (s : State) : s.minuteEvent.timebase = { s.timebase with minuteDue := false } := by
  unfold State.minuteEvent
  split_ifs with hdue
  · simp
  · have hstood : s.timebase.minuteDue = false := by simpa using hdue
    rw [← hstood]

theorem State.hourEvent_timebase (s : State) : s.hourEvent.timebase = { s.timebase with hourDue := false } := by
  unfold State.hourEvent
  split_ifs with hdue
  · simp
  · have hstood : s.timebase.hourDue = false := by simpa using hdue
    rw [← hstood]

theorem State.takeDue_timebase (s : State) :
    s.takeDue.timebase = { s.timebase with minuteDue := false, hourDue := false } := by
  simp [State.takeDue, State.minuteEvent_timebase, State.hourEvent_timebase]

/-- The sixtieth second event makes a minute event due and the sixtieth minute event an hour event. -/
theorem Timebase.second_settled (t : Timebase) :
    Timebase.second { t with minuteDue := false, hourDue := false } =
      if t.seconds < 59 then { t with seconds := t.seconds + 1, minuteDue := false, hourDue := false }
      else if t.minutes < 59 then { t with seconds := 0, minutes := t.minutes + 1, minuteDue := true, hourDue := false }
      else { t with seconds := 0, minutes := 0, minuteDue := true, hourDue := true } := by
  have hseconds : t.seconds + 1 < 60 ↔ t.seconds < 59 := by omega
  have hminutes : t.minutes + 1 < 60 ↔ t.minutes < 59 := by omega
  simp only [Timebase.second, hseconds, hminutes]

/-! ### The thermal controller's second (06 R100, R102, R113) -/

/-- Probe state, sample and drift stand. -/
def Thermal.SameReading (t u : Thermal) : Prop :=
  u.probe = t.probe ∧ u.sample = t.sample ∧ u.drift = t.drift ∧ u.driftNoticed = t.driftNoticed

theorem Thermal.SameReading.trans {t u v : Thermal} (h1 : t.SameReading u) (h2 : u.SameReading v) : t.SameReading v := by
  obtain ⟨hprobe, hsample, hdrift, hnoticed⟩ := h1
  obtain ⟨hprobe', hsample', hdrift', hnoticed'⟩ := h2
  exact ⟨hprobe'.trans hprobe, hsample'.trans hsample, hdrift'.trans hdrift, hnoticed'.trans hnoticed⟩

theorem State.thermalEval_sameReading (s : State) : s.thermal.SameReading s.thermalEval.thermal := by
  rw [State.thermalEval_thermal]
  exact ⟨rfl, rfl, rfl, rfl⟩

theorem State.pauseFor_sameReading (s : State) (r : PauseReason) : s.thermal.SameReading (s.pauseFor r).thermal := by
  unfold State.pauseFor
  split
  · exact State.thermalEval_sameReading { s with
      program := s.program.pause r
      thermal := { s.thermal with
        frozen := if s.program.state = .running then stepHold s.program else s.thermal.frozen } }
  · exact ⟨rfl, rfl, rfl, rfl⟩

/-- The probe entering a fault. -/
def State.probeEnters (s : State) (v : Int) : Bool := !probeValid v && s.thermal.probe != .fault

/-- The sample taken, SENSOR-FAULT raised where the probe enters a fault. -/
def State.probeRead (s : State) (v : Int) : State :=
  State.raise { s with thermal := { s.thermal with probe := if probeValid v then .good else .fault, sample := some v } }
    (flagIf (s.probeEnters v) .sensorFault)

/-- A program under way is paused as the probe enters a fault. -/
def State.probeTaken (s : State) (v : Int) : State :=
  if s.probeEnters v then (s.probeRead v).pauseFor .sensor else s.probeRead v

theorem State.probeSample_eq (s : State) (v : Int) : s.probeSample v = (s.probeTaken v).thermalEval := by
  unfold State.probeSample State.probeTaken State.probeRead State.probeEnters
  cases probeValid v <;> rfl

theorem State.probeTaken_sameReading (s : State) (v : Int) : (s.probeRead v).thermal.SameReading (s.probeTaken v).thermal := by
  unfold State.probeTaken
  split
  · exact State.pauseFor_sameReading _ _
  · exact ⟨rfl, rfl, rfl, rfl⟩

theorem State.probeSample_reading (s : State) (v : Int) :
    (s.probeSample v).thermal.probe = (if probeValid v then .good else .fault) ∧ (s.probeSample v).thermal.sample = some v ∧
      (s.probeSample v).thermal.drift = s.thermal.drift := by
  have hread := (s.probeTaken_sameReading v).trans (s.probeTaken v).thermalEval_sameReading
  rw [← s.probeSample_eq v] at hread
  obtain ⟨hprobe, hsample, hdrift, -⟩ := hread
  exact ⟨hprobe, hsample, hdrift⟩

/-- The drift timer by regime and in-band signal (06 R113). -/
theorem Thermal.driftTick_fields (t : Thermal) (limit : Nat) :
    (t.driftTick limit).probe = t.probe ∧ (t.driftTick limit).sample = t.sample ∧
      ((t.driftTick limit).regime ≠ .off → (t.driftTick limit).inBand = true →
        (t.driftTick limit).drift = 0 ∧ (t.driftTick limit).driftNoticed = false) ∧
      ((t.driftTick limit).regime ≠ .off → (t.driftTick limit).inBand = false →
        (t.driftTick limit).drift = min (t.drift + 1) limit) ∧
      ((t.driftTick limit).regime = .off → (t.driftTick limit).drift = t.drift) := by
  unfold Thermal.driftTick
  split_ifs with hoff hin
  · exact ⟨rfl, rfl, fun h => absurd hoff h, fun h => absurd hoff h, fun _ => rfl⟩
  · exact ⟨rfl, rfl, fun _ _ => ⟨rfl, rfl⟩, fun _ h => absurd (hin.symm.trans h) Bool.noConfusion, fun h => absurd h hoff⟩
  · exact ⟨rfl, rfl, fun _ h => absurd h hin, fun _ _ => rfl, fun h => absurd h hoff⟩

/-! ### What a publication makes of a record (04 R58, R74) -/

/-- A record as some publication to another leaves it. -/
def PublishedFrom (active : Bool) (r r' : DemandRec) : Prop :=
  ∃ tx x n, r' = (DemandTx.publish ⟨r, tx⟩ active x n).rcd

section
variable {active : Bool} {r r' : DemandRec}

/-- An episode of starvation is over where the need is absent or met. -/
theorem DemandRec.settle_ended (h : (r.settle active).need = none ∨ (r.settle active).met active = true) :
    (r.settle active).starve = 0 ∧ (r.settle active).starveNoticed = false := by
  unfold DemandRec.settle at h ⊢
  split_ifs at h ⊢ with hended
  · exact ⟨rfl, rfl⟩
  · exact absurd h hended

theorem PublishedFrom.ended (h : PublishedFrom active r r') (hended : r'.need = none ∨ r'.met active = true) :
    r'.starve = 0 ∧ r'.starveNoticed = false := by
  obtain ⟨tx, x, n, rfl⟩ := h
  exact DemandRec.settle_ended hended

theorem DemandRec.met_settle : (r.settle active).met active = r.met active := by
  unfold DemandRec.settle
  split_ifs <;> rfl

/-- A publication of the need that stands leaves an unmet need's record. -/
theorem PublishedFrom.stands (h : PublishedFrom active r r') (hsame : r'.need = r.need) (hpresent : r'.need ≠ none)
    (hunmet : ¬ r'.met active = true) : r' = r := by
  obtain ⟨tx, x, n, rfl⟩ := h
  have hneed : r.need = n := hsame.symm.trans (DemandTx.publish_need _ _ _ _).1
  have hpublished : (DemandTx.publish ⟨r, tx⟩ active x n).rcd = r.settle active := by
    simp only [DemandTx.publish, hneed, if_true]
  rw [hpublished] at hpresent hunmet ⊢
  rw [(DemandRec.settle_standing active r).2.1] at hpresent
  rw [DemandRec.met_settle] at hunmet
  exact if_neg (not_or.mpr ⟨hpresent, hunmet⟩)

/-! ### When a need is met, and when it is unmet (04 R59, R74) -/

theorem demandState_held_iff :
    demandState active r = .held ↔ active = true ∧ r.pending.map Pending.kind ≠ some .yield ∧
      r.pending.map Pending.kind ≠ some .claim ∧ ∃ n, r.standing = .granted n := by
  unfold demandState
  cases active with
  | false => split_ifs <;> simp_all
  | true =>
    rw [if_neg (by decide)]
    generalize r.pending.map Pending.kind = kind
    cases r.standing with
    | absent => cases r.need.isSome <;> split <;> simp_all
    | waiting _ | granted _ => split <;> simp_all

theorem DemandRec.met_iff :
    r.met active = true ↔ active = true ∧ r.pending.map Pending.kind ≠ some .yield ∧
      r.pending.map Pending.kind ≠ some .claim ∧ ∃ n, r.need = some n ∧ r.standing = .granted n := by
  unfold DemandRec.met
  cases hneed : r.need with
  | none => simp
  | some n =>
    simp only [Bool.and_eq_true, beq_iff_eq, demandState_held_iff]
    refine ⟨fun ⟨⟨hactive, hyield, hclaim, g, hg⟩, hmeets⟩ => ?_, fun ⟨hactive, hyield, hclaim, m, hm, hg⟩ => ?_⟩
    · have hequal : g = n := by simpa [DemandRec.meets, hg] using hmeets
      exact ⟨hactive, hyield, hclaim, n, rfl, hequal ▸ hg⟩
    · cases hm
      exact ⟨⟨hactive, hyield, hclaim, n, hg⟩, by simp [DemandRec.meets, hg]⟩

/-- The starve timer runs on a need that is not granted as it stands, and while a YIELD is pending. -/
theorem DemandRec.unmet_iff :
    r.unmet active = true ↔ r.need ≠ none ∧ ¬ (active = true ∧ r.pending.map Pending.kind ≠ some .yield ∧
      ∃ n, r.need = some n ∧ r.standing = .granted n) := by
  unfold DemandRec.unmet
  cases hneed : r.need with
  | none => simp
  | some n =>
    unfold demandState DemandRec.meets
    cases active with
    | false => simp [hneed]
    | true =>
      generalize r.pending.map Pending.kind = kind
      cases r.standing with
      | absent => by_cases hk : kind = some .yield <;> simp [hneed, hk]
      | waiting m => by_cases hk : kind = some .yield <;> simp [hk]
      | granted m =>
        by_cases hk : kind = some .yield
        · simp [hk]
        · by_cases hc : kind = some .claim <;> simp [hk, hc]

end

end Sys2Proof.Machine
end

section
/-! PROOFS. SECOND_EVENT put together: the needs the two samples publish, the counts, and the thresholds left over (04 R66, R74,
05 R78, 06 R100, R107, 08 R138; log 5, log 19). -/

namespace Sys2Proof.Machine

/-! ### The needs the two samples publish -/

theorem State.publish_get_self (s : State) (x : Resource) (n : Option Need) :
    (s.publish x n).demand.get x = (DemandTx.publish ⟨s.demand.get x, s.tx⟩ s.active x n).rcd := PerRes.get_set_self _ _ _

theorem State.publish_get_other (s : State) {x y : Resource} (n : Option Need) (h : y ≠ x) :
    (s.publish x n).demand.get y = s.demand.get y := by
  rw [State.publish, PerRes.get_set, if_neg h]

theorem State.publish_published (s : State) (x : Resource) (n : Option Need) :
    PublishedFrom s.active (s.demand.get x) ((s.publish x n).demand.get x) ∧ ((s.publish x n).demand.get x).need = n := by
  rw [s.publish_get_self x n]
  exact ⟨⟨s.tx, x, n, rfl⟩, (DemandTx.publish_need _ _ _ _).1⟩

/-- An evaluation publishes both thermal needs, each once, and leaves the record of GAS. -/
theorem State.publishThermal_published (s : State) :
    s.publishThermal.demand.get .gas = s.demand.get .gas ∧
      (PublishedFrom s.active (s.demand.get .chill) (s.publishThermal.demand.get .chill) ∧
        (s.publishThermal.demand.get .chill).need = s.thermal.cooling) ∧
      (PublishedFrom s.active (s.demand.get .heat) (s.publishThermal.demand.get .heat) ∧
        (s.publishThermal.demand.get .heat).need = s.thermal.heating) := by
  unfold State.publishThermal
  split_ifs
  · have hsecond := (s.publish .heat s.thermal.heating).publish_published .chill s.thermal.cooling
    rw [s.publish_get_other _ (by decide : Resource.chill ≠ .heat)] at hsecond
    rw [State.publish_get_other _ _ (by decide), State.publish_get_other _ _ (by decide),
      State.publish_get_other _ (x := .chill) (y := .heat) _ (by decide)]
    exact ⟨rfl, hsecond, s.publish_published .heat _⟩
  · have hsecond := (s.publish .chill s.thermal.cooling).publish_published .heat s.thermal.heating
    rw [s.publish_get_other _ (by decide : Resource.heat ≠ .chill)] at hsecond
    rw [State.publish_get_other _ _ (by decide), State.publish_get_other _ _ (by decide),
      State.publish_get_other _ (x := .heat) (y := .chill) _ (by decide)]
    exact ⟨rfl, s.publish_published .chill _, hsecond⟩

theorem State.thermalEval_published (s : State) :
    s.thermalEval.demand.get .gas = s.demand.get .gas ∧
      (PublishedFrom s.active (s.demand.get .chill) (s.thermalEval.demand.get .chill) ∧
        (s.thermalEval.demand.get .chill).need = s.thermalEval.thermal.cooling) ∧
      (PublishedFrom s.active (s.demand.get .heat) (s.thermalEval.demand.get .heat) ∧
        (s.thermalEval.demand.get .heat).need = s.thermalEval.thermal.heating) := by
  rw [State.thermalEval_thermal]
  exact State.publishThermal_published { s with
    thermal := s.thermal.evaluate s.mode.mode s.keg s.program s.cfg
    staged := { s.staged with
      chillValve := (s.thermal.evaluate s.mode.mode s.keg s.program s.cfg).cooling.isSome
      heater := (s.thermal.evaluate s.mode.mode s.keg s.program s.cfg).heating.isSome } }

theorem State.pauseFor_gas (s : State) (r : PauseReason) : (s.pauseFor r).demand.get .gas = s.demand.get .gas := by
  unfold State.pauseFor
  split
  · exact (State.thermalEval_published { s with
      program := s.program.pause r
      thermal := { s.thermal with
        frozen := if s.program.state = .running then stepHold s.program else s.thermal.frozen } }).1
  · rfl

/-- With the probe not GOOD the regime is OFF and both thermal needs are absent (06 R104, R108, R110). -/
theorem Thermal.evaluate_faulted {t : Thermal} (h : t.probe ≠ .good) (mode : Mode) (keg : Keg) (p : Program) (cfg : WorkingCopy) :
    (t.evaluate mode keg p cfg).cooling = none ∧ (t.evaluate mode keg p cfg).heating = none := by
  simp [Thermal.evaluate, regimeOf, h, effectiveOf]

/-- A record after the samples: published to; and with a need present, from the record as it stood. -/
def SampledFrom (active : Bool) (r r' : DemandRec) : Prop :=
  ∃ q, PublishedFrom active q r' ∧ (r'.need ≠ none → q = r)

theorem State.probeTaken_frame (s : State) (v : Int) :
    (s.probeTaken v).mode = s.mode ∧ (s.probeTaken v).demand.get .gas = s.demand.get .gas ∧
      (probeValid v = true → (s.probeTaken v).demand = s.demand) := by
  have hread : (s.probeRead v).mode = s.mode ∧ (s.probeRead v).demand = s.demand := ⟨rfl, rfl⟩
  unfold State.probeTaken
  split
  · next hentered =>
    refine ⟨by simp [hread.1], by rw [State.pauseFor_gas, hread.2], fun hvalid => ?_⟩
    rw [State.probeEnters, hvalid] at hentered
    cases hentered
  · exact ⟨hread.1, by rw [hread.2], fun _ => hread.2⟩

/-- The needs the beer probe's sample publishes: of a faulty probe none, of a good one from the records as they stood. -/
theorem State.probeSample_sampled (s : State) (v : Int) :
    (s.probeSample v).demand.get .gas = s.demand.get .gas ∧
      SampledFrom s.active (s.demand.get .chill) ((s.probeSample v).demand.get .chill) ∧
      SampledFrom s.active (s.demand.get .heat) ((s.probeSample v).demand.get .heat) := by
  obtain ⟨hmode, hgas, hvalid⟩ := s.probeTaken_frame v
  have hactive : (s.probeTaken v).active = s.active := by simp only [State.active, hmode]
  obtain ⟨hgas', ⟨hchill, hcooling⟩, ⟨hheat, hheating⟩⟩ := (s.probeTaken v).thermalEval_published
  rw [hactive] at hchill hheat
  rw [s.probeSample_eq v]
  refine ⟨hgas'.trans hgas, ⟨_, hchill, fun hneed => ?_⟩, ⟨_, hheat, fun hneed => ?_⟩⟩
  all_goals
    cases hv : probeValid v with
    | true => rw [hvalid hv]
    | false =>
      have hfault : (s.probeTaken v).thermal.probe ≠ .good := by
        rw [(s.probeTaken_sameReading v).1]
        simp [State.probeRead, hv]
      obtain ⟨hnocooling, hnoheating⟩ := Thermal.evaluate_faulted hfault (s.probeTaken v).mode.mode (s.probeTaken v).keg
        (s.probeTaken v).program (s.probeTaken v).cfg
      rw [State.thermalEval_thermal] at hcooling hheating
      simp_all

/-! ### The counts and the frames asked for again (04 R66, R74) -/

/-- A REQUESTED frame asked for again is of the kind it was. -/
theorem DemandTx.retry_fields (d : DemandTx) (x : Resource) :
    (d.retry x).rcd.need = d.rcd.need ∧ (d.retry x).rcd.standing = d.rcd.standing ∧
      (d.retry x).rcd.pending.map Pending.kind = d.rcd.pending.map Pending.kind ∧ (d.retry x).rcd.starve = d.rcd.starve ∧
      (d.retry x).rcd.starveNoticed = d.rcd.starveNoticed := by
  unfold DemandTx.retry
  split
  · next k hpending => simp [DemandTx.ask, hpending]
  · exact ⟨rfl, rfl, rfl, rfl, rfl⟩

theorem State.retryRequested_get (s : State) (x : Resource) :
    ∃ tx, s.retryRequested.demand.get x = (DemandTx.retry ⟨s.demand.get x, tx⟩ x).rcd := by
  cases x <;> exact ⟨_, rfl⟩

theorem State.countSecond_get (s : State) (x : Resource) :
    s.countSecond.demand.get x = (s.demand.get x).starveTick s.active (s.cfg.starveLimit * 60) := by
  cases x <;> rfl

theorem DemandRec.starveTick_fields (r : DemandRec) (active : Bool) (limit : Nat) :
    (r.starveTick active limit).need = r.need ∧ (r.starveTick active limit).standing = r.standing ∧
      (r.starveTick active limit).pending = r.pending := by
  unfold DemandRec.starveTick
  split_ifs <;> exact ⟨rfl, rfl, rfl⟩

/-- The starve timer at the end of a second event (04 R74): reset with the episode, else counted from where it stood. -/
theorem DemandRec.starveTick_sampled {active : Bool} {limit : Nat} {r r' d : DemandRec} (h : SampledFrom active r r')
    (hneed : d.need = r'.need) (hstanding : d.standing = r'.standing)
    (hkind : d.pending.map Pending.kind = r'.pending.map Pending.kind)
    (hstarve : d.starve = (r'.starveTick active limit).starve)
    (hnoticed : d.starveNoticed = (r'.starveTick active limit).starveNoticed) :
    (∀ n, d.need = some n → ¬ (active = true ∧ d.standing = .granted n ∧ d.pending.map Pending.kind ≠ some .yield) →
        d.need = r.need → d.starve = min (r.starve + 1) limit) ∧
      (d.need = none ∨ (active = true ∧ d.pending.map Pending.kind ≠ some .yield ∧ d.pending.map Pending.kind ≠ some .claim ∧
          ∃ n, d.need = some n ∧ d.standing = .granted n) →
        d.starve = 0 ∧ d.starveNoticed = false) := by
  rw [hneed, hstanding, hkind, hstarve, hnoticed]
  obtain ⟨q, hpublished, hfrom⟩ := h
  refine ⟨fun n hn hungranted hsame => ?_, fun hended => ?_⟩
  · have hpresent : r'.need ≠ none := by simp [hn]
    obtain rfl := hfrom hpresent
    have hunmet : r'.unmet active = true := DemandRec.unmet_iff.mpr ⟨hpresent, fun ⟨ha, hy, m, hm, hg⟩ => by
      obtain rfl : n = m := Option.some.inj (hn.symm.trans hm)
      exact hungranted ⟨ha, hg, hy⟩⟩
    have hnotMet : ¬ r'.met active = true := fun hmet => by
      obtain ⟨ha, hy, -, hgranted⟩ := DemandRec.met_iff.mp hmet
      exact (DemandRec.unmet_iff.mp hunmet).2 ⟨ha, hy, hgranted⟩
    obtain rfl := hpublished.stands hsame hpresent hnotMet
    rw [DemandRec.starveTick, if_pos hunmet]
    rfl
  · have hmet : r'.need = none ∨ r'.met active = true := hended.imp_right DemandRec.met_iff.mpr
    have hstill : ¬ r'.unmet active = true := fun hunmet => by
      obtain ⟨hpresent, hungranted⟩ := DemandRec.unmet_iff.mp hunmet
      rcases hended with hnone | ⟨ha, hy, -, hgranted⟩
      · exact hpresent hnone
      · exact hungranted ⟨ha, hy, hgranted⟩
    rw [DemandRec.starveTick, if_neg hstill]
    exact hpublished.ended hmet

end Sys2Proof.Machine
end

section
/-! PROOFS. SECOND_EVENT: the state it leaves, with thresholds left over and without (05 R78; log 5, log 7, log 19). -/

namespace Sys2Proof.Machine

/-! ### The two samples -/

/-- The beer probe's second and the pressure sample. -/
def State.sampled (s : State) (probe pressure : Int) : State := (s.probeSecond probe).pressureSample pressure

theorem State.second_eq (s : State) (probe pressure : Int) :
    s.second probe pressure =
      (State.sampled { s.takeDue with timebase := s.takeDue.timebase.second } probe pressure).countSecond.retryRequested := rfl

section
variable (s : State) (probe pressure : Int)

/-- The gas need is the one need a state publishes on the way to another. -/
def GasPublished (s t : State) : Prop :=
  (∀ y, y ≠ .gas → t.demand.get y = s.demand.get y) ∧ PublishedFrom s.active (s.demand.get .gas) (t.demand.get .gas)

theorem State.pressureEvalFrom_published (before : Bool) : GasPublished s (s.pressureEvalFrom before) := by
  have hpublished : ∀ (v : State) (n : Option Need), v.demand = s.demand → v.mode = s.mode → GasPublished s (v.publish .gas n) := by
    intro v n hdemand hmode
    have hactive : v.active = s.active := by simp only [State.active, hmode]
    refine ⟨fun y hy => by rw [v.publish_get_other n hy, hdemand], ?_⟩
    rw [← hactive, ← hdemand]
    exact (v.publish_published .gas n).1
  exact hpublished _ _ rfl rfl

theorem State.pressureSample_published : GasPublished s (s.pressureSample pressure) := by
  have hevaluated : ∀ (v : State) (before : Bool), v.demand = s.demand → v.mode = s.mode →
      GasPublished s (v.pressureEvalFrom before) := by
    intro v before hdemand hmode
    have hactive : v.active = s.active := by simp only [State.active, hmode]
    obtain ⟨hother, hgas⟩ := v.pressureEvalFrom_published before
    rw [hactive, hdemand] at hgas
    exact ⟨fun y hy => by rw [hother y hy, hdemand], hgas⟩
  exact hevaluated _ _ rfl rfl

theorem State.pressureSample_reading :
    (s.pressureSample pressure).pressure.sample = some pressure ∧
      (s.pressureSample pressure).pressure.sensor = if pressureValid pressure then .good else .fault := by
  simp [State.pressureSample, State.pressureEvalFrom]

/-- Each record is published to by one of the two samples. -/
theorem State.sampled_demand (x : Resource) :
    SampledFrom s.active (s.demand.get x) ((s.sampled probe pressure).demand.get x) := by
  obtain ⟨hgas, hchill, hheat⟩ := s.probeSample_sampled probe
  have hprobe : (s.probeSecond probe).demand = (s.probeSample probe).demand := rfl
  have hactive : (s.probeSecond probe).active = s.active := by simp [State.active]
  obtain ⟨hother, hpublished⟩ := (s.probeSecond probe).pressureSample_published pressure
  rw [hactive, hprobe, hgas] at hpublished
  rw [hprobe] at hother
  cases x with
  | gas => exact ⟨_, hpublished, fun _ => rfl⟩
  | chill => rw [State.sampled, hother _ (by decide)]; exact hchill
  | heat => rw [State.sampled, hother _ (by decide)]; exact hheat

theorem State.sampled_frame :
    (s.sampled probe pressure).mode = s.mode ∧ (s.sampled probe pressure).pour = s.pour ∧
      (s.sampled probe pressure).cfg = s.cfg ∧ (s.sampled probe pressure).timebase = s.timebase := by
  simp [State.sampled]

theorem State.sampled_thermal :
    (s.sampled probe pressure).thermal = (s.probeSample probe).thermal.driftTick (s.cfg.driftLimit * 60) := by
  have hsample : (s.sampled probe pressure).thermal = (s.probeSecond probe).thermal := by simp [State.sampled]
  have hcfg : (s.probeSample probe).cfg = s.cfg := by simp
  rw [hsample, State.probeSecond, hcfg]
  rfl

end

/-! ### The pour and the mode controller's counts (05 R85, R86, R91, 09 R163, R164, R166) -/

theorem Pour.second_eq (p : Pour) (foamLimit : Nat) :
    p.second foamLimit = match p.state with
      | .idle => p
      | .pouring => { p with
          seconds := p.seconds + 1
          dry := if p.seconds + 1 ≤ 2 ∨ 0 < p.pulses then 0 else min (p.dry + 1) 3
          foam := if foamLimit < p.pulses then min (p.foam + 1) 2 else 0
          pulses := 0 }
      | .settling => { p with settle := min (p.settle + 1) 2, pulses := 0 } := by
  have hdry : (if p.seconds + 1 ≤ 2 then 0 else if p.pulses = 0 then bump 3 p.dry else 0) =
      if p.seconds + 1 ≤ 2 ∨ 0 < p.pulses then 0 else min (p.dry + 1) 3 := by
    by_cases hearly : p.seconds + 1 ≤ 2
    · simp [hearly]
    · by_cases hdry : p.pulses = 0
      · simp [hearly, hdry, bump]
      · simp [hearly, hdry, Nat.pos_of_ne_zero hdry]
  unfold Pour.second
  rw [hdry]
  cases p.state <;> rfl

theorem Sync.second_eq (y : Sync) :
    y.second = match y.stage with
      | .listening => { y with wait := min (y.wait + 1) 2 }
      | .resting => { y with rest := min (y.rest + 1) 5 }
      | .noSync | .asking => y := by
  unfold Sync.second
  cases y.stage <;> rfl

/-! ### The thresholds left over (log 5) -/

theorem State.starveDue_get (s : State) (x y : Resource) :
    ((s.starveDue x).demand.get y).need = (s.demand.get y).need ∧
      ((s.starveDue x).demand.get y).starve = (s.demand.get y).starve := by
  unfold State.starveDue
  split_ifs
  · simp only [State.raise_demand, PerRes.get_set]
    split_ifs with hy
    · rw [hy]
      exact ⟨rfl, rfl⟩
    · exact ⟨rfl, rfl⟩
  · exact ⟨rfl, rfl⟩

theorem State.driftDue_drift (s : State) : s.driftDue.thermal.drift = s.thermal.drift := by
  unfold State.driftDue
  split_ifs <;> rfl

theorem State.takeSilent_fresh {s : State} (h : ∀ r ∈ s.mode.roster, r.silence < 15) : s.takeSilent = s := by
  have hnone : ∀ a, s.removeSilent a = s := fun a => if_neg fun hany => by
    obtain ⟨r, hr, hold⟩ := List.any_eq_true.mp hany
    have hage : r.silence = 15 := by simpa using (Bool.and_eq_true_iff.mp hold).2
    exact absurd (h r hr) (by omega)
  unfold State.takeSilent
  generalize [1, 2, 3, 4, 5, 6, 7, 8, 9, 10, 11, 12] = l
  induction l with
  | nil => rfl
  | cons a as ih => rw [List.foldl_cons, hnone a, ih]

/-- The limits of drift and starvation alone may be left over: they raise a flag and set a noticed mark. -/
def State.noticesDue (s : State) : State :=
  State.starveDue .heat (State.starveDue .gas (State.starveDue .chill s.driftDue))

theorem State.takeDue_nothing {s : State} (h : NothingLeftOver s) : s.takeDue = s.noticesDue := by
  obtain ⟨hminute, hhour, hpouring, hsettling, hroster, htimer, hsync⟩ := h
  have hminuteEvent : s.minuteEvent = s := if_neg (by simp [hminute])
  have hhourEvent : s.hourEvent = s := if_neg (by simp [hhour])
  have hpour : s.driftDue.pour = s.pour := by simp
  have hempty : s.driftDue.emptyDue = s.driftDue :=
    if_neg fun hend => hpouring (by rw [hpour] at hend; exact ⟨hend.1, .inl hend.2⟩)
  have hfoam : s.driftDue.foamDue = s.driftDue :=
    if_neg fun hend => hpouring (by rw [hpour] at hend; exact ⟨hend.1, .inr hend.2⟩)
  have hsettle : s.driftDue.settleDue = s.driftDue := if_neg fun hend => hsettling (by rwa [hpour] at hend)
  have hmode : s.noticesDue.mode = s.mode := by simp [State.noticesDue]
  have hsilent : s.noticesDue.takeSilent = s.noticesDue := State.takeSilent_fresh (by rwa [hmode])
  have hannounce : s.noticesDue.announceTimer = s.noticesDue := if_neg (by rwa [hmode])
  have hwait : s.noticesDue.answerWait = s.noticesDue := by
    refine State.answerWait_running _ fun hm => ?_
    rw [hmode] at hm ⊢
    exact not_and_or.mp fun hend => hsync ⟨hm, .inl hend⟩
  have hrest : s.noticesDue.restTimer = s.noticesDue := by
    refine if_neg fun ⟨hm, hend⟩ => ?_
    rw [hmode] at hend
    exact hsync ⟨by simpa [hmode] using (State.syncing_iff _).mp hm, .inr hend⟩
  unfold State.takeDue
  dsimp only
  rw [hminuteEvent, hhourEvent, hempty, hfoam, hsettle]
  change s.noticesDue.takeSilent.announceTimer.answerWait.restTimer = s.noticesDue
  rw [hsilent, hannounce, hwait, hrest]

theorem State.noticesDue_fields (s : State) :
    s.noticesDue.mode = s.mode ∧ s.noticesDue.pour = s.pour ∧ s.noticesDue.cfg = s.cfg ∧
      s.noticesDue.thermal.drift = s.thermal.drift ∧
      ∀ x, (s.noticesDue.demand.get x).need = (s.demand.get x).need ∧
        (s.noticesDue.demand.get x).starve = (s.demand.get x).starve := by
  refine ⟨by simp [State.noticesDue], by simp [State.noticesDue], by simp [State.noticesDue],
    by simp [State.noticesDue, State.driftDue_drift], fun x => ?_⟩
  have hdrift : s.driftDue.demand = s.demand := by simp
  simp only [State.noticesDue, (State.starveDue_get _ _ x).1, (State.starveDue_get _ _ x).2, hdrift, and_self]

/-! ### The row -/

theorem exec_secondEvent_delay {s : State} (probe pressure : Int) (hrun : s.power = .running) (hload : s.load = .delay) :
    exec (.secondEvent probe pressure) s = .next s := by
  change execSecondEvent probe pressure s = _
  rw [execSecondEvent, whileRunning_on s _ hrun, if_pos hload]

/-- The readings and the timebase after a second event, from the state whose left-over thresholds have been taken. -/
theorem State.second_reading (s : State) (probe pressure : Int) :
    (s.second probe pressure).thermal.sample = some probe ∧
      (s.second probe pressure).thermal.probe = (if probeValid probe then .good else .fault) ∧
      (s.second probe pressure).pressure.sample = some pressure ∧
      (s.second probe pressure).pressure.sensor = (if pressureValid pressure then .good else .fault) ∧
      (s.second probe pressure).timebase = s.takeDue.timebase.second := by
  rw [s.second_eq]
  generalize hv : ({ s.takeDue with timebase := s.takeDue.timebase.second } : State) = v
  have hticked : v.timebase = s.takeDue.timebase.second := by rw [← hv]
  have hcounted : (v.sampled probe pressure).countSecond.retryRequested.thermal = (v.sampled probe pressure).thermal ∧
      (v.sampled probe pressure).countSecond.retryRequested.pressure = (v.sampled probe pressure).pressure ∧
      (v.sampled probe pressure).countSecond.retryRequested.timebase = (v.sampled probe pressure).timebase := by simp
  obtain ⟨hthermal, hpressure, htimebase⟩ := hcounted
  obtain ⟨-, -, -, hsampled⟩ := v.sampled_frame probe pressure
  obtain ⟨hprobe, hsample, -⟩ := Thermal.driftTick_fields (v.probeSample probe).thermal (v.cfg.driftLimit * 60)
  obtain ⟨hread, htaken, -⟩ := v.probeSample_reading probe
  obtain ⟨hpsample, hpsensor⟩ := (v.probeSecond probe).pressureSample_reading pressure
  rw [hthermal, v.sampled_thermal, hpressure, htimebase, hsampled, hprobe, hsample]
  exact ⟨htaken, hread, hpsample, hpsensor, hticked⟩

/-- The mode controller's ages and timers a second on, the sync progress being as given. -/
def ModeCtl.counted (c : ModeCtl) (y : Sync) : ModeCtl :=
  { c with
    roster := c.roster.map (fun r => { r with silence := min (r.silence + 1) 15 })
    announceTimer := c.announceTimer.map (fun n => min (n + 1) 5)
    sync := y }

/-- The counts of a second event, once the thresholds left over have been taken. -/
theorem State.counted_fields (s : State) (probe pressure : Int) :
    let t := (s.sampled probe pressure).countSecond.retryRequested
    t.pour = s.pour.second s.cfg.foamLimit ∧
      t.thermal = (s.probeSample probe).thermal.driftTick (s.cfg.driftLimit * 60) ∧
      t.mode = s.mode.counted s.mode.sync.second := by
  obtain ⟨hmode, hpour, hcfg, -⟩ := s.sampled_frame probe pressure
  refine ⟨?_, ?_, ?_⟩
  · rw [← hpour, ← hcfg]
    rfl
  · rw [← s.sampled_thermal probe pressure]
    simp
  · rw [← hmode]
    rfl

/-- The starve timers of a second event (04 R74). -/
theorem State.counted_starve (s : State) (probe pressure : Int) (x : Resource) :
    let d := (s.sampled probe pressure).countSecond.retryRequested.demand.get x
    (∀ n, d.need = some n →
        ¬ (s.active = true ∧ d.standing = .granted n ∧ d.pending.map Pending.kind ≠ some .yield) →
        d.need = (s.demand.get x).need → d.starve = min ((s.demand.get x).starve + 1) (s.cfg.starveLimit * 60)) ∧
      (d.need = none ∨ (s.active = true ∧ d.pending.map Pending.kind ≠ some .yield ∧
          d.pending.map Pending.kind ≠ some .claim ∧ ∃ n, d.need = some n ∧ d.standing = .granted n) →
        d.starve = 0 ∧ d.starveNoticed = false) := by
  obtain ⟨hmode, -, hcfg, -⟩ := s.sampled_frame probe pressure
  have hactive : (s.sampled probe pressure).active = s.active := by simp only [State.active, hmode]
  have hsampled := s.sampled_demand probe pressure x
  obtain ⟨tx, hretry⟩ := (s.sampled probe pressure).countSecond.retryRequested_get x
  have hcount := (s.sampled probe pressure).countSecond_get x
  rw [hactive, hcfg] at hcount
  rw [hcount] at hretry
  generalize (s.sampled probe pressure).demand.get x = r at hsampled hretry
  obtain ⟨hneed, hstanding, hkind, hstarve, hnoticed⟩ :=
    DemandTx.retry_fields ⟨r.starveTick s.active (s.cfg.starveLimit * 60), tx⟩ x
  rw [← hretry] at hneed hstanding hkind hstarve hnoticed
  obtain ⟨htickNeed, htickStanding, htickPending⟩ := r.starveTick_fields s.active (s.cfg.starveLimit * 60)
  exact DemandRec.starveTick_sampled hsampled (hneed.trans htickNeed) (hstanding.trans htickStanding)
    (hkind.trans (by rw [htickPending])) hstarve hnoticed

/-- Settles O9: the samples after whatever is left over; with nothing left over, the counts as well. -/
theorem secondEventTakesSamples : Obligations.SecondEventTakesSamples := by
  refine ⟨fun probe pressure s hrun => ⟨exec_secondEvent_delay probe pressure hrun, fun hload => ?_⟩,
    fun probe pressure s hrun hload hnothing => ?_⟩
  · obtain ⟨hsample, hprobe, hpsample, hpsensor, htimebase⟩ := s.second_reading probe pressure
    refine ⟨_, exec_secondEvent s probe pressure hrun hload, hsample, ?_, hpsample, ?_, ?_⟩
    · simpa [probeValid] using hprobe
    · simpa [pressureValid] using hpsensor
    · rw [htimebase, s.takeDue_timebase, Timebase.second_settled]
  · obtain ⟨v, hv, hmode, hpour, hcfg, hdrift, hdemand⟩ : ∃ v : State,
        s.second probe pressure = (v.sampled probe pressure).countSecond.retryRequested ∧ v.mode = s.mode ∧ v.pour = s.pour ∧
        v.cfg = s.cfg ∧ v.thermal.drift = s.thermal.drift ∧
        ∀ x, (v.demand.get x).need = (s.demand.get x).need ∧ (v.demand.get x).starve = (s.demand.get x).starve := by
      refine ⟨{ s.takeDue with timebase := s.takeDue.timebase.second }, s.second_eq probe pressure, ?_⟩
      rw [State.takeDue_nothing hnothing]
      exact s.noticesDue_fields
    obtain ⟨htpour, htthermal, htmode⟩ := v.counted_fields probe pressure
    have hstarve := v.counted_starve probe pressure
    refine ⟨_, exec_secondEvent s probe pressure hrun hload, ?_⟩
    rw [hv]
    obtain ⟨-, -, hinBand, houtOfBand, hoff⟩ :=
      Thermal.driftTick_fields (v.probeSample probe).thermal (v.cfg.driftLimit * 60)
    rw [← htthermal, (v.probeSample_reading probe).2.2, hdrift, hcfg] at houtOfBand
    rw [← htthermal, (v.probeSample_reading probe).2.2, hdrift] at hoff
    rw [← htthermal] at hinBand
    refine ⟨?_, hinBand, houtOfBand, hoff, ?_, fun x => ?_⟩
    · rw [htpour, hpour, hcfg]
      exact Pour.second_eq s.pour s.cfg.foamLimit
    · rw [htmode, hmode]
      exact congrArg s.mode.counted (Sync.second_eq s.mode.sync)
    · obtain ⟨hcounts, hends⟩ := hstarve x
      obtain ⟨hneed, hstarted⟩ := hdemand x
      have hactive : v.active = true ↔ s.mode.mode = .active := by rw [v.active_iff, hmode]
      rw [hactive, hneed, hstarted, hcfg] at hcounts
      rw [hactive] at hends
      exact ⟨fun n hn hungranted hsame _ => hcounts n hn hungranted hsame, hends⟩

end Sys2Proof.Machine
end

section
/-! PROOFS. One evaluation of each controller: regime, target and needs, the staging and the publication, and the safety state
(06 R103 to R112, 08 R141, R142). -/

namespace Sys2Proof.Machine

/-! ### The in-band signal (06 R103) -/

/-- Settles O50: the signal's rows, by probe state, regime, effective target and sample. -/
theorem inBandSignal : Obligations.InBandSignal := by
  intro t
  unfold Thermal.inBand
  cases t.probe with
  | unread | fault => simp
  | good =>
    cases heff : t.effective with
    | none => cases t.regime <;> simp
    | some h =>
      cases hsample : t.sample with
      | none => cases t.regime <;> simp
      | some v => cases t.regime <;> simp

/-! ### The regime (06 R104, R105) -/

/-- The rows of R104, a keg under its program's steps being one that is FERMENTING or CONDITIONING. -/
theorem regimeOf_eq (probe : SensorState) (mode : Mode) (phase : Phase) (p : Program) :
    regimeOf probe mode phase p =
      if probe ≠ .good then .off
      else if mode = .vacant then .off
      else if phase = .serving then .serve
      else if (phase = .fermenting ∨ phase = .conditioning) ∧ p.state = .running then .step
      else if (phase = .fermenting ∨ phase = .conditioning) ∧ p.state = .paused ∧
          (p.reasons.sensor = true ∨ p.reasons.kegAbsent = true) then .off
      else if (phase = .fermenting ∨ phase = .conditioning) ∧ p.state = .paused ∧ p.reasons.ordered = true then .frozen
      else .off := by
  unfold regimeOf
  by_cases hprobe : probe = .good
  · by_cases hmode : mode = .vacant
    · simp [hmode]
    · cases phase with
      | none | serving | spent => simp [hprobe, hmode]
      | fermenting | conditioning => cases p.state <;> simp [hprobe, hmode]
  · simp [hprobe]

theorem stepHold_fixed {p : Program} {st : StepRecord} (hst : p.currentStep = some st) (hkind : st.kind ≠ .ramp) :
    stepHold p = some ⟨st.target, st.band⟩ := by
  rw [stepHold, hst, Option.map_some]
  split
  · next hramp _ => exact absurd hramp hkind
  · rfl

theorem stepHold_ramp {p : Program} {st : StepRecord} {r : Ramp} (hst : p.currentStep = some st) (hkind : st.kind = .ramp)
    (hr : p.ramp = some r) : stepHold p = some ⟨r.present, st.band⟩ := by
  rw [stepHold, hst, Option.map_some, hkind, hr]

/-! ### The needs (06 R108 to R111) -/

section
variable {h : Hold} {v : Int} {before : Bool}

/-- Cooling is wanted above the target alone. -/
theorem coolingPresent_above (hp : coolingPresent h v before = true) : h.target < v := by
  simp only [coolingPresent, Bool.or_eq_true, Bool.and_eq_true, decide_eq_true_eq] at hp
  omega

/-- Heating is wanted below the target alone. -/
theorem heatingPresent_below (hp : heatingPresent h v before = true) : v < h.target := by
  simp only [heatingPresent, Bool.or_eq_true, Bool.and_eq_true, decide_eq_true_eq] at hp
  omega

theorem coolingPresent_arises (hv : h.target + h.band < v) : coolingPresent h v before = true := by simp [coolingPresent, hv]

theorem coolingPresent_ends (hv : v ≤ h.target) : coolingPresent h v before = false :=
  Bool.eq_false_iff.mpr fun hp => absurd (coolingPresent_above hp) (by omega)

theorem coolingPresent_stands (hv : h.target < v) (hband : v ≤ h.target + h.band) : coolingPresent h v before = before := by
  simp [coolingPresent, hv, hband]

theorem heatingPresent_arises (hv : v < h.target - h.band) : heatingPresent h v before = true := by simp [heatingPresent, hv]

theorem heatingPresent_ends (hv : h.target ≤ v) : heatingPresent h v before = false :=
  Bool.eq_false_iff.mpr fun hp => absurd (heatingPresent_below hp) (by omega)

theorem heatingPresent_stands (hv : v < h.target) (hband : h.target - h.band ≤ v) : heatingPresent h v before = before := by
  simp [heatingPresent, hv, hband]

end

/-- The class and amount of R109, each test read as the threshold not passed. -/
theorem coolingClass_eq (regime : Regime) (kind : Option StepKind) (h : Hold) (v : Int) (cfg : WorkingCopy) :
    coolingClass regime kind h v cfg =
      if regime = .serve then (if v ≤ cfg.serveMax then ⟨1, .hold⟩ else ⟨2, .protect⟩)
      else if kind = some .crash then ⟨4, .crash⟩
      else if v ≤ h.target + cfg.protectMargin then ⟨2, .ferment⟩ else ⟨2, .protect⟩ := by
  simp only [coolingClass, ← not_le, ite_not]

section
variable (t : Thermal) (mode : Mode) (keg : Keg) (p : Program) (cfg : WorkingCopy)

theorem Thermal.evaluate_regime : (t.evaluate mode keg p cfg).regime = regimeOf t.probe mode keg.phase p := rfl

theorem Thermal.evaluate_effective :
    (t.evaluate mode keg p cfg).effective = effectiveOf (t.evaluate mode keg p cfg).regime p t.frozen keg.serveTarget := rfl

theorem Thermal.evaluate_unaimed (hnone : (t.evaluate mode keg p cfg).effective = none) :
    (t.evaluate mode keg p cfg).cooling = none ∧ (t.evaluate mode keg p cfg).heating = none := by
  change effectiveOf _ p t.frozen keg.serveTarget = none at hnone
  simp only [Thermal.evaluate, hnone, and_self]

theorem Thermal.evaluate_unread (hsample : t.sample = none) :
    (t.evaluate mode keg p cfg).cooling = none ∧ (t.evaluate mode keg p cfg).heating = none := by
  cases hhold : effectiveOf (regimeOf t.probe mode keg.phase p) p t.frozen keg.serveTarget <;>
    simp only [Thermal.evaluate, hsample, hhold, and_self]

section
variable {t mode keg p cfg} {h : Hold} {v : Int} (hhold : (t.evaluate mode keg p cfg).effective = some h)
  (hsample : t.sample = some v)
include hhold hsample

theorem Thermal.evaluate_cooling :
    (t.evaluate mode keg p cfg).cooling = if coolingPresent h v t.cooling.isSome then
      some (coolingClass (t.evaluate mode keg p cfg).regime (p.currentStep.map StepRecord.kind) h v cfg) else none := by
  change effectiveOf _ p t.frozen keg.serveTarget = some h at hhold
  simp only [Thermal.evaluate, hhold, hsample]

theorem Thermal.evaluate_heating :
    (t.evaluate mode keg p cfg).heating =
      if (t.evaluate mode keg p cfg).regime ≠ .serve ∧ heatingPresent h v t.heating.isSome = true then
        some ⟨1, .ferment⟩ else none := by
  change effectiveOf _ p t.frozen keg.serveTarget = some h at hhold
  simp only [Thermal.evaluate, hhold, hsample]

theorem Thermal.evaluate_cooling_isSome :
    (t.evaluate mode keg p cfg).cooling.isSome = coolingPresent h v t.cooling.isSome := by
  rw [Thermal.evaluate_cooling hhold hsample]
  cases coolingPresent h v t.cooling.isSome <;> rfl

theorem Thermal.evaluate_heating_isSome (hregime : (t.evaluate mode keg p cfg).regime ≠ .serve) :
    (t.evaluate mode keg p cfg).heating.isSome = heatingPresent h v t.heating.isSome := by
  rw [Thermal.evaluate_heating hhold hsample]
  cases heatingPresent h v t.heating.isSome <;> simp [hregime]

end

/-- Never both: the one need asks for a sample above the target, the other for a sample below it (06 R111). -/
theorem Thermal.evaluate_exclusive :
    ¬ ((t.evaluate mode keg p cfg).cooling.isSome = true ∧ (t.evaluate mode keg p cfg).heating.isSome = true) := by
  rintro ⟨hcooling, hheating⟩
  cases hhold : (t.evaluate mode keg p cfg).effective with
  | none => simp [(t.evaluate_unaimed mode keg p cfg hhold).1] at hcooling
  | some h =>
    cases hsample : t.sample with
    | none => simp [(t.evaluate_unread mode keg p cfg hsample).1] at hcooling
    | some v =>
      rw [Thermal.evaluate_cooling_isSome hhold hsample] at hcooling
      have hregime : (t.evaluate mode keg p cfg).regime ≠ .serve := fun hserve => by
        simp [Thermal.evaluate_heating hhold hsample, hserve] at hheating
      rw [Thermal.evaluate_heating_isSome hhold hsample hregime] at hheating
      exact absurd (coolingPresent_above hcooling) (not_lt.mpr (heatingPresent_below hheating).le)

end

/-- Settles O37: the rows of R104 in their order, the target by regime, and each need by its thresholds. -/
theorem thermalEvaluation : Obligations.ThermalEvaluation := by
  intro s
  rw [State.thermalEval_thermal]
  dsimp only
  have heffective : ∀ r, (s.thermal.evaluate s.mode.mode s.keg s.program s.cfg).regime = r →
      (s.thermal.evaluate s.mode.mode s.keg s.program s.cfg).effective =
        effectiveOf r s.program s.thermal.frozen s.keg.serveTarget := fun r hr => hr ▸ s.thermal.evaluate_effective ..
  have hregime := (s.thermal.evaluate_regime s.mode.mode s.keg s.program s.cfg).trans (regimeOf_eq _ _ _ _)
  refine ⟨hregime, fun hoff => ?_, fun hserve => ?_, fun hfrozen => heffective _ hfrozen, fun st hstep hst => ?_,
    fun h v hhold hsample => ?_, s.thermal.evaluate_exclusive _ _ _ _⟩
  · have hnone := heffective _ hoff
    exact ⟨hnone, s.thermal.evaluate_unaimed _ _ _ _ hnone⟩
  · have hhold := heffective _ hserve
    refine ⟨hhold, ?_⟩
    cases hsample : s.thermal.sample with
    | none => exact (s.thermal.evaluate_unread _ _ _ _ hsample).2
    | some v => rw [Thermal.evaluate_heating hhold hsample, if_neg (by simp [hserve])]
  · exact ⟨fun hkind => (heffective _ hstep).trans (stepHold_fixed hst hkind),
      fun r hkind hr => (heffective _ hstep).trans (stepHold_ramp hst hkind hr)⟩
  · have hcooling := Thermal.evaluate_cooling hhold hsample
    have hcools := Thermal.evaluate_cooling_isSome hhold hsample
    have hheating := Thermal.evaluate_heating hhold hsample
    refine ⟨fun hv => hcools.trans (coolingPresent_arises hv), fun hv => ?_,
      fun hv hband => hcools.trans (coolingPresent_stands hv hband), fun n hn => ?_, fun hnot => ?_, fun n hn => ?_⟩
    · rw [hcooling, coolingPresent_ends hv, if_neg Bool.false_ne_true]
    · obtain ⟨-, hclass⟩ := (Option.ite_none_right_eq_some ..).mp (hcooling.symm.trans hn)
      exact (Option.some.inj hclass).symm.trans (coolingClass_eq ..)
    · have hheats := Thermal.evaluate_heating_isSome hhold hsample hnot
      refine ⟨fun hv => hheats.trans (heatingPresent_arises hv), fun hv => ?_,
        fun hband hv => hheats.trans (heatingPresent_stands hv hband)⟩
      rw [hheating, heatingPresent_ends hv, if_neg (by simp)]
    · obtain ⟨-, hclass⟩ := (Option.ite_none_right_eq_some ..).mp (hheating.symm.trans hn)
      exact (Option.some.inj hclass).symm

end Sys2Proof.Machine
end

section
/-! PROOFS. What an evaluation of each controller writes: its staging, its needs, the safety state and the flag raised as it trips
(06 R107, R112, 08 R141, R142). -/

namespace Sys2Proof.Machine

section
variable (s : State)

/-! ### The thermal controller (06 R107, R112) -/

theorem State.thermalEval_staged :
    s.thermalEval.staged = { s.staged with
      chillValve := s.thermalEval.thermal.cooling.isSome, heater := s.thermalEval.thermal.heating.isSome } := by
  rw [State.thermalEval_thermal]
  simp [State.thermalEval]

theorem State.thermalEval_evaluationsOnly : EvaluationsOnly s s.thermalEval := by
  simp [EvaluationsOnly, State.thermalEval_staged, State.thermalEval_thermal, Thermal.evaluate]

/-! ### The pressure controller (08 R141, R142) -/

theorem State.pressureEvalFrom_pressure (before : Bool) :
    (s.pressureEvalFrom before).pressure = { s.pressure with
      tripped := s.pressure.judged s.cfg.safetyLimit, gasNeed := s.gasNeedNow (s.pressure.judged s.cfg.safetyLimit) } := by
  simp [State.pressureEvalFrom]

theorem State.pressureEvalFrom_staged (before : Bool) :
    (s.pressureEvalFrom before).staged = { s.staged with
      reliefValve := spundStaging s.pressure s.keg.phase s.program.offeredSpund s.staged.reliefValve
      gasValve := (s.pressureEvalFrom before).pressure.gasNeed.isSome } := by
  simp [State.pressureEvalFrom]

theorem State.pressureEval_evaluationsOnly : EvaluationsOnly s s.pressureEval := by
  have hprogram : { s.pressureEval.program with currentHour := s.program.currentHour } = s.program := by
    rw [s.pressureEval_program]
  have hstaged := s.pressureEvalFrom_staged s.relief
  have hpressure := s.pressureEvalFrom_pressure s.relief
  rw [← State.pressureEval] at hstaged hpressure
  simp [EvaluationsOnly, hprogram, hstaged, hpressure]

theorem State.pressureEvalFrom_gas (before : Bool) :
    ((s.pressureEvalFrom before).demand.get .gas).need = (s.pressureEvalFrom before).pressure.gasNeed := by
  rw [s.pressureEvalFrom_pressure before]
  exact (State.publish_published _ .gas _).2

theorem Pressure.judged_unread {p : Pressure} (limit : Nat) (h : p.sensor ≠ .good) : p.judged limit = p.tripped := by
  simp [Pressure.judged, Pressure.reading, h]

/-- The safety state and OVER-PRESSURE after an evaluation, by the state judged. -/
theorem State.pressureEval_safety {tripped : Bool} (hjudged : s.pressure.judged s.cfg.safetyLimit = tripped) :
    s.pressureEval.pressure.tripped = tripped ∧
      s.pressureEval.notice = if tripped = true ∧ s.pressure.tripped = false then s.notice.raised 0x0002 else s.notice := by
  rw [State.pressureEval, State.pressureEvalFrom_tripped, State.pressureEvalFrom_notice, hjudged]
  refine ⟨rfl, ?_⟩
  cases tripped <;> cases s.pressure.tripped <;>
    simp [flagIf, Notice.raised_zero, Flag.mask, Flag.bit, BitVec.twoPow]

end

/-- Settles O36: the frames of the two evaluations, and the safety state by the sample's place about the limit. -/
theorem controllerEvaluations : Obligations.ControllerEvaluations := by
  refine ⟨fun s => ?_, fun s v hv => ⟨fun hgood hlimit => ?_, fun hgood hbelow => ?_, fun hsensor => ?_⟩⟩
  · obtain ⟨-, ⟨-, hchill⟩, -, hheat⟩ := s.thermalEval_published
    have hstaged := s.pressureEvalFrom_staged s.relief
    rw [s.thermalEval_staged, State.pressureEval, hstaged]
    exact ⟨s.thermalEval_evaluationsOnly, s.pressureEval_evaluationsOnly, by simp, by simp, by simp, by simp, rfl, rfl, rfl,
      hchill, hheat, s.pressureEvalFrom_gas _⟩
  · have hjudged : s.pressure.judged s.cfg.safetyLimit = true := by rw [Pressure.judged_of_sample _ hgood hv, if_pos hlimit]
    obtain ⟨htripped, hnotice⟩ := s.pressureEval_safety hjudged
    refine ⟨htripped, hnotice.trans ?_⟩
    cases s.pressure.tripped <;> rfl
  · have hjudged : s.pressure.judged s.cfg.safetyLimit =
        (s.pressure.tripped && decide ((s.cfg.safetyLimit : Int) - 20 < v)) := by
      rw [Pressure.judged_of_sample _ hgood hv, if_neg (not_le.mpr hbelow)]
      split_ifs with hclear
      · simp [not_lt.mpr hclear]
      · simp [not_le.mp hclear]
    obtain ⟨htripped, hnotice⟩ := s.pressureEval_safety hjudged
    refine ⟨htripped, hnotice.trans (if_neg ?_)⟩
    cases s.pressure.tripped <;> simp
  · obtain ⟨htripped, hnotice⟩ := s.pressureEval_safety (Pressure.judged_unread s.cfg.safetyLimit hsensor)
    refine ⟨htripped, hnotice.trans (if_neg ?_)⟩
    cases s.pressure.tripped <;> simp

end Sys2Proof.Machine
end

section
/-! PROOFS. The thermal law and the relief law through every step: an evaluation of the thermal controller makes the one, an
evaluation of the pressure controller the other, and what evaluates neither writes nothing that either reads (06 R111, R112,
08 R141, R144). -/

namespace Sys2Proof.Machine

/-! ### What the two laws read -/

/-- What the thermal law reads stands. -/
def SameThermal (s t : State) : Prop :=
  t.staged.chillValve = s.staged.chillValve ∧ t.staged.heater = s.staged.heater ∧ t.thermal.cooling = s.thermal.cooling ∧
    t.thermal.heating = s.thermal.heating

/-- What the relief law reads stands. -/
def SameRelief (s t : State) : Prop :=
  t.pressure.sensor = s.pressure.sensor ∧ t.pressure.sample = s.pressure.sample ∧ t.pressure.tripped = s.pressure.tripped ∧
    t.cfg.safetyLimit = s.cfg.safetyLimit

/-- Each of the two laws that holds at r holds at s. -/
def LawsCarried (r s : State) : Prop :=
  (thermalLaw r = true → thermalLaw s = true) ∧ (reliefLaw r = true → reliefLaw s = true)

theorem LawsCarried.refl (s : State) : LawsCarried s s := ⟨id, id⟩

section
variable {s t : State}

theorem thermalLaw_congr (h : SameThermal s t) : thermalLaw t = thermalLaw s := by
  obtain ⟨hchill, hheater, hcooling, hheating⟩ := h
  simp only [thermalLaw, hchill, hheater, hcooling, hheating]

theorem reliefLaw_congr (h : SameRelief s t) : reliefLaw t = reliefLaw s := by
  obtain ⟨hsensor, hsample, htripped, hlimit⟩ := h
  simp only [reliefLaw, Pressure.reading, hsensor, hsample, htripped, hlimit]

/-! ### The evaluations make the laws -/

/-- The staging is the needs', and the needs exclude each other (06 R111, R112). -/
theorem thermalLaw_thermalEval (s : State) : thermalLaw s.thermalEval = true := by
  have hnever := s.thermal.evaluate_exclusive s.mode.mode s.keg s.program s.cfg
  rw [← s.thermalEval_thermal, ← Bool.and_eq_true, Bool.not_eq_true] at hnever
  simp [thermalLaw, State.thermalEval_staged, hnever]

/-- A reading at or above the limit is judged TRIPPED (08 R141). -/
theorem reliefLaw_pressureEvalFrom (before : Bool) (s : State) : reliefLaw (s.pressureEvalFrom before) = true := by
  have hreading : (s.pressureEvalFrom before).pressure.reading = s.pressure.reading := by
    rw [s.pressureEvalFrom_pressure before]
    rfl
  have hcfg : (s.pressureEvalFrom before).cfg = s.cfg := by simp
  unfold reliefLaw
  rw [hreading, s.pressureEvalFrom_tripped before, hcfg, Pressure.judged]
  cases s.pressure.reading with
  | none => rfl
  | some v =>
    by_cases hlimit : (s.cfg.safetyLimit : Int) ≤ v
    · simp [hlimit]
    · simp [not_le.mp hlimit]

theorem State.thermalEval_sameRelief (s : State) : SameRelief s s.thermalEval := by simp [SameRelief]

theorem State.pressureEvalFrom_sameThermal (before : Bool) (s : State) : SameThermal s (s.pressureEvalFrom before) := by
  simp [SameThermal, s.pressureEvalFrom_staged before]

end

/-- A second of the drift timer writes the timer and its mark (06 R113). -/
theorem Thermal.driftTick_eq (t : Thermal) (limit : Nat) :
    ∃ drift noticed, t.driftTick limit = { t with drift := drift, driftNoticed := noticed } := by
  unfold Thermal.driftTick
  split_ifs <;> exact ⟨_, _, rfl⟩

/-! ### The laws carried through each operation -/

section
variable {r s : State} (h : LawsCarried r s)
include h

theorem LawsCarried.same {t : State} (hthermal : SameThermal s t) (hrelief : SameRelief s t) : LawsCarried r t :=
  ⟨fun hr => (thermalLaw_congr hthermal).trans (h.1 hr), fun hr => (reliefLaw_congr hrelief).trans (h.2 hr)⟩

/-- An operation that leaves both controllers, their staging and the working copy. -/
theorem LawsCarried.aside {t : State}
    (hleft : t.thermal = s.thermal ∧ t.pressure = s.pressure ∧ t.staged = s.staged ∧ t.cfg = s.cfg) : LawsCarried r t := by
  obtain ⟨hthermal, hpressure, hstaged, hcfg⟩ := hleft
  exact h.same (by simp [SameThermal, hthermal, hstaged]) (by simp [SameRelief, hpressure, hcfg])

theorem LawsCarried.thermalEval : LawsCarried r s.thermalEval :=
  ⟨fun _ => thermalLaw_thermalEval s, fun hr => (reliefLaw_congr s.thermalEval_sameRelief).trans (h.2 hr)⟩

theorem LawsCarried.pressureEvalFrom (before : Bool) : LawsCarried r (s.pressureEvalFrom before) :=
  ⟨fun hr => (thermalLaw_congr (s.pressureEvalFrom_sameThermal before)).trans (h.1 hr),
    fun _ => reliefLaw_pressureEvalFrom before s⟩

theorem LawsCarried.pressureEval : LawsCarried r s.pressureEval := h.pressureEvalFrom _

/-! #### The program (07) -/

theorem LawsCarried.endStep : LawsCarried r s.endStep := by
  have hended : LawsCarried r (State.raise { s with program := s.program.finish, keg := s.keg.finish s.program }
      s.program.finishFlags) := h.aside ⟨rfl, rfl, rfl, rfl⟩
  exact hended.thermalEval.pressureEval

theorem LawsCarried.minute : LawsCarried r s.minute := by
  have hdue : LawsCarried r (State.dueTest { s with program := s.program.minute s.thermal.inBand }) :=
    h.aside ⟨rfl, rfl, rfl, rfl⟩
  unfold State.minute
  dsimp only
  split_ifs
  · exact hdue.endStep
  · exact hdue.thermalEval
  · exact hdue

theorem LawsCarried.hour : LawsCarried r s.hour := by
  have hmoved : LawsCarried r { s with program := s.program.hour } := h.aside ⟨rfl, rfl, rfl, rfl⟩
  unfold State.hour
  dsimp only
  split_ifs
  · exact hmoved.endStep
  · exact hmoved

theorem LawsCarried.minuteEvent : LawsCarried r s.minuteEvent := by
  unfold State.minuteEvent
  split_ifs
  · exact LawsCarried.minute (h.aside ⟨rfl, rfl, rfl, rfl⟩)
  · exact h

theorem LawsCarried.hourEvent : LawsCarried r s.hourEvent := by
  unfold State.hourEvent
  split_ifs
  · exact LawsCarried.hour (h.aside ⟨rfl, rfl, rfl, rfl⟩)
  · exact h

theorem LawsCarried.pauseFor (reason : PauseReason) : LawsCarried r (s.pauseFor reason) := by
  unfold State.pauseFor
  split
  · exact LawsCarried.thermalEval (h.same ⟨rfl, rfl, rfl, rfl⟩ ⟨rfl, rfl, rfl, rfl⟩)
  · exact h

/-! #### The samples (06 R100, 08 R138) -/

theorem LawsCarried.probeSecond (v : Int) : LawsCarried r (s.probeSecond v) := by
  have htaken : LawsCarried r (s.probeTaken v) := by
    have hread : LawsCarried r (s.probeRead v) := h.same ⟨rfl, rfl, rfl, rfl⟩ ⟨rfl, rfl, rfl, rfl⟩
    unfold State.probeTaken
    split_ifs
    · exact hread.pauseFor _
    · exact hread
  have hsample : LawsCarried r (s.probeSample v) := s.probeSample_eq v ▸ htaken.thermalEval
  obtain ⟨drift, noticed, hdrift⟩ := (s.probeSample v).thermal.driftTick_eq (driftSeconds (s.probeSample v).cfg)
  rw [State.probeSecond, hdrift]
  exact hsample.same ⟨rfl, rfl, rfl, rfl⟩ ⟨rfl, rfl, rfl, rfl⟩

/-- The reading may stand unjudged before the evaluation, which judges it. -/
theorem LawsCarried.pressureSample (v : Int) : LawsCarried r (s.pressureSample v) :=
  ⟨fun hr => (thermalLaw_congr (State.pressureEvalFrom_sameThermal _ _)).trans (h.1 hr),
    fun _ => reliefLaw_pressureEvalFrom _ _⟩

/-! #### The pour (09) -/

theorem LawsCarried.endPour (reason : EndReason) : LawsCarried r (s.endPour reason) := by
  unfold State.endPour
  split_ifs
  · exact LawsCarried.pressureEval (h.same ⟨rfl, rfl, rfl, rfl⟩ ⟨rfl, rfl, rfl, rfl⟩)
  · exact h

theorem LawsCarried.checkPour (q : PourRequest) : LawsCarried r (s.checkPour q) := by
  unfold State.checkPour
  split
  · exact h.aside ⟨rfl, rfl, rfl, rfl⟩
  · exact LawsCarried.pressureEval (h.same ⟨rfl, rfl, rfl, rfl⟩ ⟨rfl, rfl, rfl, rfl⟩)

theorem LawsCarried.refusePour (reason : PourRefusal) : LawsCarried r (s.refusePour reason) := h.aside ⟨rfl, rfl, rfl, rfl⟩

theorem LawsCarried.arbitrate (l : List PourRequest) : LawsCarried r (s.arbitrate l) := by
  have hdrawn : LawsCarried r { s with draws := s.draws + 1 } := h.aside ⟨rfl, rfl, rfl, rfl⟩
  unfold State.arbitrate
  split
  · exact h
  · split_ifs
    · exact h.refusePour _
    · exact h.checkPour _
    · exact (hdrawn.refusePour _).checkPour _
    · exact (hdrawn.checkPour _).refusePour _

theorem LawsCarried.meterOne : LawsCarried r s.meterOne := by
  unfold State.meterOne
  dsimp only
  split
  · refine LawsCarried.endPour ?_ _
    exact h.aside ⟨rfl, rfl, rfl, rfl⟩
  · exact h.aside ⟨rfl, rfl, rfl, rfl⟩

theorem LawsCarried.meterMany (n : Nat) : LawsCarried r (State.meterMany n s) := by
  induction n generalizing s with
  | zero => exact h
  | succ n ih => exact ih h.meterOne

theorem LawsCarried.pulse : LawsCarried r s.pulse := by
  unfold State.pulse
  dsimp only
  split_ifs
  · refine LawsCarried.meterMany ?_ _
    exact h.aside ⟨rfl, rfl, rfl, rfl⟩
  · exact h

theorem LawsCarried.emptyDue : LawsCarried r s.emptyDue := by
  unfold State.emptyDue
  dsimp only
  split_ifs
  · refine (LawsCarried.thermalEval ?_).pressureEval
    exact (h.endPour .empty).aside ⟨rfl, rfl, rfl, rfl⟩
  · exact h

theorem LawsCarried.foamDue : LawsCarried r s.foamDue := by
  unfold State.foamDue
  split_ifs
  · exact h.endPour _
  · exact h

theorem LawsCarried.settleDue : LawsCarried r s.settleDue := by
  unfold State.settleDue
  split_ifs
  · exact LawsCarried.pressureEval (h.aside ⟨rfl, rfl, rfl, rfl⟩)
  · exact h

/-! #### The mode and the inputs (05 R83, 10 R171) -/

theorem LawsCarried.enterVacant : LawsCarried r s.enterVacant :=
  LawsCarried.thermalEval (h.aside (by simp))

theorem LawsCarried.enterJoining : LawsCarried r s.enterJoining :=
  LawsCarried.thermalEval (h.aside (by simp))

theorem LawsCarried.leakBegin : LawsCarried r s.leakBegin := by
  have hlocked : LawsCarried r s.leakLocked := h.same ⟨rfl, rfl, rfl, rfl⟩ ⟨rfl, rfl, rfl, rfl⟩
  exact hlocked.pressureEval.aside ⟨rfl, rfl, rfl, rfl⟩

theorem LawsCarried.leakEnd : LawsCarried r s.leakEnd :=
  LawsCarried.pressureEval (h.same ⟨rfl, rfl, rfl, rfl⟩ ⟨rfl, rfl, rfl, rfl⟩)

theorem LawsCarried.kegLost : LawsCarried r s.kegLost := (h.endPour _).pauseFor _

theorem LawsCarried.kegPresentTaken (k : Taken) : LawsCarried r (s.kegPresentTaken k) := by
  cases k with
  | nothing => exact h
  | assertion =>
    unfold State.kegPresentTaken
    dsimp only
    split_ifs
    · exact h.enterJoining.pressureEval
    · exact h.pressureEval
  | deassertion =>
    unfold State.kegPresentTaken
    dsimp only
    split_ifs
    · exact h.kegLost.enterVacant.pressureEval
    · exact h.kegLost.pressureEval

theorem LawsCarried.coupledTaken (k : Taken) : LawsCarried r (s.coupledTaken k) := by
  cases k with
  | nothing => exact h
  | assertion => exact h.pressureEval
  | deassertion => exact h.kegLost.pressureEval

theorem LawsCarried.leakTaken (k : Taken) : LawsCarried r (s.leakTaken k) := by
  cases k with
  | nothing => exact h
  | assertion => exact h.leakBegin
  | deassertion => exact h.leakEnd

theorem LawsCarried.dripTaken (k : Taken) : LawsCarried r (s.dripTaken k) := h.aside (by simp)

theorem LawsCarried.handleTaken (k : Taken) : LawsCarried r (s.handleTaken k) := by
  cases k with
  | nothing | assertion => exact h
  | deassertion =>
    unfold State.handleTaken
    dsimp only
    split_ifs
    · exact h.endPour _
    · exact h

theorem LawsCarried.handOn (before : State) : LawsCarried r (State.handOn before s) :=
  ((((h.kegPresentTaken _).coupledTaken _).leakTaken _).dripTaken _).handleTaken _

/-! #### The second event (05 R78; log 5) -/

theorem LawsCarried.driftDue : LawsCarried r s.driftDue := by
  unfold State.driftDue
  split_ifs
  · exact h.same ⟨rfl, rfl, rfl, rfl⟩ ⟨rfl, rfl, rfl, rfl⟩
  · exact h

theorem LawsCarried.takeDue : LawsCarried r s.takeDue :=
  h.minuteEvent.hourEvent.driftDue.emptyDue.foamDue.settleDue.aside (by simp [State.takeDue])

theorem LawsCarried.second (probe pressure : Int) : LawsCarried r (s.second probe pressure) := by
  have hdue := h.takeDue
  rw [s.second_eq, State.sampled]
  generalize s.takeDue = v at hdue ⊢
  have hticked : LawsCarried r { v with timebase := v.timebase.second } := hdue.aside ⟨rfl, rfl, rfl, rfl⟩
  exact ((hticked.probeSecond probe).pressureSample pressure).aside (by simp)

/-! #### The configuration load (05 R79, R80) -/

theorem LawsCarried.leaveStarting : LawsCarried r s.leaveStarting := by
  by_cases haddress : IsBay s.line.address
  · have hleft : LawsCarried r s.leftStarting := by
      unfold State.leftStarting
      split_ifs
      · exact h.aside (by simp)
      · exact LawsCarried.thermalEval (h.aside (by simp))
    rw [s.leaveStarting_bay haddress]
    split_ifs
    · exact hleft.aside ⟨rfl, rfl, rfl, rfl⟩
    · exact hleft
  · rw [s.leaveStarting_other haddress]
    exact h

theorem LawsCarried.leakJudged : LawsCarried r s.leakJudged := by
  have hkeg : LawsCarried r s.kegJudged := by
    unfold State.kegJudged
    split_ifs
    · exact h
    · exact h.pauseFor _
  unfold State.leakJudged
  split_ifs
  · exact hkeg.leakBegin
  · exact hkeg

theorem LawsCarried.judgeInputs : LawsCarried r s.judgeInputs :=
  LawsCarried.pressureEval (h.leakJudged.aside ⟨rfl, rfl, rfl, rfl⟩)

/-- The loaded safety limit may lie below a sample taken before it: the evaluation that judges the inputs judges that sample. -/
theorem LawsCarried.configLoadEnd (read : Option WorkingCopy) :
    LawsCarried r ((s.takeConfig read).judgeInputs).leaveStarting := by
  have hthermal : SameThermal s (s.takeConfig read) := ⟨rfl, rfl, rfl, rfl⟩
  exact ⟨fun hr => (LawsCarried.refl _).judgeInputs.leaveStarting.1 ((thermalLaw_congr hthermal).trans (h.1 hr)),
    fun _ => (LawsCarried.refl _).leaveStarting.2 (reliefLaw_pressureEvalFrom _ _)⟩

end

/-! ### The rows -/

/-- Both laws hold after a start: closed outputs, no needs, no sample. -/
theorem LawsCarried.started (r : State) {reason : StartReason} {strap : BitVec 4} {frozen : Option Hold} {program : Program}
    {log : List LogEntry} {keg : Keg} {notice : Notice} {inputs : Inputs} {draws : Nat} {pending : List Instr} :
    LawsCarried r (State.started reason strap frozen program log keg notice inputs draws pending) :=
  ⟨fun _ => rfl, fun _ => rfl⟩

section
variable {r s t : State} (h : LawsCarried r s)
include h

theorem LawsCarried.frameRow {ok : FrameClass → Bool} {f : RxEntry → State → State}
    (hf : ∀ e u, LawsCarried r u → LawsCarried r (f e u)) (he : whileRunning s (fun s => takeFrame s ok f) = .next t) :
    LawsCarried r t :=
  frameRow_keeps h (fun _ => h.aside ⟨rfl, rfl, rfl, rfl⟩) hf he

theorem LawsCarried.orderRow {o : OrderCode} {p : List Byte → State → Reply}
    (hp : ∀ a u, LawsCarried r u → LawsCarried r (p a u).state) (he : orderRow o p s = .next t) : LawsCarried r t :=
  orderRow_keeps h (fun _ => h.aside ⟨rfl, rfl, rfl, rfl⟩) (fun _ hu => hu.aside ⟨rfl, rfl, rfl, rfl⟩)
    (fun _ _ _ _ _ hu => hu.aside ⟨rfl, rfl, rfl, rfl⟩) hp he

end

/-! #### What the orders perform (11 R185, R186) -/

section
variable {r s : State} (h : LawsCarried r s) (args : List Byte)
include h

theorem LawsCarried.setFill : LawsCarried r (State.setFill args s).state := by
  unfold State.setFill
  split
  · exact h
  · split
    · split
      · split
        · exact h
        · dsimp only
          rw [State.done_state]
          split
          · exact h.aside ⟨rfl, rfl, rfl, rfl⟩
          · refine (LawsCarried.thermalEval ?_).pressureEval
            exact h.aside ⟨rfl, rfl, rfl, rfl⟩
      · exact h
    · exact h

theorem LawsCarried.setServe : LawsCarried r (State.setServe args s).state := by
  unfold State.setServe
  split
  · split
    · rw [State.done_state]
      refine (LawsCarried.thermalEval ?_).pressureEval
      exact h.aside ⟨rfl, rfl, rfl, rfl⟩
    · exact h
  · exact h

theorem LawsCarried.loadStep : LawsCarried r (State.loadStep args s).state := by
  unfold State.loadStep
  split
  · split
    · split
      · dsimp only
        rw [State.done_state]
        split
        · exact h.aside ⟨rfl, rfl, rfl, rfl⟩
        · refine LawsCarried.thermalEval ?_
          exact h.aside ⟨rfl, rfl, rfl, rfl⟩
      · exact h
    · exact h
  · exact h

theorem LawsCarried.clearProgram : LawsCarried r (State.clearProgram args s).state := by
  unfold State.clearProgram
  split_ifs
  · exact h
  · exact h
  · rw [State.done_state]
    refine (LawsCarried.thermalEval ?_).pressureEval
    exact h.aside ⟨rfl, rfl, rfl, rfl⟩

theorem LawsCarried.startProgram : LawsCarried r (State.startProgram args s).state := by
  unfold State.startProgram
  split_ifs
  · rw [State.done_state]
    refine (LawsCarried.thermalEval ?_).pressureEval
    exact h.aside ⟨rfl, rfl, rfl, rfl⟩
  · exact h

theorem LawsCarried.pauseProgram : LawsCarried r (State.pauseProgram args s).state := by
  unfold State.pauseProgram
  split_ifs
  · exact h.pauseFor _
  · exact h

theorem LawsCarried.resumeProgram : LawsCarried r (State.resumeProgram args s).state := by
  have hleft : ∀ p, LawsCarried r (if p = s.program then s else State.thermalEval { s with program := p }) := fun p => by
    split
    · exact h
    · refine LawsCarried.thermalEval ?_
      exact h.aside ⟨rfl, rfl, rfl, rfl⟩
  unfold State.resumeProgram
  split
  · dsimp only
    split
    · exact hleft _
    · exact hleft _
  · exact h

theorem LawsCarried.advanceStep : LawsCarried r (State.advanceStep args s).state := by
  unfold State.advanceStep
  split_ifs
  · exact h.endStep
  · exact h

theorem LawsCarried.stopPour : LawsCarried r (State.stopPour args s).state := by
  unfold State.stopPour
  split_ifs
  · exact h.endPour _
  · exact h

end

section
variable {r s t : State} (h : LawsCarried r s)
include h

theorem LawsCarried.row {c : Instr} (he : exec c s = .next t) : LawsCarried r t := by
  cases c with
  | coldStart strap => cases he; exact .started r
  | dipStart strap => cases he; exact .started r
  | supplyFall => cases he; exact h.aside ⟨rfl, rfl, rfl, rfl⟩
  | orderedStart strap =>
    cases he
    split_ifs
    · exact .started r
    · exact h
  | configLoadEnd read =>
    refine whileRunning_keeps h ?_ he
    split_ifs
    · exact h.configLoadEnd _
    · exact h
  | secondEvent probe pressure =>
    change execSecondEvent probe pressure s = .next t at he
    rw [execSecondEvent] at he
    refine whileRunning_keeps h ?_ he
    split_ifs
    · exact h
    · exact h.second _ _
  | minuteEvent => exact whileRunning_keeps h h.minuteEvent he
  | hourEvent => exact whileRunning_keeps h h.hourEvent he
  | meterPulse => exact whileRunning_keeps h h.pulse he
  | driftLimit => exact whileRunning_keeps h h.driftDue he
  | emptyEnd => exact whileRunning_keeps h h.emptyDue he
  | foamEnd => exact whileRunning_keeps h h.foamDue he
  | settlingEnd => exact whileRunning_keeps h h.settleDue he
  | pinChange input high => cases he; exact h.aside ⟨rfl, rfl, rfl, rfl⟩
  | inputSettled inputs =>
    change execInputSettled inputs s = .next t at he
    rw [execInputSettled] at he
    refine whileRunning_keeps h ?_ he
    have hsettled : LawsCarried r (s.settleAll inputs) := h.aside ⟨rfl, rfl, rfl, rfl⟩
    exact (hsettled.handOn s).arbitrate _
  | configLoad | lineIdle | breakSeen => exact whileRunning_keeps h (by split_ifs <;> exact h.aside ⟨rfl, rfl, rfl, rfl⟩) he
  | stub =>
    change execStub s = .next t at he
    rw [execStub] at he
    exact whileRunning_keeps h (by split <;> exact h.aside ⟨rfl, rfl, rfl, rfl⟩) he
  | frameEnd falseStart chars =>
    refine whileRunning_keeps h ?_ he
    split_ifs
    · exact h.aside (by simp)
    · exact h
  | frameBroken cause falseStart chars =>
    refine whileRunning_keeps h ?_ he
    split_ifs
    · exact h.aside (by simp)
    · exact h
  | slotBegin wireHigh =>
    change execSlotBegin wireHigh s = .next t at he
    rw [execSlotBegin] at he
    refine whileRunning_keeps h ?_ he
    split
    · split_ifs
      · exact h.aside (by simp)
      · exact h
    · exact h
  | quietWindow =>
    change execQuietWindow s = .next t at he
    rw [execQuietWindow] at he
    refine whileRunning_keeps h ?_ he
    split
    · split_ifs <;> exact h.aside ⟨rfl, rfl, rfl, rfl⟩
    · exact h
  | lostArbitration bit =>
    change execLostArbitration bit s = .next t at he
    rw [execLostArbitration] at he
    refine whileRunning_keeps h ?_ he
    split
    · split_ifs <;> exact h.aside ⟨rfl, rfl, rfl, rfl⟩
    · exact h
  | sendFault bit =>
    change execSendFault bit s = .next t at he
    rw [execSendFault] at he
    refine whileRunning_keeps h ?_ he
    split
    · split_ifs
      · exact h.aside (by simp)
      · exact h
    · exact h
  | frameComplete =>
    change execFrameComplete s = .next t at he
    rw [execFrameComplete] at he
    refine whileRunning_keeps h ?_ he
    split
    · exact h.aside (by simp)
    · exact h
  | frameRejected => exact h.frameRow (fun _ _ hu => hu.aside (by simp)) he
  | frameNoBlock => exact h.frameRow (fun _ _ hu => hu) he
  | claim | renew | yield | yieldAll | expire | syncAsk | syncTable | announce =>
    exact h.frameRow (fun _ _ hu => hu.aside (by simp)) he
  | answerWaitExpiry | restEnd | announceTimer | rosterEntryRemoved _ | renewPoint _ | lapse _ | expiryPoint _ | starveLimit _ =>
    exact whileRunning_keeps h (h.aside (by simp)) he
  | readStatus | readKeg => exact h.orderRow (fun _ _ hu => hu) he
  | readStep | readPourLog | readNotices | clearNotices | setNoticeEnable | raiseNotice | restartBay =>
    exact h.orderRow (fun _ _ hu => hu.aside (by simp)) he
  | setFill => exact h.orderRow (fun a _ hu => hu.setFill a) he
  | setServe => exact h.orderRow (fun a _ hu => hu.setServe a) he
  | loadStep => exact h.orderRow (fun a _ hu => hu.loadStep a) he
  | clearProgram => exact h.orderRow (fun a _ hu => hu.clearProgram a) he
  | startProgram => exact h.orderRow (fun a _ hu => hu.startProgram a) he
  | pauseProgram => exact h.orderRow (fun a _ hu => hu.pauseProgram a) he
  | resumeProgram => exact h.orderRow (fun a _ hu => hu.resumeProgram a) he
  | advanceStep => exact h.orderRow (fun a _ hu => hu.advanceStep a) he
  | stopPour => exact h.orderRow (fun a _ hu => hu.stopPour a) he
  | pourPortion settled =>
    refine h.frameRow (fun e u hu => ?_) he
    have hsettled : LawsCarried r (u.settleAll settled) := hu.aside ⟨rfl, rfl, rfl, rfl⟩
    exact State.pourPortionRow_keeps _ _ _ (fun l => (hsettled.handOn u).arbitrate l)
      (fun _ hv => hv.aside ⟨rfl, rfl, rfl, rfl⟩) (fun _ _ _ _ hv => hv.aside ⟨rfl, rfl, rfl, rfl⟩)
  | unknownOrder =>
    refine h.frameRow (fun _ _ hu => ?_) he
    split_ifs <;> exact hu.aside ⟨rfl, rfl, rfl, rfl⟩

end

/-- Settles O55: what holds of the two laws before the step is carried through the tick and through every row. -/
theorem everyStepKeepsTheThermalAndReliefLaws : Obligations.EveryStepKeepsTheThermalAndReliefLaws := by
  intro s t he
  refine step_keeps (P := LawsCarried s) (fun _ _ hu => hu.aside ⟨rfl, rfl, rfl, rfl⟩) (fun u hu => ?_)
    (fun _ _ _ hu => hu.row) s t (.refl s) he
  rw [State.tick_eq]
  split_ifs <;> exact hu.aside ⟨rfl, rfl, rfl, rfl⟩

end Sys2Proof.Machine
end

section
/-! PROOFS. Sensor faults and recovery (06 R100 to R102, 07 R129, R133, 08 R138 to R140, R144): what a second event keeps of the
plant before its samples, then each sample, then the row. -/

namespace Sys2Proof.Machine

/-! ### A flag that nothing raises (10 R176) -/

/-- A flag and its seen mark stand. -/
def Notice.SameFlag (i : Nat) (n m : Notice) : Prop :=
  m.flags.getLsbD i = n.flags.getLsbD i ∧ m.seen.getLsbD i = n.seen.getLsbD i

section
variable {i : Nat} {n m : Notice} (h : Notice.SameFlag i n m)

theorem Notice.SameFlag.refl (i : Nat) (n : Notice) : Notice.SameFlag i n n := ⟨rfl, rfl⟩

include h

theorem Notice.SameFlag.raised {mask : Word} (hmask : mask.getLsbD i = false) : Notice.SameFlag i n (m.raised mask) := by
  obtain ⟨hflags, hseen⟩ := h
  rw [Notice.SameFlag, Notice.raised_flags, Notice.raised_seen, hmask, hflags, hseen, Bool.or_false, Bool.not_false,
    Bool.and_true]
  exact ⟨rfl, rfl⟩

end

section
variable {n : Notice} {s : State} (h : Notice.SameFlag 2 n s.notice)
include h

theorem Notice.SameFlag.driftDue : Notice.SameFlag 2 n s.driftDue.notice := by
  unfold State.driftDue
  split_ifs
  · exact h.raised (by decide)
  · exact h

theorem Notice.SameFlag.starveDue (x : Resource) : Notice.SameFlag 2 n (s.starveDue x).notice := by
  unfold State.starveDue
  split_ifs
  · exact h.raised (by decide)
  · exact h

theorem Notice.SameFlag.doubtTest : Notice.SameFlag 2 n s.doubtTest.notice := by
  have hdoubtful : s.enterDoubtful.notice = s.notice.raised Flag.lineTrouble.mask := by simp [State.enterDoubtful]
  unfold State.doubtTest
  split_ifs
  · exact hdoubtful ▸ h.raised (by decide)
  · exact h

theorem Notice.SameFlag.removeSilent (a : Nat) : Notice.SameFlag 2 n (s.removeSilent a).notice := by
  unfold State.removeSilent
  split_ifs
  · exact Notice.SameFlag.doubtTest (s := { s with mode := { s.mode with
      roster := s.mode.roster.filter fun r => !(r.address == a && r.silence == 15) } }) h
  · exact h

theorem Notice.SameFlag.takeSilent : Notice.SameFlag 2 n s.takeSilent.notice := by
  unfold State.takeSilent
  generalize [1, 2, 3, 4, 5, 6, 7, 8, 9, 10, 11, 12] = l
  induction l generalizing s with
  | nil => exact h
  | cons a as ih => exact ih (h.removeSilent a)

theorem Notice.SameFlag.waitExpired : Notice.SameFlag 2 n s.waitExpired.notice := by
  have hfound : s.found.notice = s.notice := by simp
  unfold State.waitExpired
  split_ifs
  · exact hfound ▸ h
  · exact h
  · exact h
  · exact hfound ▸ h
  · exact Notice.SameFlag.raised (m := s.beginRest.notice) h (by decide)

theorem Notice.SameFlag.answerWait : Notice.SameFlag 2 n s.answerWait.notice := by
  unfold State.answerWait
  split_ifs
  · exact h.waitExpired
  · exact h

end

/-! ### The thresholds left over, with the pour IDLE (log 5) -/

/-- What the two controllers, the program unit and the keg record hold stands, but for the drift mark; so does SENSOR-FAULT. -/
def PlantStands (s t : State) : Prop :=
  t.power = s.power ∧ t.cfg = s.cfg ∧ t.keg = s.keg ∧ t.program = s.program ∧ t.pressure = s.pressure ∧
    t.staged = s.staged ∧ t.thermal.probe = s.thermal.probe ∧ t.thermal.frozen = s.thermal.frozen ∧
    Notice.SameFlag 2 s.notice t.notice

theorem State.driftDue_probe (s : State) :
    s.driftDue.thermal.probe = s.thermal.probe ∧ s.driftDue.thermal.frozen = s.thermal.frozen := by
  unfold State.driftDue
  split_ifs <;> exact ⟨rfl, rfl⟩

theorem State.takeDue_plantStands {s : State} (hminute : s.timebase.minuteDue = false) (hhour : s.timebase.hourDue = false)
    (hidle : s.pour.state = .idle) : PlantStands s s.takeDue := by
  have hminuteEvent : s.minuteEvent = s := if_neg (by simp [hminute])
  have hhourEvent : s.hourEvent = s := if_neg (by simp [hhour])
  have hempty : s.driftDue.emptyDue = s.driftDue := if_neg (by simp [hidle])
  have hfoam : s.driftDue.foamDue = s.driftDue := if_neg (by simp [hidle])
  have hsettle : s.driftDue.settleDue = s.driftDue := if_neg (by simp [hidle])
  have hnotice := (((((Notice.SameFlag.refl 2 s.notice).driftDue).starveDue .chill).starveDue .gas).starveDue .heat).takeSilent
  unfold State.takeDue
  dsimp only
  rw [hminuteEvent, hhourEvent, hempty, hfoam, hsettle]
  refine ⟨by simp, by simp, by simp, by simp, by simp, by simp, by simp [s.driftDue_probe], by simp [s.driftDue_probe], ?_⟩
  have hannounced : Notice.SameFlag 2 s.notice
      (State.starveDue .heat (State.starveDue .gas (State.starveDue .chill s.driftDue))).takeSilent.announceTimer.notice := by
    simpa using hnotice
  simpa using hannounced.answerWait

/-! ### The beer probe's sample (06 R100 to R102, R106, 07 R129) -/

section
variable (s : State) (v : Int)

theorem State.probeSample_program :
    (s.probeSample v).program = if s.probeEnters v then s.program.pause .sensor else s.program := by
  have hevaluated : (s.probeTaken v).thermalEval.program = (s.probeTaken v).program := by simp
  rw [s.probeSample_eq v, hevaluated, State.probeTaken]
  split_ifs
  · exact State.pauseFor_program _ _
  · rfl

theorem State.probeSample_notice :
    (s.probeSample v).notice = s.notice.raised (flagIf (s.probeEnters v) .sensorFault) := by
  have hevaluated : (s.probeTaken v).thermalEval.notice = (s.probeTaken v).notice := by simp
  have hpaused : ((s.probeRead v).pauseFor .sensor).notice = (s.probeRead v).notice := by simp
  rw [s.probeSample_eq v, hevaluated, State.probeTaken]
  split_ifs
  · exact hpaused
  · rfl

/-- The evaluation is of the sample just taken, in the mode and phase as they stood. -/
theorem State.probeSample_thermal :
    ∃ t : Thermal, t.probe = (if probeValid v then .good else .fault) ∧
      (s.probeSample v).thermal = t.evaluate s.mode.mode s.keg (s.probeSample v).program s.cfg := by
  have hframe : (s.probeTaken v).mode = s.mode ∧ (s.probeTaken v).keg = s.keg ∧ (s.probeTaken v).cfg = s.cfg := by
    unfold State.probeTaken
    split_ifs <;> simp [State.probeRead]
  obtain ⟨hmode, hkeg, hcfg⟩ := hframe
  have hprogram : (s.probeTaken v).thermalEval.program = (s.probeTaken v).program := by simp
  refine ⟨(s.probeTaken v).thermal, (s.probeTaken_sameReading v).1, ?_⟩
  rw [s.probeSample_eq v, State.thermalEval_thermal, hprogram, hmode, hkeg, hcfg]

/-- A pause of a program that does not run leaves the frozen target and band. -/
theorem State.pauseFor_frozen (r : PauseReason) (h : s.program.state ≠ .running) :
    (s.pauseFor r).thermal.frozen = s.thermal.frozen := by
  by_cases hadds : s.program.underWay = true ∧ s.program.pause r ≠ s.program
  · rw [State.pauseFor, if_pos hadds, State.thermalEval_thermal]
    exact if_neg h
  · rw [State.pauseFor, if_neg hadds]

theorem State.probeSample_frozen (h : s.program.state ≠ .running) : (s.probeSample v).thermal.frozen = s.thermal.frozen := by
  rw [s.probeSample_eq v, State.thermalEval_thermal]
  change (s.probeTaken v).thermal.frozen = _
  unfold State.probeTaken
  split_ifs
  · exact State.pauseFor_frozen _ _ h
  · rfl

theorem State.probeSample_staged :
    (s.probeSample v).staged = { s.staged with
      chillValve := (s.probeSample v).thermal.cooling.isSome, heater := (s.probeSample v).thermal.heating.isSome } := by
  have htaken : (s.probeTaken v).staged.gasValve = s.staged.gasValve ∧
      (s.probeTaken v).staged.reliefValve = s.staged.reliefValve ∧ (s.probeTaken v).staged.frontValve = s.staged.frontValve ∧
      (s.probeTaken v).staged.fillValve = s.staged.fillValve := by
    unfold State.probeTaken State.pauseFor
    split_ifs <;> simp [State.thermalEval_staged, State.probeRead]
  obtain ⟨hgas, hrelief, hfront, hfill⟩ := htaken
  rw [s.probeSample_eq v, State.thermalEval_staged]
  simp only [hgas, hrelief, hfront, hfill]

/-- With a faulty probe nothing is aimed at, wanted or staged (06 R101). -/
theorem State.probeSample_faulted (hinvalid : probeValid v = false) :
    (s.probeSample v).thermal.regime = .off ∧ (s.probeSample v).thermal.effective = none ∧
      (s.probeSample v).thermal.cooling = none ∧ (s.probeSample v).thermal.heating = none := by
  obtain ⟨t, hprobe, hthermal⟩ := s.probeSample_thermal v
  have hfault : t.probe ≠ .good := by simp [hprobe, hinvalid]
  obtain ⟨hcooling, hheating⟩ := Thermal.evaluate_faulted hfault s.mode.mode s.keg (s.probeSample v).program s.cfg
  have hoff : regimeOf t.probe s.mode.mode s.keg.phase (s.probeSample v).program = .off := if_pos hfault
  have hregime := (t.evaluate_regime s.mode.mode s.keg (s.probeSample v).program s.cfg).trans hoff
  have heffective := t.evaluate_effective s.mode.mode s.keg (s.probeSample v).program s.cfg
  rw [hregime] at heffective
  rw [hthermal]
  exact ⟨hregime, heffective, hcooling, hheating⟩

/-- With a good probe the regime is chosen by mode, phase and program (06 R102, R104). -/
theorem State.probeSample_regime (hvalid : probeValid v = true) :
    (s.probeSample v).thermal.regime = regimeOf .good s.mode.mode s.keg.phase s.program := by
  obtain ⟨t, hprobe, hthermal⟩ := s.probeSample_thermal v
  have hgood : t.probe = .good := by simp [hprobe, hvalid]
  have hprogram : (s.probeSample v).program = s.program := by simp [s.probeSample_program v, State.probeEnters, hvalid]
  rw [hthermal, Thermal.evaluate_regime, hgood, hprogram]

end

/-! ### The pressure sample (07 R133, 08 R138 to R144) -/

theorem State.pressureEvalFrom_program (before : Bool) (s : State) :
    (s.pressureEvalFrom before).program =
      s.program.opening ((!before && (s.pressureEvalFrom before).relief) && s.keg.phase == .fermenting) := by
  simp [State.pressureEvalFrom, State.relief]

theorem State.pressureEvalFrom_sameFlag (before : Bool) (s : State) :
    Notice.SameFlag 2 s.notice (s.pressureEvalFrom before).notice := by
  rw [s.pressureEvalFrom_notice before]
  refine (Notice.SameFlag.refl 2 s.notice).raised ?_
  cases s.pressure.judged s.cfg.safetyLimit && !s.pressure.tripped <;> decide

section
variable (s : State) (v : Int)

/-- The pressure sensor entering a fault. -/
def State.pressureEnters : Bool := !pressureValid v && s.pressure.sensor != .fault

/-- The sample taken, SENSOR-FAULT raised where the sensor enters a fault. -/
def State.pressureRead : State :=
  State.raise { s with pressure := { s.pressure with sensor := if pressureValid v then .good else .fault, sample := some v } }
    (flagIf (s.pressureEnters v) .sensorFault)

theorem State.pressureSample_eq : s.pressureSample v = (s.pressureRead v).pressureEvalFrom s.relief := by
  unfold State.pressureSample State.pressureRead State.pressureEnters
  cases pressureValid v <;> rfl

theorem State.pressureSample_program :
    (s.pressureSample v).program =
      s.program.opening ((!s.relief && (s.pressureSample v).relief) && s.keg.phase == .fermenting) := by
  rw [s.pressureSample_eq v]
  exact State.pressureEvalFrom_program s.relief (s.pressureRead v)

/-- Under a pressure fault the spund staging is closed, no gas is wanted, and the safety state stands (08 R139). -/
theorem State.pressureSample_faulted (hinvalid : pressureValid v = false) :
    (s.pressureSample v).staged.reliefValve = false ∧ (s.pressureSample v).pressure.gasNeed = none ∧
      (s.pressureSample v).staged.gasValve = false ∧ (s.pressureSample v).pressure.tripped = s.pressure.tripped := by
  have hreading : (s.pressureRead v).pressure.reading = none := by simp [State.pressureRead, Pressure.reading, hinvalid]
  have hneed : ∀ b, (s.pressureRead v).gasNeedNow b = none := fun b => by rw [State.gasNeedNow, hreading]
  have hspund : ∀ phase offered before, spundStaging (s.pressureRead v).pressure phase offered before = false :=
    fun phase offered before => by cases offered <;> simp [spundStaging, hreading]
  have hjudged : (s.pressureRead v).pressure.judged (s.pressureRead v).cfg.safetyLimit = s.pressure.tripped := by
    rw [Pressure.judged, hreading]
    rfl
  rw [s.pressureSample_eq v, State.pressureEvalFrom_staged, State.pressureEvalFrom_pressure, hjudged]
  simp only [hneed, hspund, Option.isSome_none, and_self]

/-- A good reading is judged against the limit, a recovered one as any other (08 R140, R141). -/
theorem State.pressureSample_judged (hvalid : pressureValid v = true) :
    (s.pressureSample v).pressure.tripped =
      if (s.cfg.safetyLimit : Int) ≤ v then true
      else if v ≤ (s.cfg.safetyLimit : Int) - 20 then false else s.pressure.tripped := by
  rw [s.pressureSample_eq v, State.pressureEvalFrom_tripped,
    Pressure.judged_of_sample _ (by simp [State.pressureRead, hvalid]) rfl]
  rfl

end

/-! ### The two samples together -/

section
variable (s : State) (probe pressure : Int)

/-- The state a second event leaves, its left-over thresholds taken. -/
def State.secondFrom : State := (s.sampled probe pressure).countSecond.retryRequested

theorem State.secondFrom_frame :
    (s.secondFrom probe pressure).power = s.power ∧ (s.secondFrom probe pressure).mode.mode = s.mode.mode ∧
      (s.secondFrom probe pressure).program = (s.sampled probe pressure).program ∧
      (s.secondFrom probe pressure).pressure = (s.sampled probe pressure).pressure ∧
      (s.secondFrom probe pressure).staged = (s.sampled probe pressure).staged ∧
      (s.secondFrom probe pressure).notice = (s.sampled probe pressure).notice := by
  have hmode := (s.counted_fields probe pressure).2.2
  refine ⟨?_, (congrArg ModeCtl.mode hmode).trans rfl, ?_⟩
  · simp [State.secondFrom, State.sampled]
  · simp [State.secondFrom]

theorem State.probeSecond_relief : (s.probeSecond probe).relief = s.relief := by
  have hpressure : (s.probeSecond probe).pressure = s.pressure := by simp
  have hstaged : (s.probeSecond probe).staged.reliefValve = s.staged.reliefValve := by
    change (s.probeSample probe).staged.reliefValve = _
    rw [s.probeSample_staged probe]
  simp only [State.relief, hpressure, hstaged]

/-- SENSOR-FAULT after the second event: raised at each beginning, and otherwise as it stood (06 R101, 08 R139). -/
theorem State.secondFrom_sensorFault :
    (s.secondFrom probe pressure).notice.flags.getLsbD 2 =
        (s.notice.flags.getLsbD 2 || s.probeEnters probe || s.pressureEnters pressure) ∧
      (s.secondFrom probe pressure).notice.seen.getLsbD 2 =
        (s.notice.seen.getLsbD 2 && !s.probeEnters probe && !s.pressureEnters pressure) := by
  have hpressure : (s.probeSecond probe).pressure = s.pressure := by simp
  have henters : (s.probeSecond probe).pressureEnters pressure = s.pressureEnters pressure := by
    simp only [State.pressureEnters, hpressure]
  have hprobe : (s.probeSecond probe).notice = s.notice.raised (flagIf (s.probeEnters probe) .sensorFault) :=
    s.probeSample_notice probe
  have hread : ((s.probeSecond probe).pressureRead pressure).notice =
      (s.notice.raised (flagIf (s.probeEnters probe) .sensorFault)).raised (flagIf (s.pressureEnters pressure) .sensorFault) := by
    rw [State.pressureRead, State.raise_notice, henters]
    exact congrArg (Notice.raised · _) hprobe
  obtain ⟨hflags, hseen⟩ :=
    State.pressureEvalFrom_sameFlag (s.probeSecond probe).relief ((s.probeSecond probe).pressureRead pressure)
  have hmask : Flag.sensorFault.mask.getLsbD 2 = true := by decide
  obtain ⟨-, -, -, -, -, hnotice⟩ := s.secondFrom_frame probe pressure
  rw [hnotice, State.sampled, State.pressureSample_eq, hflags, hseen, hread]
  simp only [Notice.raised_flags, Notice.raised_seen, flagIf_getLsbD, hmask, Bool.and_true, and_self]

theorem State.secondFrom_thermal :
    ∃ drift noticed, (s.secondFrom probe pressure).thermal =
      { (s.probeSample probe).thermal with drift := drift, driftNoticed := noticed } := by
  rw [State.secondFrom, (s.counted_fields probe pressure).2.1]
  exact Thermal.driftTick_eq _ _

/-- The thermal staging is of the needs the probe's sample has left. -/
theorem State.secondFrom_staged :
    (s.secondFrom probe pressure).staged.chillValve = (s.secondFrom probe pressure).thermal.cooling.isSome ∧
      (s.secondFrom probe pressure).staged.heater = (s.secondFrom probe pressure).thermal.heating.isSome := by
  have hprobe : (s.probeSecond probe).staged = (s.probeSample probe).staged := rfl
  obtain ⟨-, -, -, -, hstaged, -⟩ := s.secondFrom_frame probe pressure
  obtain ⟨drift, noticed, hthermal⟩ := s.secondFrom_thermal probe pressure
  rw [hstaged, hthermal, State.sampled, State.pressureSample_eq, State.pressureEvalFrom_staged]
  simp only [State.pressureRead, State.raise_staged, hprobe, s.probeSample_staged probe, and_self]

/-- The thermal controller under a fault of the probe (06 R101). -/
theorem State.secondFrom_probeFault (hinvalid : probeValid probe = false) :
    (s.secondFrom probe pressure).thermal.probe = .fault ∧ (s.secondFrom probe pressure).thermal.regime = .off ∧
      (s.secondFrom probe pressure).thermal.effective = none ∧ (s.secondFrom probe pressure).thermal.cooling = none ∧
      (s.secondFrom probe pressure).thermal.heating = none ∧ (s.secondFrom probe pressure).staged.chillValve = false ∧
      (s.secondFrom probe pressure).staged.heater = false := by
  obtain ⟨hprobe, -, -⟩ := s.probeSample_reading probe
  rw [hinvalid] at hprobe
  obtain ⟨hregime, heffective, hcooling, hheating⟩ := s.probeSample_faulted probe hinvalid
  obtain ⟨hchill, hheat⟩ := s.secondFrom_staged probe pressure
  obtain ⟨drift, noticed, hthermal⟩ := s.secondFrom_thermal probe pressure
  rw [hchill, hheat, hthermal]
  exact ⟨hprobe, hregime, heffective, hcooling, hheating, congrArg Option.isSome hcooling, congrArg Option.isSome hheating⟩

/-- The thermal controller with a good probe (06 R102). -/
theorem State.secondFrom_probeGood (hvalid : probeValid probe = true) :
    (s.secondFrom probe pressure).thermal.probe = .good ∧ (s.secondFrom probe pressure).thermal.sample = some probe ∧
      (s.secondFrom probe pressure).thermal.regime = regimeOf .good s.mode.mode s.keg.phase s.program := by
  obtain ⟨hprobe, hsample, -⟩ := s.probeSample_reading probe
  rw [hvalid] at hprobe
  obtain ⟨drift, noticed, hthermal⟩ := s.secondFrom_thermal probe pressure
  rw [hthermal]
  exact ⟨hprobe, hsample, s.probeSample_regime probe hvalid⟩

/-- A program under way is paused as the probe enters a fault, and otherwise stands, but for the relief openings. -/
theorem State.secondFrom_openings :
    SameButOpenings (if s.probeEnters probe then s.program.pause .sensor else s.program)
      (s.secondFrom probe pressure).program := by
  have hprobe : (s.probeSecond probe).program = (s.probeSample probe).program := rfl
  obtain ⟨-, -, hprogram, -⟩ := s.secondFrom_frame probe pressure
  rw [hprogram, State.sampled, State.pressureSample_program, hprobe, s.probeSample_program probe]
  rfl

theorem State.secondFrom_relief : (s.secondFrom probe pressure).relief = (s.sampled probe pressure).relief := by
  obtain ⟨-, -, -, hpressure, hstaged, -⟩ := s.secondFrom_frame probe pressure
  simp only [State.relief, hpressure, hstaged]

/-- The relief opening of a second event, counted while FERMENTING (07 R133). -/
theorem State.secondFrom_currentHour :
    (s.secondFrom probe pressure).program.currentHour =
      if s.relief = false ∧ (s.secondFrom probe pressure).relief = true ∧ s.keg.phase = .fermenting then
        min (s.program.currentHour + 1) 255 else s.program.currentHour := by
  have hhour : (s.probeSecond probe).program.currentHour = s.program.currentHour := by
    change (s.probeSample probe).program.currentHour = _
    rw [s.probeSample_program probe, Program.pause]
    split_ifs <;> rfl
  have hkeg : (s.probeSecond probe).keg = s.keg := by simp
  obtain ⟨-, -, hprogram, -⟩ := s.secondFrom_frame probe pressure
  rw [hprogram, s.secondFrom_relief, State.sampled, State.pressureSample_program, s.probeSecond_relief, hkeg,
    Program.opening, hhour]
  simp only [Bool.and_eq_true, Bool.not_eq_true', beq_iff_eq, and_assoc, bump]

/-- The pressure controller under a fault of its sensor. -/
theorem State.secondFrom_pressureFault (hinvalid : pressureValid pressure = false) :
    (s.secondFrom probe pressure).pressure.sensor = .fault ∧ (s.secondFrom probe pressure).staged.reliefValve = false ∧
      (s.secondFrom probe pressure).pressure.gasNeed = none ∧ (s.secondFrom probe pressure).staged.gasValve = false ∧
      (s.secondFrom probe pressure).pressure.tripped = s.pressure.tripped := by
  have hpressure : (s.probeSecond probe).pressure = s.pressure := by simp
  obtain ⟨hspund, hneed, hgas, htripped⟩ := (s.probeSecond probe).pressureSample_faulted pressure hinvalid
  have hsensor := ((s.probeSecond probe).pressureSample_reading pressure).2
  rw [hinvalid] at hsensor
  rw [hpressure] at htripped
  obtain ⟨-, -, -, hcontroller, hstaged, -⟩ := s.secondFrom_frame probe pressure
  rw [hcontroller, hstaged]
  exact ⟨hsensor, hspund, hneed, hgas, htripped⟩

/-- The pressure controller with a good sensor. -/
theorem State.secondFrom_pressureGood (hvalid : pressureValid pressure = true) :
    (s.secondFrom probe pressure).pressure.sensor = .good ∧
      (s.secondFrom probe pressure).pressure.tripped =
        (if (s.cfg.safetyLimit : Int) ≤ pressure then true
          else if pressure ≤ (s.cfg.safetyLimit : Int) - 20 then false else s.pressure.tripped) := by
  have hpressure : (s.probeSecond probe).pressure = s.pressure ∧ (s.probeSecond probe).cfg = s.cfg := by simp
  have hjudged := (s.probeSecond probe).pressureSample_judged pressure hvalid
  have hsensor := ((s.probeSecond probe).pressureSample_reading pressure).2
  rw [hvalid] at hsensor
  rw [hpressure.1, hpressure.2] at hjudged
  obtain ⟨-, -, -, hcontroller, -⟩ := s.secondFrom_frame probe pressure
  rw [hcontroller]
  exact ⟨hsensor, hjudged⟩

end

/-! ### The row -/

/-- The samples of a second event are taken of a state in which the plant stands as it stood. -/
theorem State.second_plantStands {s : State} (probe pressure : Int) (hminute : s.timebase.minuteDue = false)
    (hhour : s.timebase.hourDue = false) (hidle : s.pour.state = .idle) :
    ∃ v : State, s.second probe pressure = v.secondFrom probe pressure ∧ PlantStands s v := by
  have hdue := State.takeDue_plantStands hminute hhour hidle
  rw [s.second_eq]
  generalize s.takeDue = v at hdue ⊢
  exact ⟨{ v with timebase := v.timebase.second }, rfl, hdue⟩

/-- What is not staged open is not driven open. -/
theorem State.driven_thermal_closed {s : State} :
    (s.staged.chillValve = false → s.driven.chillValve = false) ∧ (s.staged.heater = false → s.driven.heater = false) := by
  obtain ⟨hchill, hheat, -⟩ := s.driven_shared
  exact ⟨fun h => Bool.eq_false_iff.mpr fun ho => Bool.false_ne_true (h.symm.trans (hchill ho).1),
    fun h => Bool.eq_false_iff.mpr fun ho => Bool.false_ne_true (h.symm.trans (hheat ho).1)⟩

theorem regimeOf_serving {mode : Mode} {phase : Phase} {p : Program} (hphase : phase = .serving) (hmode : mode ≠ .vacant) :
    regimeOf .good mode phase p = .serve := by
  rw [regimeOf_eq, if_neg (not_not_intro rfl), if_neg hmode, if_pos hphase]

/-- A program PAUSED for SENSOR is not controlled, but for a keg that is served (06 R102, R104). -/
theorem regimeOf_sensor {mode : Mode} {phase : Phase} {p : Program} (hphase : phase ≠ .serving) (hpaused : p.state = .paused)
    (hsensor : p.reasons.sensor = true) : regimeOf .good mode phase p = .off := by
  rw [regimeOf_eq]
  by_cases hunder : phase = .fermenting ∨ phase = .conditioning
  · simp [hphase, hunder, hpaused, hsensor]
  · simp [hphase, hunder]

/-- Settles O39: each sample's fault and recovery, on the state in which the thresholds left over have been taken. -/
theorem sensorFaultsAndRecovery : Obligations.SensorFaultsAndRecovery := by
  intro s probe pressure hrun hload hminute hhour hidle
  obtain ⟨v, hv, hpower, hcfg, hkeg, hprogram, hcontroller, hstaged, hprobe, hfrozen, hflags, hseen⟩ :
      ∃ v : State, s.second probe pressure = v.secondFrom probe pressure ∧ PlantStands s v :=
    State.second_plantStands probe pressure hminute hhour hidle
  have hrelief : v.relief = s.driven.reliefValve := by
    rw [State.driven_relief hrun, State.relief, State.relief, hcontroller, hstaged]
  obtain ⟨htpower, htmode, -⟩ := v.secondFrom_frame probe pressure
  have htrelief : (v.secondFrom probe pressure).driven.reliefValve = (v.secondFrom probe pressure).relief :=
    State.driven_relief (htpower.trans (hpower.trans hrun))
  have hprobeEnters : v.probeEnters probe = true ↔ ¬ (-100 ≤ probe ∧ probe ≤ 600) ∧ s.thermal.probe ≠ .fault := by
    simp only [State.probeEnters, probeValid, hprobe, Bool.and_eq_true, Bool.not_eq_true', decide_eq_false_iff_not, bne_iff_ne]
  have hpressureEnters : v.pressureEnters pressure = true ↔
      ¬ (0 ≤ pressure ∧ pressure ≤ 400) ∧ s.pressure.sensor ≠ .fault := by
    simp only [State.pressureEnters, pressureValid, hcontroller, Bool.and_eq_true, Bool.not_eq_true', decide_eq_false_iff_not,
      bne_iff_ne]
  obtain ⟨htflags, htseen⟩ := v.secondFrom_sensorFault probe pressure
  have hopenings := v.secondFrom_openings probe pressure
  rw [hprogram] at hopenings
  refine ⟨_, exec_secondEvent s probe pressure hrun hload, ?_⟩
  rw [hv, ← hprobeEnters, ← hpressureEnters, htflags, htseen, hflags, hseen, htrelief, ← hrelief]
  refine ⟨fun hbegins => ?_, fun hnot => ?_, fun hfault => ?_, fun hfault hnew hway => ?_, fun hstood => ?_, fun hgood => ?_,
    fun hfault => ?_, fun hgood => ?_, ?_⟩
  · rcases hbegins with hbegins | hbegins <;> simp [hbegins]
  · obtain ⟨hnoProbe, hnoPressure⟩ := not_or.mp hnot
    simp [hnoProbe, hnoPressure]
  · obtain ⟨hfaulty, hregime, heffective, hcooling, hheating, hchill, hheat⟩ :=
      v.secondFrom_probeFault probe pressure (decide_eq_false hfault)
    exact ⟨hfaulty, hregime, heffective, hcooling, hheating, hchill, hheat, State.driven_thermal_closed.1 hchill,
      State.driven_thermal_closed.2 hheat⟩
  · rw [if_pos (hprobeEnters.mpr ⟨hfault, hnew⟩), Program.pause_underWay hway] at hopenings
    obtain ⟨hstate, hreasons, hcurrent, helapsed⟩ := hopenings.fields
    refine ⟨hstate, hreasons, helapsed, hcurrent, fun hpaused => ?_⟩
    obtain ⟨drift, noticed, hthermal⟩ := v.secondFrom_thermal probe pressure
    rw [hthermal, ← hfrozen]
    exact v.probeSample_frozen probe (by simp [hprogram, hpaused])
  · rw [if_neg hstood] at hopenings
    obtain ⟨hstate, hreasons, -, -⟩ := hopenings.fields
    exact ⟨hstate, hreasons⟩
  · obtain ⟨hrecovered, hsample, hregime⟩ := v.secondFrom_probeGood probe pressure (decide_eq_true (not_not.mp hgood))
    rw [hkeg, hprogram, ← htmode] at hregime
    exact ⟨hrecovered, hsample, fun hserving hmode => hregime.trans (regimeOf_serving hserving hmode),
      fun hpaused hsensor hphase => hregime.trans (regimeOf_sensor hphase hpaused hsensor)⟩
  · obtain ⟨hfaulty, hspund, hneed, hgas, htripped⟩ := v.secondFrom_pressureFault probe pressure (decide_eq_false hfault)
    have hopen : (v.secondFrom probe pressure).relief = true := by simp [State.relief, hfaulty]
    exact ⟨hfaulty, hopen, hspund, hneed, hgas, State.driven_gasValve_closed _ hgas, hcontroller ▸ htripped⟩
  · obtain ⟨hrecovered, htripped⟩ := v.secondFrom_pressureGood probe pressure (decide_eq_true (not_not.mp hgood))
    rw [hcfg, hcontroller] at htripped
    have hnofault : (SensorState.good == .fault) = false := rfl
    exact ⟨hrecovered, htripped, by rw [State.relief, hrecovered, hnofault, Bool.or_false]⟩
  · rw [v.secondFrom_currentHour probe pressure, hkeg, hprogram]

end Sys2Proof.Machine
end

section
/-! PROOFS. STARTING is entered by a start alone (05 R76, R80): no operation of the running part leads back to it. -/

namespace Sys2Proof.Machine

/-- The station is in STARTING only if it was there before. -/
def NoReturn (s t : State) : Prop := t.mode.mode = .starting → s.mode.mode = .starting

theorem NoReturn.trans {s t u : State} (h1 : NoReturn s t) (h2 : NoReturn t u) : NoReturn s u := fun hu => h1 (h2 hu)

/-- The mode stands. -/
theorem NoReturn.of_mode {s t : State} (h : t.mode.mode = s.mode.mode) : NoReturn s t := fun ht => h.symm.trans ht

/-- A mode other than STARTING has been entered. -/
theorem NoReturn.of_entered {s t : State} {m : Mode} (h : t.mode.mode = m) (hm : m ≠ .starting) : NoReturn s t :=
  fun ht => absurd (h.symm.trans ht) hm

section
variable (s : State)

/-! ### Modes entered (05 R80 to R98) -/

theorem State.enterDoubtful_noReturn : NoReturn s s.enterDoubtful := .of_entered (m := .doubtful) rfl (by decide)

theorem State.enterMuted_noReturn : NoReturn s s.enterMuted := .of_entered (m := .muted) rfl (by decide)

theorem State.enterVacant_noReturn : NoReturn s s.enterVacant :=
  .of_entered (m := .vacant) (by simp [State.enterVacant]) (by decide)

theorem State.enterJoining_noReturn : NoReturn s s.enterJoining :=
  .of_entered (m := .joining) (by simp [State.enterJoining]) (by decide)

theorem State.becomeActive_noReturn : NoReturn s s.becomeActive := .of_entered (m := .active) rfl (by decide)

theorem State.leaveStarting_noReturn : NoReturn s s.leaveStarting := by
  unfold State.leaveStarting
  split_ifs with hbay hkeg
  · exact .of_entered (m := .joining) (by dsimp only; split_ifs <;> rfl) (by decide)
  · refine .of_entered (m := .vacant) ?_ (by decide)
    dsimp only
    split_ifs <;> simp
  · exact id

/-! ### The suspect mark and the timers (05 R85, R91 to R96) -/

theorem State.doubtTest_noReturn : NoReturn s s.doubtTest := by
  unfold State.doubtTest
  split_ifs
  · exact s.enterDoubtful_noReturn
  · exact id

theorem State.setSuspect_noReturn : NoReturn s s.setSuspect := by
  have hmarked : NoReturn s { s with mode := { s.mode with suspect := true } } := id
  unfold State.setSuspect
  dsimp only
  split_ifs
  · exact id
  · exact hmarked.trans (State.doubtTest_noReturn _)

theorem State.releaseSuspect_noReturn : NoReturn s s.releaseSuspect := by
  have hunheld : NoReturn s { s with mode := { s.mode with suspectHeld := false } } := id
  unfold State.releaseSuspect
  split_ifs
  · exact hunheld.trans (State.setSuspect_noReturn _)
  · exact id

theorem State.lineSuspect_noReturn : NoReturn s s.lineSuspect := by
  unfold State.lineSuspect
  split_ifs
  · exact id
  · exact s.setSuspect_noReturn

theorem State.removeSilent_noReturn (a : Nat) : NoReturn s (s.removeSilent a) := by
  have hremoved : NoReturn s { s with mode := { s.mode with
      roster := s.mode.roster.filter fun r => !(r.address == a && r.silence == 15) } } := id
  unfold State.removeSilent
  split_ifs
  · exact hremoved.trans (State.doubtTest_noReturn _)
  · exact id

theorem State.takeSilent_noReturn : NoReturn s s.takeSilent := by
  unfold State.takeSilent
  generalize [1, 2, 3, 4, 5, 6, 7, 8, 9, 10, 11, 12] = l
  induction l generalizing s with
  | nil => exact id
  | cons a as ih => exact (s.removeSilent_noReturn a).trans (ih _)

theorem State.waitExpired_noReturn : NoReturn s s.waitExpired := by
  have hfound : NoReturn s s.found := State.becomeActive_noReturn (s.setTable Share.founded)
  unfold State.waitExpired
  split_ifs
  · exact hfound
  · exact id
  · exact id
  · exact hfound
  · exact id

theorem State.answerWait_noReturn : NoReturn s s.answerWait := by
  unfold State.answerWait
  split_ifs
  · exact s.waitExpired_noReturn
  · exact id

theorem State.restTimer_noReturn : NoReturn s s.restTimer := by
  unfold State.restTimer
  split_ifs <;> exact id

theorem State.announceTimer_noReturn : NoReturn s s.announceTimer := by
  unfold State.announceTimer
  split_ifs <;> exact id

/-! ### The frames (05 R88 to R98) -/

theorem State.compare_noReturn (r : RosterEntry) : NoReturn s (s.compare r) := by
  unfold State.compare
  split_ifs
  · exact s.enterMuted_noReturn
  · exact s.enterDoubtful_noReturn
  · exact id

theorem State.heardActive_noReturn (r : RosterEntry) : NoReturn s (s.heardActive r) := by
  unfold State.heardActive
  split_ifs
  · exact s.enterMuted_noReturn
  · exact id
  · exact id

theorem State.weighAnnounce_noReturn (before : Option Nat) (r : RosterEntry) : NoReturn s (s.weighAnnounce before r) := by
  unfold State.weighAnnounce
  split_ifs
  · exact s.compare_noReturn r
  · exact s.doubtTest_noReturn
  · exact id
  · exact s.heardActive_noReturn r
  · exact id

theorem State.announceFrame_noReturn (e : RxEntry) : NoReturn s (s.announceFrame e) := by
  have hheard : NoReturn s { s with mode := { s.mode with roster := announceRoster e.sender e.body s.mode.roster } } := id
  unfold State.announceFrame
  dsimp only
  split
  · exact hheard.trans (State.weighAnnounce_noReturn _ _ _)
  · exact hheard

theorem State.syncTableFrame_noReturn (e : RxEntry) : NoReturn s (s.syncTableFrame e) := by
  by_cases hasker : (e.body[0]?).map BitVec.toNat = some s.line.address
  · have hadopted : NoReturn s (s.adoptFrame e.body).tableHeard :=
      .of_mode (Eq.trans (b := (s.adoptFrame e.body).mode.mode) rfl (by simp))
    rw [s.syncTableFrame_own e hasker]
    split_ifs
    · exact hadopted.trans (State.becomeActive_noReturn _)
    · exact hadopted
  · rw [s.syncTableFrame_other e hasker]
    exact id

/-! ### The line and the pins (01 R8, R16, 05 R83) -/

theorem State.discardFrame_noReturn (own clean : Bool) : NoReturn s (s.discardFrame own clean) := by
  cases hjudged : (own || clean) with
  | true =>
    rw [s.discardFrame_suspected own clean hjudged]
    exact State.lineSuspect_noReturn { s with line := _ }
  | false =>
    obtain ⟨rfl, rfl⟩ := Bool.or_eq_false_iff.mp hjudged
    exact id

theorem State.receive_noReturn (e : RxEntry) : NoReturn s (s.receive e) := by
  unfold State.receive
  split_ifs
  · split <;> exact id
  · exact State.lineSuspect_noReturn { s with line := _ }

theorem State.judgeFrame_noReturn (falseStart : Bool) (chars : List RxChar) : NoReturn s (s.judgeFrame falseStart chars) := by
  have hjudged : ∀ (l : Line) (accepted : Bool), NoReturn s (State.judgeOwn { s with line := l } accepted) :=
    fun _ _ => .of_mode (by simp)
  unfold State.judgeFrame
  dsimp only
  split
  · exact (hjudged _ true).trans (State.receive_noReturn _ _)
  · exact (hjudged _ false).trans (State.discardFrame_noReturn _ _ _)

theorem State.ownerSent_noReturn (f : TxFrame) (w : Bool) : NoReturn s (s.ownerSent f w) := by
  cases f <;> exact id

theorem State.kegPresentTaken_noReturn (k : Taken) : NoReturn s (s.kegPresentTaken k) := by
  cases k with
  | nothing => exact id
  | assertion =>
    refine NoReturn.trans (t := if s.mode.mode = .vacant then s.enterJoining else s) ?_
      (.of_mode (by simp [State.kegPresentTaken]))
    split_ifs
    · exact s.enterJoining_noReturn
    · exact id
  | deassertion =>
    have hlost : NoReturn s s.kegLost := .of_mode (by simp)
    refine NoReturn.trans (t := s.kegLifted) ?_ (.of_mode (by simp [s.kegPresentTaken_deassertion]))
    unfold State.kegLifted
    split_ifs
    · exact hlost.trans (State.enterVacant_noReturn _)
    · exact hlost

theorem State.handOn_noReturn (before : State) : NoReturn s (State.handOn before s) :=
  (s.kegPresentTaken_noReturn (takenOf before s .kegPresent)).trans (.of_mode (by simp [State.handOn]))

end

end Sys2Proof.Machine
end

section
/-! PROOFS. The laws of program, phase and pour (07 R114 to R118, R127, R128, 09 R154, R159): what they say of a program and its
phase, of a pour and its keg, and what leaves them standing. -/

namespace Sys2Proof.Machine

/-! ### The program and its phase (07 R114 to R118, R128) -/

/-- Step table, program state, current step and phase agree. -/
structure ProgramFits (p : Program) (phase : Phase) : Prop where
  count   : p.steps.length ≤ 16
  filled  : stepsLaw p = true
  current : p.underWay = true → ∃ c, p.current = some c ∧ c < p.steps.length
  inPhase : p.underWay = true → phase = .fermenting ∨ phase = .conditioning
  resting : p.underWay = false → p.current = none

theorem programLaw_iff (s : State) : programLaw s = true ↔ ProgramFits s.program s.keg.phase := by
  simp only [programLaw, Bool.and_eq_true, decide_eq_true_eq]
  refine ⟨fun ⟨⟨hcount, hfilled⟩, hcurrent⟩ => ?_, fun h => ⟨⟨h.count, h.filled⟩, ?_⟩⟩
  · split at hcurrent
    · next c hway hc =>
      simp only [Bool.and_eq_true, decide_eq_true_eq, Bool.or_eq_true, beq_iff_eq] at hcurrent
      exact ⟨hcount, hfilled, fun _ => ⟨c, hc, hcurrent.1⟩, fun _ => hcurrent.2, fun hrest => by simp [hway] at hrest⟩
    · next hway hc => exact ⟨hcount, hfilled, by simp [hway], by simp [hway], fun _ => hc⟩
    · cases hcurrent
  · cases hway : s.program.underWay with
    | true =>
      obtain ⟨c, hc, hlt⟩ := h.current hway
      simpa [hc, hlt] using h.inPhase hway
    | false => rw [h.resting hway]

theorem Program.underWay_iff (p : Program) : p.underWay = true ↔ p.state = .running ∨ p.state = .paused := by
  simp [Program.underWay]

/-- The law reads the table, the program state and the current step alone. -/
theorem ProgramFits.congr {p q : Program} {phase : Phase} (h : ProgramFits p phase) (hsteps : q.steps = p.steps)
    (hstate : q.state = p.state) (hcurrent : q.current = p.current) : ProgramFits q phase := by
  have hway : q.underWay = p.underWay := by simp only [Program.underWay, hstate]
  have hlaw : stepsLaw q = stepsLaw p := by simp only [stepsLaw, hstate, hsteps]
  exact ⟨hsteps ▸ h.count, hlaw ▸ h.filled, by rw [hway, hcurrent, hsteps]; exact h.current, hway ▸ h.inPhase,
    by rw [hway, hcurrent]; exact h.resting⟩

/-- A program that is not under way stands in any phase. -/
theorem ProgramFits.of_resting {p : Program} {phase : Phase} (hcount : p.steps.length ≤ 16) (hfilled : stepsLaw p = true)
    (hrest : p.underWay = false) (hcurrent : p.current = none) : ProgramFits p phase :=
  ⟨hcount, hfilled, by simp [hrest], by simp [hrest], fun _ => hcurrent⟩

theorem ProgramFits.rephased {p : Program} {phase : Phase} (h : ProgramFits p phase) (hrest : p.underWay = false) (new : Phase) :
    ProgramFits p new :=
  .of_resting h.count h.filled hrest (h.resting hrest)

/-- A program under way: its current step stands in the table, in a phase of a program. -/
theorem ProgramFits.of_underWay {p : Program} {phase : Phase} {c : Nat} (hcount : p.steps.length ≤ 16)
    (hway : p.underWay = true) (hcurrent : p.current = some c) (hlt : c < p.steps.length)
    (hphase : phase = .fermenting ∨ phase = .conditioning) : ProgramFits p phase := by
  refine ⟨hcount, ?_, fun _ => ⟨c, hcurrent, hlt⟩, fun _ => hphase, fun hrest => by simp [hway] at hrest⟩
  rcases p.underWay_iff.mp hway with h | h <;> simp [stepsLaw, h]

/-! ### The program's own moves (07 R116 to R131) -/

theorem Program.minute_table (p : Program) (inBand : Bool) :
    (p.minute inBand).steps = p.steps ∧ (p.minute inBand).state = p.state ∧ (p.minute inBand).current = p.current := by
  unfold Program.minute
  split_ifs
  · split
    · split_ifs <;> exact ⟨rfl, rfl, rfl⟩
    · exact ⟨rfl, rfl, rfl⟩
    · exact ⟨rfl, rfl, rfl⟩
  · exact ⟨rfl, rfl, rfl⟩

/-- The phase a step entered leaves (07 R121). -/
theorem Keg.enter_phase (k : Keg) (r : StepRecord) (fromStart : Bool) : (k.enter (some r) fromStart).phase =
    if r.kind = .condition then .conditioning else if fromStart then .fermenting else k.phase := by
  unfold Keg.enter
  dsimp only
  split_ifs <;> rfl

section
variable {p : Program} {c : Nat} (hc : p.current = some c)
include hc

/-- A step remains: it is entered from the target of the one that ends (07 R127). -/
theorem Program.finish_next (hlt : c + 1 < p.steps.length) (k : Keg) :
    p.finish = p.enter (c + 1) (((p.steps[c]?).map StepRecord.target).getD 0) ∧ k.finish p = k.enter p.steps[c + 1]? false ∧
      p.finishFlags = Flag.stepDone.mask := by
  have hmore : p.atLast = false := by simp [Program.atLast, hc, hlt]
  simp [Program.finish, Keg.finish, Program.finishFlags, hmore, hc]

/-- No step remains: the program is COMPLETE and the keg SERVING (07 R127). -/
theorem Program.finish_last (hle : p.steps.length ≤ c + 1) (k : Keg) :
    p.finish = { p with state := .complete, current := none, elapsed := 0, ramp := none, due := false } ∧
      k.finish p = { k with phase := .serving } ∧ p.finishFlags = Flag.stepDone.mask ||| Flag.programComplete.mask := by
  have hend : p.atLast = true := by simp [Program.atLast, hc, hle]
  simp [Program.finish, Keg.finish, Program.finishFlags, hend]

end

section
variable {p : Program} {phase : Phase} (h : ProgramFits p phase)
include h

/-- A program that is not under way is not paused, and one that is stays at its step. -/
theorem ProgramFits.pause (r : PauseReason) : ProgramFits (p.pause r) phase := by
  cases hway : p.underWay with
  | false => rwa [Program.pause_idle hway]
  | true =>
    obtain ⟨c, hc, hlt⟩ := h.current hway
    rw [Program.pause_underWay hway]
    exact .of_underWay h.count rfl hc hlt (h.inPhase hway)

/-- The next step is entered, or the program is COMPLETE and the phase SERVING (07 R127). -/
theorem ProgramFits.finish {k : Keg} (hk : k.phase = phase) (hway : p.underWay = true) :
    ProgramFits p.finish (k.finish p).phase := by
  obtain ⟨c, hc, hlt⟩ := h.current hway
  by_cases hlast : p.steps.length ≤ c + 1
  · obtain ⟨hfinish, -, -⟩ := Program.finish_last hc hlast k
    rw [hfinish]
    exact .of_resting h.count (by simpa [stepsLaw] using List.ne_nil_of_length_pos (Nat.zero_lt_of_lt hlt)) rfl rfl
  · have hnext : c + 1 < p.steps.length := not_le.mp hlast
    obtain ⟨hfinish, hkeg, -⟩ := Program.finish_next hc hnext k
    rw [hfinish, hkeg, List.getElem?_eq_getElem hnext, Keg.enter_phase, hk, if_neg Bool.false_ne_true]
    refine .of_underWay h.count hway rfl hnext ?_
    split_ifs
    · exact .inr rfl
    · exact h.inPhase hway

/-- A record stored at an accepted index: EMPTY and COMPLETE become READY, and the current step is not reached by it (07 R116). -/
theorem ProgramFits.store {i : Nat} (st : StepRecord) (hi : p.acceptsIndex i = true) : ProgramFits (p.store i st) phase := by
  obtain ⟨hle, h16⟩ : i ≤ p.steps.length ∧ i < 16 := by
    simp only [Program.acceptsIndex, Bool.and_eq_true, decide_eq_true_eq] at hi
    exact hi.1
  have hlength : (p.store i st).steps.length = max p.steps.length (i + 1) := by
    unfold Program.store
    dsimp only
    split_ifs
    · rw [List.length_set]; omega
    · rw [List.length_append, List.length_singleton]; omega
  have hcount : (p.store i st).steps.length ≤ 16 := by have := h.count; omega
  have hfilled : (p.store i st).steps ≠ [] := List.ne_nil_of_length_pos (by omega)
  cases hway : p.underWay with
  | true =>
    obtain ⟨c, hc, hlt⟩ := h.current hway
    have hstate : (p.store i st).state = p.state := by
      rcases p.underWay_iff.mp hway with hs | hs <;> simp [Program.store, hs]
    exact .of_underWay hcount (by simpa only [Program.underWay, hstate] using hway) hc (by omega) (h.inPhase hway)
  | false =>
    have hready : (p.store i st).state = .ready := by
      cases hs : p.state <;> simp_all [Program.store, Program.underWay]
    exact .of_resting hcount (by simp [stepsLaw, hready, hfilled]) (by simp [Program.underWay, hready]) (h.resting hway)

/-- A READY program enters step 0 (07 R120, R121). -/
theorem ProgramFits.started (hready : p.state = .ready) (sample : Int) (k : Keg) :
    ProgramFits (p.started sample) (k.enter p.steps[0]? true).phase := by
  have hfilled : p.steps ≠ [] := by simpa [stepsLaw, hready] using h.filled
  have hpos : 0 < p.steps.length := List.length_pos_of_ne_nil hfilled
  refine .of_underWay h.count rfl rfl hpos ?_
  rw [List.getElem?_eq_getElem hpos, Keg.enter_phase, if_pos rfl]
  split_ifs
  · exact .inr rfl
  · exact .inl rfl

end

theorem ProgramFits.cleared (p : Program) (phase : Phase) : ProgramFits p.clear phase :=
  .of_resting (Nat.zero_le 16) rfl rfl rfl

end Sys2Proof.Machine
end

section
/-! PROOFS. The laws of program and pour through each operation (07, 09 R154 to R166, 10 R171): an evaluation leaves them, a step's
end and a pause move phase and program together, and a pour begins only with the keg served and in place. -/

namespace Sys2Proof.Machine

/-! ### The laws and what leaves them standing -/

/-- The laws but for the keg's place: what holds of program and pour while KEG-PRESENT and COUPLED have just settled. -/
structure PlantLawLifted (s : State) : Prop where
  program : ProgramFits s.program s.keg.phase
  record  : recordLaw s.pour = true
  serving : s.pour.state = .pouring → s.keg.phase = .serving ∧ s.load = .ended ∧ s.mode.mode ≠ .starting

/-- The laws of program and pour. -/
structure PlantLaw (s : State) : Prop extends PlantLawLifted s where
  inPlace : s.pour.state = .pouring → s.kegReady = true

theorem plantLaw_iff (s : State) : (programLaw s = true ∧ pourLaw s = true) ↔ PlantLaw s := by
  have hpour : pourLaw s = true ↔ recordLaw s.pour = true ∧ (s.pour.state = .pouring →
      ((s.keg.phase = .serving ∧ s.kegReady = true) ∧ s.load = .ended) ∧ s.mode.mode ≠ .starting) := by
    simp only [pourLaw, Bool.and_eq_true, Bool.or_eq_true, bne_iff_ne, ne_eq, beq_iff_eq, ← imp_iff_not_or]
  rw [programLaw_iff, hpour]
  refine ⟨fun ⟨hprogram, hrecord, hpouring⟩ => ⟨⟨hprogram, hrecord, fun hp => ?_⟩, fun hp => ?_⟩, fun h =>
    ⟨h.program, h.record, fun hp => ?_⟩⟩
  · obtain ⟨⟨⟨hphase, -⟩, hload⟩, hmode⟩ := hpouring hp
    exact ⟨hphase, hload, hmode⟩
  · obtain ⟨⟨⟨-, hready⟩, -⟩, -⟩ := hpouring hp
    exact hready
  · obtain ⟨hphase, hload, hmode⟩ := h.serving hp
    exact ⟨⟨⟨hphase, h.inPlace hp⟩, hload⟩, hmode⟩

/-- Pour state and end reason stand. -/
def SamePour (p q : Pour) : Prop := q.state = p.state ∧ q.record.map OpenPour.reason = p.record.map OpenPour.reason

theorem recordLaw_congr {p q : Pour} (h : SamePour p q) : recordLaw q = recordLaw p := by
  obtain ⟨hstate, hreason⟩ := h
  have hread : ∀ r : Pour, recordLaw r = match r.state, r.record.map OpenPour.reason with
      | .idle, none => true
      | .pouring, some reason => reason.isNone
      | .settling, some reason => reason.isSome
      | _, _ => false := fun r => by
    unfold recordLaw
    cases r.state <;> cases r.record <;> rfl
  rw [hread, hread, hstate, hreason]

theorem State.kegReady_congr {s t : State} (hinputs : t.inputs = s.inputs) (hcfg : t.cfg = s.cfg) : t.kegReady = s.kegReady := by
  simp only [State.kegReady, State.asserted, hinputs, hcfg]

/-- A program under way has no pour beside it (07 R128, 09 R157). -/
theorem PlantLawLifted.notPouring {s : State} (h : PlantLawLifted s) (hway : s.program.underWay = true) :
    s.pour.state ≠ .pouring := fun hp => by
    obtain ⟨hserving, -, -⟩ := h.serving hp
    rcases h.program.inPhase hway with hphase | hphase <;> rw [hphase] at hserving <;> cases hserving

theorem PlantLawLifted.notUnderWay {s : State} (h : PlantLawLifted s) (hp : s.pour.state = .pouring) :
    s.program.underWay = false :=
  Bool.eq_false_iff.mpr fun hway => h.notPouring hway hp

/-- Without a pour the keg's place does not matter. -/
theorem PlantLawLifted.resting {s : State} (h : PlantLawLifted s) (hp : s.pour.state ≠ .pouring) : PlantLaw s :=
  ⟨h, fun hpouring => absurd hpouring hp⟩

section
variable {s t : State} (h : PlantLaw s)
include h

/-- Another program and another keg record that fit each other, and that serve where a pour runs. -/
theorem PlantLaw.reprogrammed (hfits : ProgramFits t.program t.keg.phase)
    (hserving : s.pour.state = .pouring → t.keg.phase = .serving)
    (hleft : SamePour s.pour t.pour ∧ t.kegReady = s.kegReady ∧ t.load = s.load ∧ NoReturn s t) : PlantLaw t := by
  obtain ⟨hpour, hready, hload, hmode⟩ := hleft
  have hbefore : t.pour.state = .pouring → s.pour.state = .pouring := fun hp => hpour.1.symm.trans hp
  refine ⟨⟨hfits, (recordLaw_congr hpour).trans h.record, fun hp => ⟨hserving (hbefore hp), ?_⟩⟩, fun hp =>
    hready.trans (h.inPlace (hbefore hp))⟩
  obtain ⟨-, hended, hup⟩ := h.serving (hbefore hp)
  exact ⟨hload.trans hended, fun ht => hup (hmode ht)⟩

/-- The step table, the program state, the current step, the phase and the pour stand. -/
theorem PlantLaw.same (hprogram : t.program.steps = s.program.steps ∧ t.program.state = s.program.state ∧
      t.program.current = s.program.current) (hphase : t.keg.phase = s.keg.phase)
    (hleft : SamePour s.pour t.pour ∧ t.kegReady = s.kegReady ∧ t.load = s.load ∧ NoReturn s t) : PlantLaw t := by
  obtain ⟨hsteps, hstate, hcurrent⟩ := hprogram
  refine h.reprogrammed (hphase ▸ h.program.congr hsteps hstate hcurrent) (fun hp => ?_) hleft
  obtain ⟨hserving, -, -⟩ := h.serving hp
  exact hphase.trans hserving

/-- An operation that writes neither program, keg record nor pour, nor what the keg's place is read from. -/
theorem PlantLaw.moved (hleft : t.program = s.program ∧ t.keg = s.keg ∧ t.pour = s.pour ∧ t.inputs = s.inputs ∧ t.cfg = s.cfg ∧
    t.load = s.load) (hmode : NoReturn s t) : PlantLaw t := by
  obtain ⟨hprogram, hkeg, hpour, hinputs, hcfg, hload⟩ := hleft
  exact h.same (by simp [hprogram]) (congrArg Keg.phase hkeg)
    ⟨by simp [SamePour, hpour], State.kegReady_congr hinputs hcfg, hload, hmode⟩

/-- The same of an operation that writes no mode either. -/
theorem PlantLaw.aside (hleft : t.program = s.program ∧ t.keg = s.keg ∧ t.pour = s.pour ∧ t.inputs = s.inputs ∧ t.cfg = s.cfg ∧
    t.load = s.load ∧ t.mode.mode = s.mode.mode) : PlantLaw t := by
  obtain ⟨hprogram, hkeg, hpour, hinputs, hcfg, hload, hmode⟩ := hleft
  exact h.moved ⟨hprogram, hkeg, hpour, hinputs, hcfg, hload⟩ (.of_mode hmode)

/-! ### Evaluations (06 R107, 08 R142) -/

theorem PlantLaw.thermalEval : PlantLaw s.thermalEval := h.aside (by simp)

theorem PlantLaw.pressureEvalFrom (before : Bool) : PlantLaw (s.pressureEvalFrom before) := by
  have hprogram := s.pressureEvalFrom_program before
  exact h.same (by simp [hprogram, Program.opening]) (by simp)
    ⟨by simp [SamePour], State.kegReady_congr (by simp) (by simp), by simp, .of_mode (by simp)⟩

theorem PlantLaw.pressureEval : PlantLaw s.pressureEval := h.pressureEvalFrom _

/-! ### The program (07) -/

/-- A program written alone: a pour stands by. -/
theorem PlantLaw.programmed {p : Program} (hfits : ProgramFits p s.keg.phase) : PlantLaw { s with program := p } :=
  h.reprogrammed hfits (fun hp => (h.serving hp).1) ⟨⟨rfl, rfl⟩, rfl, rfl, id⟩

/-- A step of a program under way ends; no pour stands beside it. -/
theorem PlantLaw.endStep (hway : s.program.underWay = true) : PlantLaw s.endStep := by
  have hended : PlantLaw { s with program := s.program.finish, keg := s.keg.finish s.program } :=
    h.reprogrammed (h.program.finish rfl hway) (fun hp => absurd hp (h.notPouring hway)) ⟨⟨rfl, rfl⟩, rfl, rfl, id⟩
  have hraised : PlantLaw (State.raise { s with program := s.program.finish, keg := s.keg.finish s.program }
      s.program.finishFlags) := hended.aside ⟨rfl, rfl, rfl, rfl, rfl, rfl, rfl⟩
  exact hraised.thermalEval.pressureEval

theorem PlantLaw.dueTest : PlantLaw s.dueTest :=
  h.same ⟨rfl, rfl, rfl⟩ rfl ⟨⟨rfl, rfl⟩, rfl, rfl, id⟩

theorem PlantLaw.minute : PlantLaw s.minute := by
  obtain ⟨hsteps, hstate, hcurrent⟩ := s.program.minute_table s.thermal.inBand
  have hcounted : PlantLaw { s with program := s.program.minute s.thermal.inBand } :=
    h.programmed (h.program.congr hsteps hstate hcurrent)
  unfold State.minute
  dsimp only
  split_ifs with hends
  · exact hcounted.dueTest.endStep ((Program.underWay_iff _).mpr (.inl hends.1))
  · exact hcounted.dueTest.thermalEval
  · exact hcounted.dueTest

theorem PlantLaw.hour : PlantLaw s.hour := by
  have hmoved : PlantLaw { s with program := s.program.hour } := h.programmed (h.program.congr rfl rfl rfl)
  unfold State.hour
  dsimp only
  split_ifs with hends
  · exact hmoved.endStep ((Program.underWay_iff _).mpr (.inl hends.1))
  · exact hmoved

theorem PlantLaw.minuteEvent : PlantLaw s.minuteEvent := by
  unfold State.minuteEvent
  split_ifs
  · exact PlantLaw.minute (h.aside ⟨rfl, rfl, rfl, rfl, rfl, rfl, rfl⟩)
  · exact h

theorem PlantLaw.hourEvent : PlantLaw s.hourEvent := by
  unfold State.hourEvent
  split_ifs
  · exact PlantLaw.hour (h.aside ⟨rfl, rfl, rfl, rfl, rfl, rfl, rfl⟩)
  · exact h

theorem PlantLaw.pauseFor (r : PauseReason) : PlantLaw (s.pauseFor r) :=
  h.reprogrammed (by simpa [s.pauseFor_program r] using h.program.pause r) (fun hp => by simpa using (h.serving hp).1)
    ⟨by simp [SamePour], State.kegReady_congr (by simp) (by simp), by simp, .of_mode (by simp)⟩

/-! ### The samples (06 R100, 08 R138) -/

theorem PlantLaw.probeSecond (v : Int) : PlantLaw (s.probeSecond v) := by
  have hread : PlantLaw (s.probeRead v) := h.aside ⟨rfl, rfl, rfl, rfl, rfl, rfl, rfl⟩
  have htaken : PlantLaw (s.probeTaken v) := by
    unfold State.probeTaken
    split_ifs
    · exact hread.pauseFor _
    · exact hread
  have hsample : PlantLaw (s.probeSample v) := s.probeSample_eq v ▸ htaken.thermalEval
  rw [State.probeSecond]
  exact hsample.aside ⟨rfl, rfl, rfl, rfl, rfl, rfl, rfl⟩

theorem PlantLaw.pressureSample (v : Int) : PlantLaw (s.pressureSample v) := by
  rw [s.pressureSample_eq]
  refine PlantLaw.pressureEvalFrom ?_ _
  exact h.aside ⟨rfl, rfl, rfl, rfl, rfl, rfl, rfl⟩

end

/-! ### The pour (09) -/

/-- The end of a pour needs no keg in its place: it is what follows the keg's lifting (09 R162). -/
theorem PlantLawLifted.endPour {s : State} (h : PlantLawLifted s) (reason : EndReason) : PlantLaw (s.endPour reason) := by
  unfold State.endPour
  split_ifs with hp
  · have hrecord : recordLaw (s.pour.ended reason) = true := by
      have hopen := h.record
      rw [recordLaw, hp] at hopen
      cases hrec : s.pour.record with
      | none => simp [hrec] at hopen
      | some r => simp [recordLaw, Pour.ended, hrec]
    exact PlantLaw.pressureEval ⟨⟨h.program, hrecord, nofun⟩, nofun⟩
  · exact h.resting hp

theorem PlantLawLifted.kegLost {s : State} (h : PlantLawLifted s) : PlantLaw s.kegLost := (h.endPour _).pauseFor _

theorem Pour.second_same (p : Pour) (foamLimit : Nat) : SamePour p (p.second foamLimit) := by
  unfold Pour.second
  split <;> exact ⟨rfl, rfl⟩

theorem Keg.meter_phase (k : Keg) : k.meter.phase = k.phase := by
  unfold Keg.meter
  split_ifs <;> rfl

section
variable {s : State} (h : PlantLaw s)
include h

theorem PlantLaw.endPour (reason : EndReason) : PlantLaw (s.endPour reason) := h.toPlantLawLifted.endPour reason

theorem PlantLaw.refusePour (reason : PourRefusal) : PlantLaw (s.refusePour reason) :=
  h.same ⟨rfl, rfl, rfl⟩ rfl ⟨⟨rfl, rfl⟩, rfl, rfl, id⟩

/-- A request that no precondition of R157 refuses finds the keg served and in place. -/
theorem PlantLaw.checkPour (hload : s.load = .ended) (hmode : s.mode.mode ≠ .starting) (q : PourRequest) :
    PlantLaw (s.checkPour q) := by
  unfold State.checkPour
  split
  · exact h.refusePour _
  · next hnone =>
    have hchecked : s.keg.phase = .serving ∧ s.kegReady = true := by
      unfold State.pourRefusal at hnone
      split_ifs at hnone with hphase hready
      exact ⟨not_not.mp hphase, by simpa using hready⟩
    obtain ⟨hphase, hready⟩ := hchecked
    exact PlantLaw.pressureEval ⟨⟨h.program, rfl, fun _ => ⟨hphase, hload, hmode⟩⟩, fun _ => hready⟩

/-- Requests are presented only after the load and outside STARTING (09 R155). -/
theorem PlantLaw.arbitrate (l : List PourRequest) (hup : l ≠ [] → s.load = .ended ∧ s.mode.mode ≠ .starting) :
    PlantLaw (s.arbitrate l) := by
  have hdrawn : PlantLaw { s with draws := s.draws + 1 } := h.aside ⟨rfl, rfl, rfl, rfl, rfl, rfl, rfl⟩
  unfold State.arbitrate
  split
  · exact h
  · obtain ⟨hload, hmode⟩ := hup (List.cons_ne_nil _ _)
    split_ifs
    · exact h.refusePour _
    · exact h.checkPour hload hmode _
    · exact (hdrawn.refusePour _).checkPour hload hmode _
    · exact (hdrawn.checkPour hload hmode _).refusePour _

theorem PlantLaw.meterOne : PlantLaw s.meterOne := by
  have hmetered : ∀ low, PlantLaw (State.raise { s with pour := s.pour.meter, keg := { s.keg.meter with lowPassed := low } }
      (flagIf (s.keg.goesLow s.keg.meter s.cfg.lowMark) .kegLow)) := fun _ =>
    h.same ⟨rfl, rfl, rfl⟩ s.keg.meter_phase ⟨⟨rfl, by simp [Pour.meter, Function.comp_def]⟩, rfl, rfl, id⟩
  unfold State.meterOne
  dsimp only
  split
  · exact (hmetered _).endPour _
  · exact hmetered _

theorem PlantLaw.meterMany (n : Nat) : PlantLaw (State.meterMany n s) := by
  induction n generalizing s with
  | zero => exact h
  | succ n ih => exact ih h.meterOne

theorem PlantLaw.pulse : PlantLaw s.pulse := by
  unfold State.pulse
  dsimp only
  split_ifs
  · refine PlantLaw.meterMany ?_ _
    exact h.same ⟨rfl, rfl, rfl⟩ rfl ⟨⟨rfl, rfl⟩, rfl, rfl, id⟩
  · exact h

/-- A pour that has run dry leaves the keg SPENT, which no program under way stands in (09 R163). -/
theorem PlantLaw.emptyDue : PlantLaw s.emptyDue := by
  unfold State.emptyDue
  dsimp only
  split_ifs with hdry
  · have hended := h.endPour .empty
    have hrest : (s.endPour .empty).program.underWay = false := by
      obtain ⟨hstate, -, -, -⟩ := (s.endPour_openings .empty).fields
      simpa only [Program.underWay, hstate] using h.notUnderWay hdry.1
    have hover : (s.endPour .empty).pour.state ≠ .pouring := by
      rw [State.endPour, if_pos hdry.1]
      simp [Pour.ended]
    refine (PlantLaw.thermalEval ?_).pressureEval
    exact hended.reprogrammed (hended.program.rephased hrest _) (fun hp => absurd hp hover) ⟨⟨rfl, rfl⟩, rfl, rfl, id⟩
  · exact h

theorem PlantLaw.foamDue : PlantLaw s.foamDue := by
  unfold State.foamDue
  split_ifs
  · exact h.endPour _
  · exact h

theorem PlantLaw.settleDue : PlantLaw s.settleDue := by
  unfold State.settleDue
  split_ifs
  · exact PlantLaw.pressureEval ⟨⟨h.program, rfl, nofun⟩, nofun⟩
  · exact h

/-! ### The second event (05 R78; log 5) -/

theorem PlantLaw.takeDue : PlantLaw s.takeDue := by
  have hplant : PlantLaw s.minuteEvent.hourEvent.driftDue.emptyDue.foamDue.settleDue :=
    (PlantLaw.aside h.minuteEvent.hourEvent (by simp)).emptyDue.foamDue.settleDue
  exact hplant.moved (by simp [State.takeDue]) ((((NoReturn.of_mode (by simp)).trans (State.takeSilent_noReturn _)).trans
    (State.announceTimer_noReturn _)).trans (State.answerWait_noReturn _) |>.trans (State.restTimer_noReturn _))

theorem PlantLaw.second (probe pressure : Int) : PlantLaw (s.second probe pressure) := by
  have hdue := h.takeDue
  rw [s.second_eq, State.sampled]
  generalize s.takeDue = v at hdue ⊢
  have hticked : PlantLaw { v with timebase := v.timebase.second } := hdue.aside ⟨rfl, rfl, rfl, rfl, rfl, rfl, rfl⟩
  have hsampled := (hticked.probeSecond probe).pressureSample pressure
  generalize ({ v with timebase := v.timebase.second }.probeSecond probe).pressureSample pressure = w at hsampled ⊢
  exact hsampled.same ⟨rfl, rfl, rfl⟩ rfl ⟨Pour.second_same _ _, rfl, rfl, id⟩

/-! ### The inputs (05 R83, 10 R171) -/

theorem PlantLaw.enterVacant : PlantLaw s.enterVacant := h.moved (by simp) s.enterVacant_noReturn

theorem PlantLaw.enterJoining : PlantLaw s.enterJoining := h.moved (by simp) s.enterJoining_noReturn

theorem PlantLaw.leakBegin : PlantLaw s.leakBegin := by
  have hlocked : PlantLaw s.leakLocked := h.aside ⟨rfl, rfl, rfl, rfl, rfl, rfl, rfl⟩
  exact hlocked.pressureEval.aside ⟨rfl, rfl, rfl, rfl, rfl, rfl, rfl⟩

theorem PlantLaw.leakEnd : PlantLaw s.leakEnd := PlantLaw.pressureEval (h.aside ⟨rfl, rfl, rfl, rfl, rfl, rfl, rfl⟩)

theorem PlantLaw.kegLost : PlantLaw s.kegLost := h.toPlantLawLifted.kegLost

/-- The changes that are taken after those of KEG-PRESENT and COUPLED. -/
theorem PlantLaw.restTaken (leak drip handle : Taken) : PlantLaw (((s.leakTaken leak).dripTaken drip).handleTaken handle) := by
  have hleak : PlantLaw (s.leakTaken leak) := by
    cases leak with
    | nothing => exact h
    | assertion => exact h.leakBegin
    | deassertion => exact h.leakEnd
  have hdrip : PlantLaw ((s.leakTaken leak).dripTaken drip) := hleak.aside (by simp)
  cases handle with
  | nothing | assertion => exact hdrip
  | deassertion =>
    unfold State.handleTaken
    dsimp only
    split_ifs
    · exact hdrip.endPour _
    · exact hdrip

end

/-- The keg taken away ends what pours (05 R83, 09 R162). -/
theorem PlantLawLifted.kegPresentTaken {s : State} (h : PlantLawLifted s) : PlantLaw (s.kegPresentTaken .deassertion) := by
  rw [s.kegPresentTaken_deassertion, State.kegLifted]
  split_ifs
  · exact h.kegLost.enterVacant.pressureEval
  · exact h.kegLost.pressureEval

theorem PlantLaw.kegPresentTaken {s : State} (h : PlantLaw s) (k : Taken) : PlantLaw (s.kegPresentTaken k) := by
  cases k with
  | nothing => exact h
  | assertion =>
    unfold State.kegPresentTaken
    dsimp only
    split_ifs
    · exact h.enterJoining.pressureEval
    · exact h.pressureEval
  | deassertion => exact h.toPlantLawLifted.kegPresentTaken

theorem PlantLaw.coupledTaken {s : State} (h : PlantLaw s) (k : Taken) : PlantLaw (s.coupledTaken k) := by
  cases k with
  | nothing => exact h
  | assertion => exact h.pressureEval
  | deassertion => exact h.kegLost.pressureEval

/-- A pour whose keg has just left its place is ended by the change taken of the input that reads so. -/
theorem PlantLaw.handOn {s : State} (h : PlantLaw s) (inputs : List Input) : PlantLaw (State.handOn s (s.settleAll inputs)) := by
  have hlifted : PlantLawLifted (s.settleAll inputs) := ⟨h.program, h.record, h.serving⟩
  generalize hu : s.settleAll inputs = u at hlifted ⊢
  suffices hcoupled : PlantLaw ((u.kegPresentTaken (takenOf s u .kegPresent)).coupledTaken (takenOf s u .coupled)) from
    hcoupled.restTaken _ _ _
  by_cases hready : u.pour.state = .pouring → u.kegReady = true
  · have hplant : PlantLaw u := ⟨hlifted, hready⟩
    exact (hplant.kegPresentTaken _).coupledTaken _
  · obtain ⟨hp, hgone⟩ := Classical.not_imp.mp hready
    have hpouring : s.pour.state = .pouring := by simpa [← hu] using hp
    obtain ⟨-, hload, -⟩ := h.serving hpouring
    obtain ⟨hpresent, hcoupled⟩ : s.asserted .kegPresent = true ∧ s.asserted .coupled = true := by
      simpa [State.kegReady] using h.inPlace hpouring
    cases hstays : u.asserted .kegPresent with
    | false =>
      have htaken : takenOf s u .kegPresent = .deassertion := by
        rw [takenOf, if_neg (not_not_intro hload), hpresent, hstays]
      rw [htaken]
      exact hlifted.kegPresentTaken.coupledTaken _
    | true =>
      have huncoupled : u.asserted .coupled = false := by simpa [State.kegReady, hstays] using hgone
      have htaken : takenOf s u .coupled = .deassertion := by
        rw [takenOf, if_neg (not_not_intro hload), hcoupled, huncoupled]
      rw [takenOf_eq_nothing (hstays.trans hpresent.symm), htaken]
      exact hlifted.kegLost.pressureEval

end Sys2Proof.Machine
end

section
/-! PROOFS. The laws of program and pour through the load, the starts, the orders and every row (05 R76 to R80, 07 R116 to R131,
09 R151 to R162). -/

namespace Sys2Proof.Machine

/-! ### The starts and the load (05 R76 to R80) -/

/-- After a start the engine is IDLE; program and keg record are those kept, or both initial. -/
theorem PlantLaw.started {reason : StartReason} {strap : BitVec 4} {frozen : Option Hold} {program : Program}
    {log : List LogEntry} {keg : Keg} {notice : Notice} {inputs : Inputs} {draws : Nat} {pending : List Instr}
    (hfits : ProgramFits program keg.phase) :
    PlantLaw (State.started reason strap frozen program log keg notice inputs draws pending) :=
  ⟨⟨hfits, rfl, nofun⟩, nofun⟩

theorem ProgramFits.initial (phase : Phase) : ProgramFits .initial phase := .of_resting (Nat.zero_le 16) rfl rfl rfl

/-- The load has ended, or the station is still in STARTING (05 R80). -/
def LoadEnds (s : State) : Prop := s.load = .ended ∨ s.mode.mode = .starting

theorem loadLaw_iff (s : State) : loadLaw s = true ↔ LoadEnds s := by simp [loadLaw, LoadEnds]

section
variable {s : State} (h : PlantLaw s)
include h

/-- Before the load ends nothing pours. -/
theorem PlantLaw.notPouring_loading (hload : s.load ≠ .ended) : s.pour.state ≠ .pouring := fun hp => by
  obtain ⟨-, hended, -⟩ := h.serving hp
  exact hload hended

theorem PlantLaw.configLoad (hload : s.load ≠ .ended) (stage : LoadStage) (tb : Timebase) :
    PlantLaw { s with load := stage, timebase := tb } :=
  PlantLawLifted.resting ⟨h.program, h.record, fun hp => absurd hp (h.notPouring_loading hload)⟩ (h.notPouring_loading hload)

theorem PlantLaw.judgeInputs : PlantLaw s.judgeInputs := by
  have hkeg : PlantLaw s.kegJudged := by
    unfold State.kegJudged
    split_ifs
    · exact h
    · exact h.pauseFor _
  have hleak : PlantLaw s.leakJudged := by
    unfold State.leakJudged
    split_ifs
    · exact hkeg.leakBegin
    · exact hkeg
  refine PlantLaw.pressureEval ?_
  exact hleak.aside ⟨rfl, rfl, rfl, rfl, rfl, rfl, rfl⟩

/-- The load ends with the engine IDLE or SETTLING, whatever the loaded polarities make of the inputs. -/
theorem PlantLaw.configLoadEnd (hload : s.load ≠ .ended) (read : Option WorkingCopy) :
    PlantLaw ((s.takeConfig read).judgeInputs).leaveStarting := by
  have hrest := h.notPouring_loading hload
  have htaken : PlantLaw (s.takeConfig read) :=
    PlantLawLifted.resting ⟨h.program, h.record, fun hp => absurd hp hrest⟩ hrest
  exact htaken.judgeInputs.moved (by simp) (State.leaveStarting_noReturn _)

/-! ### What the orders perform (07, 09) -/

theorem PlantLaw.setFill (args : List Byte) : PlantLaw (State.setFill args s).state := by
  unfold State.setFill
  split_ifs with hbusy
  · exact h
  · obtain ⟨hrest, hidle⟩ : s.program.underWay = false ∧ s.pour.inProgress = false := by simpa using hbusy
    have hover : s.pour.state ≠ .pouring := fun hp => by simp [Pour.inProgress, hp] at hidle
    have hfilled : ∀ volume phase, PlantLaw { s with keg := s.keg.filled volume phase } := fun volume phase =>
      h.reprogrammed (h.program.rephased hrest phase) (fun hp => absurd hp hover) ⟨⟨rfl, rfl⟩, rfl, rfl, id⟩
    split
    · split
      · split
        · exact h
        · dsimp only
          rw [State.done_state]
          split
          · exact hfilled _ _
          · exact (hfilled _ _).thermalEval.pressureEval
      · exact h
    · exact h

theorem PlantLaw.setServe (args : List Byte) : PlantLaw (State.setServe args s).state := by
  unfold State.setServe
  split
  · split
    · rw [State.done_state]
      refine (PlantLaw.thermalEval ?_).pressureEval
      exact h.same ⟨rfl, rfl, rfl⟩ rfl ⟨⟨rfl, rfl⟩, rfl, rfl, id⟩
    · exact h
  · exact h

theorem PlantLaw.loadStep (args : List Byte) : PlantLaw (State.loadStep args s).state := by
  unfold State.loadStep
  split
  · split
    · next haccepted =>
      split
      · next st _ =>
        have hstored := h.programmed (h.program.store st haccepted)
        dsimp only
        rw [State.done_state]
        split
        · exact hstored
        · exact hstored.thermalEval
      · exact h
    · exact h
  · exact h

theorem PlantLaw.clearProgram (args : List Byte) : PlantLaw (State.clearProgram args s).state := by
  unfold State.clearProgram
  split_ifs
  · exact h
  · exact h
  · exact (h.programmed (ProgramFits.cleared s.program _)).thermalEval.pressureEval

/-- A program is started on a keg of phase NONE, from which nothing pours (07 R120). -/
theorem PlantLaw.startProgram (args : List Byte) : PlantLaw (State.startProgram args s).state := by
  unfold State.startProgram
  split_ifs with hmay
  · obtain ⟨⟨⟨hready, hnone⟩, -⟩, -⟩ : ((s.program.state = .ready ∧ s.keg.phase = .none) ∧ s.thermal.probe = .good) ∧
        s.kegReady = true := by
      simpa [State.mayStart] using hmay
    have hover : s.pour.state ≠ .pouring := fun hp => by
      obtain ⟨hserving, -, -⟩ := h.serving hp
      rw [hnone] at hserving
      cases hserving
    rw [State.done_state]
    refine (PlantLaw.thermalEval ?_).pressureEval
    exact h.reprogrammed (h.program.started hready _ s.keg) (fun hp => absurd hp hover) ⟨⟨rfl, rfl⟩, rfl, rfl, id⟩
  · exact h

theorem PlantLaw.pauseProgram (args : List Byte) : PlantLaw (State.pauseProgram args s).state := by
  unfold State.pauseProgram
  split_ifs
  · exact h.pauseFor _
  · exact h

/-- A PAUSED program stays under way, PAUSED or RUNNING, at its step (07 R131). -/
theorem PlantLaw.resumeProgram (args : List Byte) : PlantLaw (State.resumeProgram args s).state := by
  unfold State.resumeProgram
  split
  · next hpaused =>
    have hway : s.program.underWay = true := (Program.underWay_iff _).mpr (.inr hpaused)
    obtain ⟨c, hc, hlt⟩ := h.program.current hway
    have hleft : ∀ state reasons, state = .running ∨ state = .paused →
        ProgramFits { s.program with reasons := reasons, state := state } s.keg.phase := fun _ _ hstate =>
      .of_underWay h.program.count ((Program.underWay_iff _).mpr hstate) hc hlt (h.program.inPhase hway)
    have hresumed : ∀ p, ProgramFits p s.keg.phase →
        PlantLaw (if p = s.program then s else State.thermalEval { s with program := p }) := fun p hp => by
      split_ifs
      · exact h
      · exact (h.programmed hp).thermalEval
    dsimp only
    split
    · exact hresumed _ (hleft _ _ (.inl rfl))
    · exact hresumed _ (hleft _ _ (.inr rfl))
  · exact h

theorem PlantLaw.advanceStep (args : List Byte) : PlantLaw (State.advanceStep args s).state := by
  unfold State.advanceStep
  split_ifs with hrunning
  · exact h.endStep ((Program.underWay_iff _).mpr (.inl hrunning))
  · exact h

theorem PlantLaw.stopPour (args : List Byte) : PlantLaw (State.stopPour args s).state := by
  unfold State.stopPour
  split_ifs
  · exact h.endPour _
  · exact h

/-! ### The pour requests (09 R155, R156) -/

theorem PlantLaw.answer (e : RxEntry) (c : Byte) (r : Result) (d : List Byte) : PlantLaw (s.answer e c r d) :=
  h.aside ⟨rfl, rfl, rfl, rfl, rfl, rfl, rfl⟩

theorem PlantLaw.dropOrder : PlantLaw s.dropOrder := h.aside ⟨rfl, rfl, rfl, rfl, rfl, rfl, rfl⟩

theorem PlantLaw.popFrame (e : RxEntry) : PlantLaw (s.popFrame e) := h.aside ⟨rfl, rfl, rfl, rfl, rfl, rfl, rfl⟩

end

/-- An input makes a request only by an assertion taken after the load, and outside STARTING. -/
theorem inputRequests_up {before after : State} (h : inputRequests before after ≠ []) :
    before.load = .ended ∧ after.mode.mode ≠ .starting := by
  have hload : before.load = .ended := by
    by_contra hload
    have hnothing : ∀ x, takenOf before after x = .nothing := fun x => if_pos hload
    exact h (by simp [inputRequests, hnothing])
  exact ⟨hload, fun hm => h (if_pos hm)⟩

/-- Before the load ends no change is handed on, so the load's law passes over the inputs. -/
theorem LoadEnds.handOn {s : State} (h : LoadEnds s) (inputs : List Input) : LoadEnds (State.handOn s (s.settleAll inputs)) := by
  by_cases hload : s.load = .ended
  · exact .inl (by simpa using hload)
  · have hnothing : ∀ x, takenOf s (s.settleAll inputs) x = .nothing := fun x => if_pos hload
    rw [State.handOn]
    simp only [hnothing]
    exact .inr (h.resolve_left hload)

section
variable {s : State} (h : PlantLaw s)
include h

theorem PlantLaw.arbitrateInputs {before after : State} (hload : s.load = before.load) (hmode : NoReturn after s) :
    PlantLaw (s.arbitrate (inputRequests before after)) :=
  h.arbitrate _ fun hsome => by
    obtain ⟨hended, hup⟩ := inputRequests_up hsome
    exact ⟨hload.trans hended, fun hm => hup (hmode hm)⟩

/-- An order makes a request only outside STARTING, where the load has ended. -/
theorem PlantLaw.pourPortionRow (hends : LoadEnds s) {before : State} (hload : s.load = before.load) (e : RxEntry) :
    PlantLaw (s.pourPortionRow before e) := by
  unfold State.pourPortionRow
  dsimp only
  split
  · next q hq =>
    have hmode : s.mode.mode ≠ .starting := fun hm => by simp [State.orderRequest, hm] at hq
    exact (h.arbitrate _ fun _ => ⟨hends.resolve_right hmode, hmode⟩).answer _ _ _ _
  · have hdecided := h.arbitrateInputs hload id
    exact State.handleOrder_keeps _ _ _ _ hdecided.dropOrder (fun _ => hdecided.answer _ _ _ _) (hdecided.answer _ _ _ _)

end

/-! ### The inputs between their settlings (10 R170) -/

/-- The keg's place is read from the settled levels. -/
theorem State.kegReady_settled (s : State) {i : Inputs} (h : ∀ x, (i.get x).settled = (s.inputs.get x).settled) :
    State.kegReady { s with inputs := i } = s.kegReady := by
  simp only [State.kegReady, State.asserted, h]

theorem InputState.tick_settled (i : InputState) : i.tick.settled = i.settled := by
  unfold InputState.tick
  split_ifs <;> rfl

theorem InputState.moved_settled (i : InputState) (high : Bool) : (i.moved high).settled = i.settled := by
  unfold InputState.moved
  split_ifs <;> rfl

theorem State.kegReady_tick (s : State) : State.kegReady { s with inputs := s.inputs.map InputState.tick } = s.kegReady :=
  s.kegReady_settled fun x => by cases x <;> exact InputState.tick_settled _

theorem State.kegReady_moved (s : State) (x : Input) (high : Bool) :
    State.kegReady { s with inputs := s.inputs.set x ((s.inputs.get x).moved high) } = s.kegReady :=
  s.kegReady_settled fun y => by
    by_cases hy : y = x
    · rw [hy, Inputs.get_set_self, InputState.moved_settled]
    · rw [Inputs.get_set_other _ _ hy]

/-! ### The rows -/

section
variable {s t : State} (h : PlantLaw s)
include h

theorem PlantLaw.frameRow {ok : FrameClass → Bool} {f : RxEntry → State → State}
    (hf : ∀ e u, PlantLaw u → PlantLaw (f e u)) (he : whileRunning s (fun s => takeFrame s ok f) = .next t) : PlantLaw t :=
  frameRow_keeps h h.popFrame hf he

theorem PlantLaw.orderRow {o : OrderCode} {p : List Byte → State → Reply}
    (hp : ∀ a u, PlantLaw u → PlantLaw (p a u).state) (he : orderRow o p s = .next t) : PlantLaw t :=
  orderRow_keeps h h.popFrame (fun _ hu => hu.dropOrder) (fun _ _ _ _ _ hu => hu.answer _ _ _ _) hp he

theorem PlantLaw.row (hends : LoadEnds s) {c : Instr} (he : exec c s = .next t) : PlantLaw t := by
  cases c with
  | coldStart strap => cases he; exact .started (.initial _)
  | dipStart strap => cases he; exact .started h.program
  | supplyFall => cases he; exact h.aside ⟨rfl, rfl, rfl, rfl, rfl, rfl, rfl⟩
  | orderedStart strap =>
    cases he
    split_ifs
    · exact .started h.program
    · exact h
  | configLoad =>
    refine whileRunning_keeps h ?_ he
    split_ifs with hdelay
    · exact h.configLoad (by simp [hdelay]) _ _
    · exact h
  | configLoadEnd read =>
    refine whileRunning_keeps h ?_ he
    split_ifs with hreading
    · exact h.configLoadEnd (by simp [hreading]) _
    · exact h
  | secondEvent probe pressure =>
    change execSecondEvent probe pressure s = .next t at he
    rw [execSecondEvent] at he
    refine whileRunning_keeps h ?_ he
    split_ifs
    · exact h
    · exact h.second _ _
  | minuteEvent => exact whileRunning_keeps h h.minuteEvent he
  | hourEvent => exact whileRunning_keeps h h.hourEvent he
  | meterPulse => exact whileRunning_keeps h h.pulse he
  | driftLimit => exact whileRunning_keeps h (h.aside (by simp)) he
  | emptyEnd => exact whileRunning_keeps h h.emptyDue he
  | foamEnd => exact whileRunning_keeps h h.foamDue he
  | settlingEnd => exact whileRunning_keeps h h.settleDue he
  | pinChange input high =>
    cases he
    exact h.same ⟨rfl, rfl, rfl⟩ rfl ⟨⟨rfl, rfl⟩, s.kegReady_moved input high, rfl, id⟩
  | inputSettled inputs =>
    change execInputSettled inputs s = .next t at he
    rw [execInputSettled] at he
    refine whileRunning_keeps h ?_ he
    exact (h.handOn inputs).arbitrateInputs (by simp) (State.handOn_noReturn _ s)
  | lineIdle | breakSeen =>
    exact whileRunning_keeps h (by split_ifs <;> exact h.aside ⟨rfl, rfl, rfl, rfl, rfl, rfl, rfl⟩) he
  | stub =>
    change execStub s = .next t at he
    rw [execStub] at he
    exact whileRunning_keeps h (by split <;> exact h.aside ⟨rfl, rfl, rfl, rfl, rfl, rfl, rfl⟩) he
  | frameEnd falseStart chars =>
    refine whileRunning_keeps h ?_ he
    split_ifs
    · exact h.moved (by simp) (s.judgeFrame_noReturn _ _)
    · exact h
  | frameBroken cause falseStart chars =>
    refine whileRunning_keeps h ?_ he
    have hbroken : PlantLaw { s with line := s.line.outside (BreakCause.leadsTo cause) } :=
      h.aside ⟨rfl, rfl, rfl, rfl, rfl, rfl, rfl⟩
    split_ifs
    · exact (hbroken.aside (t := State.judgeOwn _ false) (by simp)).moved (by simp) (State.discardFrame_noReturn _ _ _)
    · exact h
  | slotBegin wireHigh =>
    change execSlotBegin wireHigh s = .next t at he
    rw [execSlotBegin] at he
    refine whileRunning_keeps h ?_ he
    split
    · split_ifs
      · exact h.aside (by simp)
      · exact h
    · exact h
  | quietWindow =>
    change execQuietWindow s = .next t at he
    rw [execQuietWindow] at he
    refine whileRunning_keeps h ?_ he
    split
    · split_ifs <;> exact h.aside ⟨rfl, rfl, rfl, rfl, rfl, rfl, rfl⟩
    · exact h
  | lostArbitration bit =>
    change execLostArbitration bit s = .next t at he
    rw [execLostArbitration] at he
    refine whileRunning_keeps h ?_ he
    split
    · split_ifs <;> exact h.aside ⟨rfl, rfl, rfl, rfl, rfl, rfl, rfl⟩
    · exact h
  | sendFault bit =>
    change execSendFault bit s = .next t at he
    rw [execSendFault] at he
    refine whileRunning_keeps h ?_ he
    split
    · split_ifs
      · exact h.moved (by simp) (State.lineSuspect_noReturn { s with tx := _, line := _ })
      · exact h
    · exact h
  | frameComplete =>
    change execFrameComplete s = .next t at he
    rw [execFrameComplete] at he
    refine whileRunning_keeps h ?_ he
    split
    · exact h.moved (by simp) (State.ownerSent_noReturn { s with tx := _, line := _ } _ _)
    · exact h
  | frameRejected =>
    change execFrameRejected s = .next t at he
    rw [execFrameRejected] at he
    refine h.frameRow (fun e u hu => ?_) he
    exact hu.moved (by simp) (State.setSuspect_noReturn { u with handler := u.handler.reject (classify u.line.address e) })
  | frameNoBlock => exact h.frameRow (fun _ _ hu => hu) he
  | claim | renew | yield | yieldAll | expire | syncAsk => exact h.frameRow (fun _ _ hu => hu.aside (by simp)) he
  | syncTable =>
    exact h.frameRow (fun e u hu =>
      hu.moved (by simp) ((u.syncTableFrame_noReturn e).trans (State.releaseSuspect_noReturn _))) he
  | announce =>
    exact h.frameRow (fun e u hu =>
      hu.moved (by simp) ((u.announceFrame_noReturn e).trans (State.releaseSuspect_noReturn _))) he
  | answerWaitExpiry => exact whileRunning_keeps h (h.moved (by simp) s.answerWait_noReturn) he
  | restEnd => exact whileRunning_keeps h (h.moved (by simp) s.restTimer_noReturn) he
  | announceTimer => exact whileRunning_keeps h (h.moved (by simp) s.announceTimer_noReturn) he
  | rosterEntryRemoved address => exact whileRunning_keeps h (h.moved (by simp) (s.removeSilent_noReturn address)) he
  | renewPoint x | lapse x | expiryPoint x | starveLimit x => exact whileRunning_keeps h (h.aside (by simp)) he
  | readStatus | readKeg => exact h.orderRow (fun _ _ hu => hu) he
  | readStep | readPourLog | readNotices | clearNotices | setNoticeEnable | raiseNotice | restartBay =>
    exact h.orderRow (fun _ _ hu => hu.aside (by simp)) he
  | setFill => exact h.orderRow (fun a _ hu => hu.setFill a) he
  | setServe => exact h.orderRow (fun a _ hu => hu.setServe a) he
  | loadStep => exact h.orderRow (fun a _ hu => hu.loadStep a) he
  | clearProgram => exact h.orderRow (fun a _ hu => hu.clearProgram a) he
  | startProgram => exact h.orderRow (fun a _ hu => hu.startProgram a) he
  | pauseProgram => exact h.orderRow (fun a _ hu => hu.pauseProgram a) he
  | resumeProgram => exact h.orderRow (fun a _ hu => hu.resumeProgram a) he
  | advanceStep => exact h.orderRow (fun a _ hu => hu.advanceStep a) he
  | stopPour => exact h.orderRow (fun a _ hu => hu.stopPour a) he
  | pourPortion settled =>
    change execPourPortion settled s = .next t at he
    rw [execPourPortion] at he
    refine whileRunning_keeps h (takeFrame_keeps s _ _ h fun e => ?_) he
    have hpopped : LoadEnds (s.popFrame e) := hends
    exact ((h.popFrame e).handOn settled).pourPortionRow (hpopped.handOn settled) (by simp) e
  | unknownOrder =>
    refine h.frameRow (fun e _ hu => ?_) he
    split
    · exact hu.dropOrder
    · exact hu.answer _ _ _ _

end

/-- Settles O58: the tick moves no settled level, and each row keeps both laws where the load's law holds before it. -/
theorem everyStepKeepsTheProgramAndPourLaws : Obligations.EveryStepKeepsTheProgramAndPourLaws := by
  intro s t hload hprogram hpour he
  have hplant : PlantLaw s := (plantLaw_iff s).mp ⟨hprogram, hpour⟩
  refine (plantLaw_iff t).mpr ?_
  unfold step at he
  split at he
  · obtain rfl : s.tick = t := by simpa using he
    rw [State.tick_eq]
    split_ifs
    · exact hplant.same ⟨rfl, rfl, rfl⟩ rfl ⟨⟨rfl, rfl⟩, s.kegReady_tick, rfl, id⟩
    · exact hplant
  · next rest _ =>
    have hrest : PlantLaw { s with pending := rest } := hplant.aside ⟨rfl, rfl, rfl, rfl, rfl, rfl, rfl⟩
    exact hrest.row ((loadLaw_iff s).mp hload) he

end Sys2Proof.Machine
end

section
/-! PROOFS. An order taken is performed and answered (11 R183, R184), and the step records as READ-STEP answers them and LOAD-STEP
reads them back (02 section 2.7, R31, 07 R116, R119). -/

namespace Sys2Proof.Machine

/-! ### An order taken (11 R183, R184) -/

/-- The state, the result and the data of what the order's owner performs are what is answered. -/
theorem orderRow_taken {s : State} {e : RxEntry} {o : OrderCode} {args : List Byte} (h : OrderTaken s e o args)
    (perform : List Byte → State → Reply) :
    orderRow o perform s = .next (answered (perform args (s.popFrame e)).state e o.code
      (perform args (s.popFrame e)).result.code (perform args (s.popFrame e)).data) := by
  obtain ⟨⟨⟨hrun, hhand, hkind, hurgency, h1, h12, hsender⟩, hown1, hown12, hlength, hbody⟩, hplace, hmode, hcount⟩ := h
  have hclass : classify s.line.address e = .order (some o) := by
    rw [classify_order _ e o.code args hkind hurgency h1 h12 hsender hown1 hown12 hlength hbody, orderOf_code]
  have hargs := orderArgs_eq e _ o.code args hbody
  rw [orderRow_inHand s o perform e hrun hhand hclass,
    State.handleOrder_performed (s.popFrame e) o e perform hplace (.inl hmode) (hargs.symm ▸ hcount), hargs]
  rfl

/-! ### A record read back (02 section 2.7, R31) -/

theorem stepKindOf_code (k : StepKind) : stepKindOf (stepKindCode k) = some k := by cases k <;> decide

theorem stepEndOf_code (k : StepEnd) : stepEndOf (stepEndCode k) = some k := by cases k <;> decide

theorem natOf16_nat16 {n : Nat} (h : n < 65536) :
    natOf16 (hiByte (BitVec.ofNat 16 n)) (loByte (BitVec.ofNat 16 n)) = n := by
  rw [natOf16, join16_bytes, BitVec.toNat_ofNat, Nat.mod_eq_of_lt h]

theorem tempOf16_temp16 {v : Int} (hlow : -32768 ≤ v) (hhigh : v < 32768) :
    tempOf16 (hiByte (BitVec.ofInt 16 v)) (loByte (BitVec.ofInt 16 v)) = v := by
  rw [tempOf16, join16_bytes, BitVec.toInt_ofInt_eq_self (by decide) hlow hhigh]

/-- Every field of a valid record fits the characters that carry it. -/
theorem StepRecord.valid_bounds {r : StepRecord} (h : r.valid = true) :
    (-20 ≤ r.target ∧ r.target ≤ 350) ∧ r.band ≤ 20 ∧ r.duration ≤ 20160 ∧ (r.threshold ≤ 255 ∧ r.hours ≤ 24) ∧ r.rate ≤ 100 ∧
      r.spund ≤ 240 ∧ r.carb ≤ 250 := by
  simp only [StepRecord.valid, Bool.and_eq_true, decide_eq_true_eq] at h
  obtain ⟨⟨⟨⟨⟨⟨⟨htarget, -, hband⟩, hduration⟩, hactivity⟩, hramp⟩, hspund⟩, hcondition⟩, -⟩ := h
  have hwindow : r.threshold ≤ 255 ∧ r.hours ≤ 24 := by
    split_ifs at hactivity <;> simp only [decide_eq_true_eq] at hactivity <;> omega
  have hrate : r.rate ≤ 100 := by
    split_ifs at hramp <;> simp only [decide_eq_true_eq] at hramp <;> omega
  have hcarb : r.carb ≤ 250 := by
    split_ifs at hcondition <;> simp only [decide_eq_true_eq] at hcondition <;> omega
  exact ⟨htarget, hband, hduration, hwindow, hrate, by omega, hcarb⟩

theorem stepOf_bytes {r : StepRecord} (h : r.valid = true) : stepOf r.bytes = some r := by
  obtain ⟨⟨hlow, hhigh⟩, hband, hduration, ⟨hthreshold, hhours⟩, hrate, hspund, hcarb⟩ := StepRecord.valid_bounds h
  simp only [StepRecord.bytes, temp16, nat16, bytes16, List.cons_append, List.nil_append, stepOf, stepKindOf_code, stepEndOf_code,
    tempOf16_temp16 (v := r.target) (by omega) (by omega), natOf16_nat16 (n := r.duration) (by omega),
    nat8_toNat r.band (by omega), nat8_toNat r.threshold (by omega), nat8_toNat r.hours (by omega), nat8_toNat r.rate (by omega),
    nat8_toNat r.spund (by omega), nat8_toNat r.carb (by omega)]
  exact if_pos h

/-! ### READ-STEP (07 R119) -/

theorem State.readStep_some {s : State} {i : Byte} {st : StepRecord} (h : s.program.steps[i.toNat]? = some st) :
    State.readStep [i] s = s.doneWith (i :: st.bytes) := by
  simp [State.readStep, h]

theorem State.readStep_none {s : State} {i : Byte} (h : s.program.steps[i.toNat]? = none) :
    State.readStep [i] s = s.reply .badState := by
  simp [State.readStep, h]

/-- Settles O42: the reply by what stands at the index, and the record's characters field by field. -/
theorem stepRecordsAreAnsweredAndReadBack : Obligations.StepRecordsAreAnsweredAndReadBack := by
  refine ⟨fun s e i h => ⟨fun st hst => ?_, fun hbeyond => ?_⟩, fun _ => stepOf_bytes⟩
  · change orderRow .readStep State.readStep s = _
    rw [orderRow_taken h, State.readStep_some (s := s.popFrame e) hst]
    rfl
  · change orderRow .readStep State.readStep s = _
    rw [orderRow_taken h, State.readStep_none (s := s.popFrame e) (List.getElem?_eq_none hbeyond)]
    rfl

end Sys2Proof.Machine
end

section
/-! PROOFS. LOAD-STEP, and a step entered: at START-PROGRAM and as another ends (07 R116, R118, R120, R121, R125, R127). -/

namespace Sys2Proof.Machine

/-! ### LOAD-STEP (07 R116) -/

section
variable {p : Program} {i : Nat}

theorem Program.acceptsIndex_iff : p.acceptsIndex i = true ↔ i ≤ p.steps.length ∧ i < 16 ∧
    (p.state = .running ∨ p.state = .paused → ∃ c, p.current = some c ∧ c < i) := by
  rw [← p.underWay_iff]
  cases hway : p.underWay <;> cases hc : p.current <;> simp [Program.acceptsIndex, hway, hc, and_assoc]

/-- A record stored replaces the one at its position or is appended. -/
theorem Program.store_eq (hi : i ≤ p.steps.length) (st : StepRecord) : p.store i st = { p with
    steps := if i = p.steps.length then p.steps ++ [st] else p.steps.set i st
    state := if p.state = .empty ∨ p.state = .complete then .ready else p.state } := by
  rcases Nat.lt_or_eq_of_le hi with hlt | heq
  · rw [Program.store, if_pos hlt, if_neg (Nat.ne_of_lt hlt)]
  · rw [Program.store, if_neg (heq ▸ Nat.lt_irrefl _), if_pos heq]

end

section
variable {s : State} {i : Byte} {record : List Byte}

theorem State.loadStep_refused (h : s.program.acceptsIndex i.toNat = false) :
    State.loadStep (i :: record) s = s.reply .badState := by
  simp [State.loadStep, h]

theorem State.loadStep_invalid (h : s.program.acceptsIndex i.toNat = true) (hrecord : stepOf record = none) :
    State.loadStep (i :: record) s = s.reply .badValue := by
  simp [State.loadStep, h, hrecord]

theorem State.loadStep_stored {st : StepRecord} (h : s.program.acceptsIndex i.toNat = true) (hrecord : stepOf record = some st) :
    State.loadStep (i :: record) s =
      (if (s.program.store i.toNat st).state = s.program.state then { s with program := s.program.store i.toNat st }
        else State.thermalEval { s with program := s.program.store i.toNat st }).done := by
  simp [State.loadStep, h, hrecord]

end

/-- Settles O45: the index judged, the record judged, and the record stored, which moves EMPTY and COMPLETE alone. -/
theorem loadStepStoresAValidRecord : Obligations.LoadStepStoresAValidRecord := by
  intro s e i record h
  have hrow : exec .loadStep s = _ := orderRow_taken h State.loadStep
  dsimp only
  rw [hrow, ← Program.acceptsIndex_iff]
  refine ⟨fun hrefused => ?_, fun haccepted hinvalid => ?_, fun st haccepted hvalid =>
    ⟨fun hmoves => ?_, fun hempty hcomplete => ?_⟩⟩
  · rw [State.loadStep_refused (s := s.popFrame e) (by simpa using hrefused)]
    rfl
  · rw [State.loadStep_invalid (s := s.popFrame e) haccepted hinvalid]
    rfl
  · obtain ⟨hle, -⟩ := Program.acceptsIndex_iff.mp haccepted
    have hready : ProgState.ready ≠ s.program.state := by rcases hmoves with hs | hs <;> rw [hs] <;> decide
    rw [State.loadStep_stored (s := s.popFrame e) haccepted hvalid, State.popFrame_program, Program.store_eq hle, if_pos hmoves,
      if_neg hready]
    rfl
  · obtain ⟨hle, -⟩ := Program.acceptsIndex_iff.mp haccepted
    rw [State.loadStep_stored (s := s.popFrame e) haccepted hvalid, State.popFrame_program, Program.store_eq hle,
      if_neg (not_or.mpr ⟨hempty, hcomplete⟩), if_pos rfl]
    rfl

/-! ### A step entered (07 R121, R125) -/

/-- A step entered: an ORDER step of duration 0 is due from its entry, in a RAMP where the start point is the target. -/
theorem Program.enter_eq {p : Program} {i : Nat} {st : StepRecord} (h : p.steps[i]? = some st) (start : Int) :
    p.enter i start = { p with
      current := some i, elapsed := 0, ramp := if st.kind = .ramp then some ⟨start, start, 0, start == st.target⟩ else none
      due := st.stepEnd == .order && decide (st.duration = 0) && (st.kind != .ramp || start == st.target) } := by
  have hentered : ∀ ramp, Program.currentStep { p with current := some i, elapsed := 0, due := false, ramp := ramp } = some st :=
    fun _ => h
  simp only [Program.enter, h, Option.bind_some, rampAt, Program.meetsDue, Program.reached, hentered, Nat.le_zero]
  by_cases hramp : st.kind = .ramp <;> simp [hramp]

/-! ### CLEAR-PROGRAM and START-PROGRAM (07 R118, R120) -/

theorem State.mayStart_iff (s : State) : s.mayStart = true ↔ s.program.state = .ready ∧ s.keg.phase = .none ∧
    s.thermal.probe = .good ∧ s.asserted .kegPresent = true ∧ s.asserted .coupled = true := by
  simp [State.mayStart, State.kegReady, and_assoc]

/-- The program as it is started, step 0 being st (07 R120, R121). -/
theorem Program.started_eq {p : Program} {st : StepRecord} (h : p.steps[0]? = some st) (v : Int) : p.started v =
    ⟨p.steps, .running, some 0, ⟨false, false, false⟩, 0, if st.kind = .ramp then some ⟨v, v, 0, v == st.target⟩ else none,
      st.stepEnd == .order && decide (st.duration = 0) && (st.kind != .ramp || v == st.target), List.replicate 24 0, 0⟩ :=
  Program.enter_eq (p := { p with
    state := .running, reasons := ⟨false, false, false⟩, window := List.replicate 24 0, currentHour := 0 }) h v

section
variable {s : State} (args : List Byte)

theorem State.clearProgram_running (h : s.program.state = .running) : State.clearProgram args s = s.reply .badState := if_pos h

theorem State.clearProgram_empty (h : s.program.state = .empty) : State.clearProgram args s = s.done := by
  simp [State.clearProgram, h]

theorem State.clearProgram_other (hrunning : s.program.state ≠ .running) (hempty : s.program.state ≠ .empty) :
    State.clearProgram args s = (State.pressureEval (State.thermalEval { s with program := s.program.clear })).done := by
  rw [State.clearProgram, if_neg hrunning, if_neg hempty]

theorem State.startProgram_refused (h : s.mayStart = false) : State.startProgram args s = s.reply .badState := by
  simp [State.startProgram, h]

theorem State.startProgram_started {st : StepRecord} {v : Int} (h : s.mayStart = true) (hst : s.program.steps[0]? = some st)
    (hv : s.thermal.sample = some v) :
    State.startProgram args s = (State.pressureEval (State.thermalEval { s with
      program := s.program.started v, keg := s.keg.enter (some st) true })).done := by
  simp [State.startProgram, h, hst, hv]

end

/-- Settles O46: CLEAR-PROGRAM by the program state, START-PROGRAM by what R120 asks. -/
theorem clearAndStartProgram : Obligations.ClearAndStartProgram := by
  refine ⟨fun s e h => ?_, fun s e h => ?_⟩
  · have hrow : exec .clearProgram s = _ := orderRow_taken h State.clearProgram
    rw [hrow]
    refine ⟨fun hrunning => ?_, fun hempty => ?_, fun hrunning hempty => ?_⟩
    · rw [State.clearProgram_running (s := s.popFrame e) _ hrunning]
      rfl
    · rw [State.clearProgram_empty (s := s.popFrame e) _ hempty]
      rfl
    · rw [State.clearProgram_other (s := s.popFrame e) _ hrunning hempty]
      rfl
  · have hrow : exec .startProgram s = _ := orderRow_taken h State.startProgram
    dsimp only
    rw [hrow, ← s.mayStart_iff]
    refine ⟨fun hrefused => ?_, fun st v haccepted hst hv => ?_⟩
    · rw [State.startProgram_refused (s := s.popFrame e) _ (Bool.eq_false_iff.mpr hrefused)]
      rfl
    · rw [State.startProgram_started (s := s.popFrame e) _ haccepted hst hv, State.popFrame_program, Program.started_eq hst]
      rfl

end Sys2Proof.Machine
end

section
/-! PROOFS. The end of a step, and PAUSE-PROGRAM, RESUME-PROGRAM and ADVANCE-STEP (06 R106, 07 R126 to R131; log 27). -/

namespace Sys2Proof.Machine

/-! ### The end of a step (07 R127, R128) -/

section
variable (s : State)

/-- The two evaluations leave what the end has made of the program, but for a relief opening. -/
theorem State.endStep_openings : SameButOpenings s.program.finish s.endStep.program := by
  have hended := State.pressureEval_openings (State.thermalEval
    (State.raise { s with program := s.program.finish, keg := s.keg.finish s.program } s.program.finishFlags))
  rw [State.endStep]
  simpa using hended

theorem State.endStep_keg : s.endStep.keg = s.keg.finish s.program := by simp [State.endStep]

theorem State.endStep_flags (i : Nat) (h : s.program.finishFlags.getLsbD i = true) : s.endStep.notice.flags.getLsbD i = true := by
  refine State.pressureEval_flags _ i ?_
  simp [Notice.raised_flags, h]

/-- STEP-DONE is raised at every end of a step. -/
theorem Program.finishFlags_stepDone (p : Program) : p.finishFlags.getLsbD 11 = true := by
  unfold Program.finishFlags
  split_ifs <;> decide

end

theorem SameButOpenings.table {p q : Program} (h : SameButOpenings p q) : q.steps = p.steps ∧ q.ramp = p.ramp ∧ q.due = p.due ∧
    q.window = p.window := by
  rw [SameButOpenings] at h
  rw [h]
  exact ⟨rfl, rfl, rfl, rfl⟩

theorem Program.currentStep_eq {p : Program} {c : Nat} (hc : p.current = some c) : p.currentStep = p.steps[c]? := by
  rw [Program.currentStep, hc, Option.bind_some]

/-- The end of the current step of a RUNNING program is what R127 says. -/
theorem State.endStep_stepEnded {s : State} {c : Nat} {st : StepRecord} (hrunning : s.program.state = .running)
    (hc : s.program.current = some c) (hst : s.program.currentStep = some st) : StepEnded s s.endStep c st := by
  rw [Program.currentStep_eq hc] at hst
  obtain ⟨hstate, -, hcurrent, helapsed⟩ := s.endStep_openings.fields
  obtain ⟨hsteps, hramp, hdue, -⟩ := s.endStep_openings.table
  rw [StepEnded, hsteps, helapsed, hstate, hcurrent, hramp, hdue, s.endStep_keg]
  refine ⟨s.endStep_flags 11 s.program.finishFlags_stepDone, ?_⟩
  cases hnext : s.program.steps[c + 1]? with
  | none =>
    obtain ⟨hfinish, hkeg, hflags⟩ := Program.finish_last hc (List.getElem?_eq_none_iff.mp hnext) s.keg
    have hcomplete : s.program.finishFlags.getLsbD 10 = true := by rw [hflags]; decide
    rw [hfinish, hkeg]
    exact ⟨rfl, rfl, nofun, fun _ => ⟨rfl, rfl, rfl, rfl, rfl, s.endStep_flags 10 hcomplete⟩⟩
  | some nx =>
    obtain ⟨hlt, -⟩ := List.getElem?_eq_some_iff.mp hnext
    obtain ⟨hfinish, hkeg, -⟩ := Program.finish_next hc hlt s.keg
    rw [hfinish, hkeg, Program.enter_eq hnext, hst, hnext]
    refine ⟨rfl, rfl, fun r hr => ?_, nofun⟩
    obtain rfl : nx = r := Option.some.inj hr
    exact ⟨hrunning, rfl, rfl, rfl⟩

/-- What a step's end is reckoned from: the step table and the keg record. -/
theorem StepEnded.of_same {s u t : State} {c : Nat} {st : StepRecord} (h : StepEnded u t c st)
    (hsteps : u.program.steps = s.program.steps) (hkeg : u.keg = s.keg) : StepEnded s t c st := by
  rw [StepEnded, hsteps, hkeg] at h
  exact h

/-! ### PAUSE-PROGRAM (06 R106, 07 R129; log 27) -/

/-- A reason held already changes nothing. -/
theorem Program.pause_again {p : Program} (hpaused : p.state = .paused) (hordered : p.reasons.ordered = true) :
    p.pause .ordered = p := by
  rw [Program.pause_underWay (p.underWay_iff.mpr (.inr hpaused)), ← hpaused, PauseReasons.add, ← hordered]

section
variable {s : State}

/-- A RUNNING program's step is recorded as the frozen target and band. -/
theorem State.pauseFor_running (r : PauseReason) (h : s.program.state = .running) :
    s.pauseFor r = State.thermalEval { s with
      program := { s.program with state := .paused, reasons := s.program.reasons.add r }
      thermal := { s.thermal with frozen := stepHold s.program } } := by
  have hway : s.program.underWay = true := s.program.underWay_iff.mpr (.inl h)
  have hchanges : s.program.pause r ≠ s.program := fun hsame => by
    have hstate := congrArg Program.state hsame
    rw [Program.pause_underWay hway, h] at hstate
    cases hstate
  rw [State.pauseFor, if_pos ⟨hway, hchanges⟩, if_pos h, Program.pause_underWay hway]

/-- A PAUSED program gains the reason and keeps its frozen target and band. -/
theorem State.pauseFor_ordered (h : s.program.state = .paused) (hnew : s.program.reasons.ordered = false) :
    s.pauseFor .ordered = State.thermalEval { s with
      program := { s.program with reasons := { s.program.reasons with ordered := true } } } := by
  have hway : s.program.underWay = true := s.program.underWay_iff.mpr (.inr h)
  have hgains : s.program.pause .ordered = { s.program with reasons := { s.program.reasons with ordered := true } } := by
    rw [Program.pause_underWay hway, ← h]
    rfl
  have hchanges : s.program.pause .ordered ≠ s.program := fun hsame => by
    have hreason := congrArg (fun p => p.reasons.ordered) hsame
    rw [hgains, hnew] at hreason
    cases hreason
  rw [State.pauseFor, if_pos ⟨hway, hchanges⟩, if_neg (by rw [h]; decide), hgains]

theorem State.pauseFor_again (h : s.program.state = .paused) (hheld : s.program.reasons.ordered = true) :
    s.pauseFor .ordered = s :=
  if_neg fun hchanges => hchanges.2 (Program.pause_again h hheld)

/-- The target and band a RUNNING step is frozen at. -/
theorem stepHold_frozen {p : Program} {st : StepRecord} (hst : p.currentStep = some st)
    (hramp : st.kind = .ramp → p.ramp.isSome = true) :
    stepHold p = some ⟨if st.kind = .ramp then (p.ramp.map Ramp.present).getD 0 else st.target, st.band⟩ := by
  by_cases hkind : st.kind = .ramp
  · obtain ⟨r, hr⟩ := Option.isSome_iff_exists.mp (hramp hkind)
    rw [stepHold_ramp hst hkind hr, if_pos hkind, hr]
    rfl
  · rw [stepHold_fixed hst hkind, if_neg hkind]

theorem State.pauseProgram_underWay (args : List Byte) (h : s.program.underWay = true) :
    State.pauseProgram args s = (s.pauseFor .ordered).done := if_pos h

theorem State.pauseProgram_refused (args : List Byte) (h : s.program.underWay = false) :
    State.pauseProgram args s = s.reply .badState := by
  simp [State.pauseProgram, h]

/-! ### RESUME-PROGRAM (07 R131) -/

/-- ORDERED is always removed, so the two that are judged decide whether a reason is left. -/
theorem State.reasonsLeft_none (hsensor : s.reasonsLeft.sensor = false) (hkeg : s.reasonsLeft.kegAbsent = false) :
    s.reasonsLeft.none = true := by
  rw [PauseReasons.none, hsensor, hkeg]
  rfl

theorem State.reasonsLeft_some (h : s.reasonsLeft.sensor = true ∨ s.reasonsLeft.kegAbsent = true) :
    s.reasonsLeft.none = false := by
  rcases h with h | h <;> simp [PauseReasons.none, h]

theorem State.resumeProgram_refused (args : List Byte) (h : s.program.state ≠ .paused) :
    State.resumeProgram args s = s.reply .badState := if_neg h

theorem State.resumeProgram_resumed (args : List Byte) (h : s.program.state = .paused) (hnone : s.reasonsLeft.none = true) :
    State.resumeProgram args s = (State.thermalEval { s with
      program := { s.program with state := .running, reasons := s.reasonsLeft } }).done := by
  have hchanges : { s.program with reasons := s.reasonsLeft, state := .running } ≠ s.program := fun hsame => by
    have hstate := congrArg Program.state hsame
    rw [h] at hstate
    cases hstate
  simp only [State.resumeProgram, if_pos h, hnone, if_true, if_neg hchanges]

section
variable (args : List Byte) (h : s.program.state = .paused) (hsome : s.reasonsLeft.none = false)
include h hsome

/-- Reasons that still hold leave the program PAUSED; the thermal controller evaluates a set that has changed. -/
theorem State.resumeProgram_held (hchanges : s.reasonsLeft ≠ s.program.reasons) : State.resumeProgram args s =
    (State.thermalEval { s with program := { s.program with reasons := s.reasonsLeft } }).reply .badState := by
  have hsame : ({ s.program with reasons := s.reasonsLeft, state := .paused } : Program) =
      { s.program with reasons := s.reasonsLeft } := by rw [← h]
  have hnew : ({ s.program with reasons := s.reasonsLeft } : Program) ≠ s.program := fun hp =>
    hchanges (congrArg Program.reasons hp)
  simp only [State.resumeProgram, if_pos h, hsome, Bool.false_eq_true, if_false, hsame, if_neg hnew]

theorem State.resumeProgram_unchanged (hsame : s.reasonsLeft = s.program.reasons) :
    State.resumeProgram args s = s.reply .badState := by
  have hprogram : ({ s.program with reasons := s.reasonsLeft, state := .paused } : Program) = s.program := by rw [hsame, ← h]
  simp only [State.resumeProgram, if_pos h, hsome, Bool.false_eq_true, if_false, if_pos hprogram]

end

/-! ### ADVANCE-STEP (07 R126) -/

theorem State.advanceStep_running (args : List Byte) (h : s.program.state = .running) :
    State.advanceStep args s = s.endStep.done := if_pos h

theorem State.advanceStep_refused (args : List Byte) (h : s.program.state ≠ .running) :
    State.advanceStep args s = s.reply .badState := if_neg h

end

/-- Settles O47: the two pausing orders by the program state and the reasons, ADVANCE-STEP by the end of the step. -/
theorem pauseResumeAndAdvance : Obligations.PauseResumeAndAdvance := by
  refine ⟨fun s e => ⟨fun h => ?_, fun h => ?_⟩, fun s e h => ?_⟩
  · have hrow : exec .pauseProgram s = _ := orderRow_taken h State.pauseProgram
    have hpauses : s.program.state = .running ∨ s.program.state = .paused → State.pauseProgram [] (s.popFrame e) =
        ((s.popFrame e).pauseFor .ordered).done := fun hway =>
      State.pauseProgram_underWay (s := s.popFrame e) [] (s.program.underWay_iff.mpr hway)
    rw [hrow]
    refine ⟨fun hrunning hpaused => ?_, fun st hrunning hst hramp => ?_, fun hpaused hordered => ?_, fun hpaused hordered => ?_⟩
    · have hrest : s.program.underWay = false := Bool.eq_false_iff.mpr fun hway =>
        (s.program.underWay_iff.mp hway).elim hrunning hpaused
      rw [State.pauseProgram_refused (s := s.popFrame e) [] hrest]
      rfl
    · rw [hpauses (.inl hrunning), State.pauseFor_running (s := s.popFrame e) .ordered hrunning, State.popFrame_program,
        stepHold_frozen hst hramp]
      rfl
    · rw [hpauses (.inr hpaused), State.pauseFor_again (s := s.popFrame e) hpaused hordered]
      rfl
    · rw [hpauses (.inr hpaused), State.pauseFor_ordered (s := s.popFrame e) hpaused hordered]
      rfl
  · have hrow : exec .resumeProgram s = _ := orderRow_taken h State.resumeProgram
    rw [hrow]
    refine ⟨fun hother => ?_, fun hpaused => ⟨fun hsensor hkeg => ?_, fun hholds hchanges => ?_, fun hholds hsame => ?_⟩⟩
    · rw [State.resumeProgram_refused (s := s.popFrame e) [] hother]
      rfl
    · rw [State.resumeProgram_resumed (s := s.popFrame e) [] hpaused (State.reasonsLeft_none hsensor hkeg)]
      rfl
    · rw [State.resumeProgram_held (s := s.popFrame e) [] hpaused (State.reasonsLeft_some hholds) hchanges]
      rfl
    · rw [State.resumeProgram_unchanged (s := s.popFrame e) [] hpaused (State.reasonsLeft_some hholds) hsame]
      rfl
  · have hrow : exec .advanceStep s = _ := orderRow_taken h State.advanceStep
    rw [hrow]
    refine ⟨fun hother => ?_, fun st c hrunning hst hc => ⟨(s.popFrame e).endStep, ?_, ?_⟩⟩
    · rw [State.advanceStep_refused (s := s.popFrame e) [] hother]
      rfl
    · rw [State.advanceStep_running (s := s.popFrame e) [] hrunning]
      rfl
    · exact State.endStep_stepEnded (s := s.popFrame e) hrunning hc hst

end Sys2Proof.Machine
end

section
/-! PROOFS. The minute event and the hour event at the program unit: the ramp and the in-band count, the due test, the end test,
and the activity window (07 R122 to R127, R134). -/

namespace Sys2Proof.Machine

/-! ### The ramp and the in-band count of a minute (07 R122, R123) -/

theorem Ramp.advance_eq (r : Ramp) (st : StepRecord) : r.advance st = rampMoved st r := rfl

/-- The minute moves the ramp of this step: it is a RAMP whose target is not reached. -/
def Program.rampMoves (p : Program) (st : StepRecord) (inBand : Bool) : Bool :=
  inBand && st.kind == .ramp && !p.ramp.any Ramp.reached

section
variable {p : Program} {st : StepRecord} (hrunning : p.state = .running) (hst : p.currentStep = some st)
  (hramp : st.kind = .ramp → p.ramp.isSome = true)

theorem Program.minute_currentStep (inBand : Bool) : (p.minute inBand).currentStep = p.currentStep := by
  obtain ⟨hsteps, -, hcurrent⟩ := p.minute_table inBand
  rw [Program.currentStep, hsteps, hcurrent, Program.currentStep]

include hrunning hst hramp in
/-- Out of band a minute counts nothing; in band it moves the ramp that is not reached, and otherwise the elapsed. -/
theorem Program.minute_eq (inBand : Bool) : p.minute inBand = { p with
    ramp := if p.rampMoves st inBand then p.ramp.map (rampMoved st) else p.ramp
    elapsed := if inBand && !p.rampMoves st inBand then min (p.elapsed + 1) 20160 else p.elapsed } := by
  cases inBand with
  | false => simp [Program.minute, Program.rampMoves]
  | true =>
    have hcounts : p.state = .running ∧ true = true := ⟨hrunning, rfl⟩
    cases hr : p.ramp with
    | none =>
      have hkind : st.kind ≠ .ramp := fun hkind => by simpa [hr] using hramp hkind
      simp [Program.minute, Program.rampMoves, hcounts, hst, hr, hkind, bump]
    | some r =>
      by_cases hkind : st.kind = .ramp
      · cases hreached : r.reached <;>
          simp [Program.minute, Program.rampMoves, hcounts, hst, hr, hkind, hreached, bump, Ramp.advance_eq]
      · simp [Program.minute, Program.rampMoves, hcounts, hst, hr, hkind, bump]

/-! ### The due test and the end test (07 R124, R125) -/

/-- The step's duration is met, and in a RAMP its target reached (07 R124, R125). -/
def Program.meetsDuration (p : Program) (st : StepRecord) : Bool :=
  (st.kind != .ramp || p.ramp.any Ramp.reached) && decide (st.duration ≤ p.elapsed)

include hst hramp

theorem Program.reached_eq : p.reached = (st.kind != .ramp || p.ramp.any Ramp.reached) := by
  cases hr : p.ramp with
  | none =>
    have hkind : st.kind ≠ .ramp := fun hkind => by simpa [hr] using hramp hkind
    simp [Program.reached, hst, hr, hkind]
  | some r => simp [Program.reached, hst, hr]

theorem Program.meetsDue_eq : p.meetsDue = (p.meetsDuration st && st.stepEnd == .order) := by
  simp only [Program.meetsDue, hst, Program.reached_eq hst hramp, Program.meetsDuration]
  cases st.stepEnd == .order <;> simp [Bool.and_comm]

theorem Program.meetsEnd_iff : p.meetsEnd = true ↔ p.meetsDuration st = true ∧ (st.stepEnd = .time ∨
    (st.stepEnd = .activity ∧ (p.window.take st.hours).sum ≤ st.threshold)) := by
  have hmeets : (decide (st.duration ≤ p.elapsed) && p.reached) = p.meetsDuration st := by
    rw [Program.reached_eq hst hramp, Bool.and_comm, Program.meetsDuration]
  rw [Program.meetsEnd, hst]
  cases hend : st.stepEnd with
  | time => simp [hend, hmeets]
  | activity =>
    simp only [hend, hmeets, Bool.and_eq_true, decide_eq_true_eq]
    simp [Program.activity]
  | order => simp [hend]

/-- A duration that is not met leaves the step neither at its end nor due. -/
theorem Program.unmet_goesOn (hunmet : p.meetsDuration st = false) : ¬ p.meetsEnd = true ∧ p.meetsDue = false := by
  rw [Program.meetsEnd_iff hst hramp, Program.meetsDue_eq hst hramp, hunmet]
  exact ⟨fun h => Bool.false_ne_true h.1, rfl⟩

end

/-! ### The minute event (07 R122 to R125) -/

/-- STEP-DONE raised where a condition holds. -/
theorem State.raise_stepDone (s : State) (b : Bool) : ∃ tx, s.raise (flagIf b .stepDone) =
    { s with notice := if b then s.notice.raised 0x0800 else s.notice, tx := tx } ∧ (b = false → tx = s.tx) := by
  cases b with
  | false => exact ⟨s.tx, s.raise_zero, fun _ => rfl⟩
  | true => exact ⟨_, rfl, nofun⟩

/-- The state a minute leaves where the step does not end: q the program after the minute's count, `raised` where STEP-DONE is
raised. -/
def State.minuted (s : State) (q : Program) (raised : Bool) (tx : Tx) : State :=
  { s with
    program := { q with due := q.due || q.meetsDue }
    notice := if raised then s.notice.raised 0x0800 else s.notice
    tx := tx }

/-- The due test of a RUNNING step sets the mark, and raises STEP-DONE the first time where the duration is above 0. -/
theorem State.dueTest_eq {s : State} {q : Program} {st : StepRecord} (hrunning : q.state = .running)
    (hst : q.currentStep = some st) : ∃ tx, State.dueTest { s with program := q } =
      s.minuted q (q.meetsDue && !q.due && decide (0 < st.duration)) tx ∧
        ((q.meetsDue && !q.due && decide (0 < st.duration)) = false → tx = s.tx) := by
  have hstate : (q.state == .running) = true := beq_iff_eq.mpr hrunning
  have htimed : q.timed = decide (0 < st.duration) := by simp [Program.timed, hst]
  have hmark : (q.due || (q.meetsDue && !q.due)) = (q.due || q.meetsDue) := by cases q.due <;> simp
  obtain ⟨tx, hraise, htx⟩ := State.raise_stepDone { s with program := { q with due := q.due || q.meetsDue } }
    (q.meetsDue && !q.due && decide (0 < st.duration))
  refine ⟨tx, ?_, htx⟩
  simp only [State.dueTest, hstate, htimed, Bool.true_and, hmark]
  exact hraise

section
variable {s : State} {st : StepRecord} (hrunning : s.program.state = .running) (hst : s.program.currentStep = some st)
include hrunning hst

/-- The step ends where its end condition holds after the minute's count. -/
theorem State.minute_ends {c : Nat} (hc : s.program.current = some c)
    (hends : (s.program.minute s.thermal.inBand).meetsEnd = true) : StepEnded s s.minute c st := by
  obtain ⟨hsteps, hstate, hcurrent⟩ := s.program.minute_table s.thermal.inBand
  have hstep := s.program.minute_currentStep s.thermal.inBand
  generalize hq : s.program.minute s.thermal.inBand = q at hsteps hstate hcurrent hstep hends
  obtain ⟨tx, hdue, -⟩ := State.dueTest_eq (s := s) (q := q) (hstate.trans hrunning) (hstep.trans hst)
  have hended : s.minute = (s.minuted q (q.meetsDue && !q.due && decide (0 < st.duration)) tx).endStep := by
    rw [State.minute, hq, hdue]
    exact if_pos ⟨hstate.trans hrunning, hends⟩
  rw [hended]
  exact (State.endStep_stepEnded (s := s.minuted _ _ _) (hstate.trans hrunning) (hcurrent.trans hc)
    (hstep.trans hst)).of_same hsteps rfl

/-- Where it does not hold the minute leaves its counts and the due mark; a ramp that has moved is evaluated. -/
theorem State.minute_stays {q : Program} (hq : s.program.minute s.thermal.inBand = q) (hends : ¬ q.meetsEnd = true) : ∃ tx,
    s.minute = (if q.ramp.map Ramp.present = s.program.ramp.map Ramp.present then
      s.minuted q (q.meetsDue && !q.due && decide (0 < st.duration)) tx
      else (s.minuted q (q.meetsDue && !q.due && decide (0 < st.duration)) tx).thermalEval) ∧
    ((q.meetsDue && !q.due && decide (0 < st.duration)) = false → tx = s.tx) := by
  obtain ⟨-, hstate, -⟩ := s.program.minute_table s.thermal.inBand
  have hstep := s.program.minute_currentStep s.thermal.inBand
  rw [hq] at hstate hstep
  obtain ⟨tx, hdue, htx⟩ := State.dueTest_eq (s := s) (q := q) (hstate.trans hrunning) (hstep.trans hst)
  have hnot : ¬ ((s.minuted q (q.meetsDue && !q.due && decide (0 < st.duration)) tx).program.state = .running ∧
      (s.minuted q (q.meetsDue && !q.due && decide (0 < st.duration)) tx).program.meetsEnd = true) :=
    fun h => hends h.2
  refine ⟨tx, ?_, htx⟩
  rw [State.minute, hq, hdue]
  dsimp only
  rw [if_neg hnot, ite_not]

end

/-- Outside RUNNING a minute counts nothing. -/
theorem State.minute_idle {s : State} (h : s.program.state ≠ .running) : s.minute = s := by
  have hcount : s.program.minute s.thermal.inBand = s.program := if_neg fun hboth => h hboth.1
  have hdue : s.dueTest = s := by
    simp only [State.dueTest, beq_eq_false_iff_ne.mpr h, Bool.false_and, Bool.or_false]
    exact s.raise_zero
  simp only [State.minute, hcount, hdue, h, false_and, if_false, ne_eq, not_true_eq_false]

/-! ### The hour event (07 R124, R134) -/

theorem Program.finish_window (p : Program) : p.finish.window = p.window := by
  unfold Program.finish
  split <;> rfl

theorem State.hour_window (s : State) : s.hour.program.window = s.program.currentHour :: s.program.window.take 23 := by
  unfold State.hour
  dsimp only
  split_ifs
  · obtain ⟨-, -, -, hwindow⟩ := (State.endStep_openings { s with program := s.program.hour }).table
    rw [hwindow, Program.finish_window]
    rfl
  · rfl

theorem State.hour_idle {s : State} (h : s.program.state ≠ .running) : s.hour = { s with program := s.program.hour } :=
  if_neg fun hends => h hends.1

end Sys2Proof.Machine
end

section
/-! PROOFS. The rows MINUTE_EVENT and HOUR_EVENT, clause by clause (07 R122 to R127, R134). -/

namespace Sys2Proof.Machine

/-! ### The two rows -/

/-- A minute event's row: the minute at the program unit, the event no longer due. -/
theorem exec_minuteEvent {s : State} (hrun : s.power = .running) (hdue : s.timebase.minuteDue = true) :
    exec .minuteEvent s = .next (State.minute { s with timebase := { s.timebase with minuteDue := false } }) := by
  change execMinuteEvent s = _
  rw [execMinuteEvent, whileRunning_on _ _ hrun, State.minuteEvent, if_pos hdue]

theorem exec_hourEvent {s : State} (hrun : s.power = .running) (hdue : s.timebase.hourDue = true) :
    exec .hourEvent s = .next (State.hour { s with timebase := { s.timebase with hourDue := false } }) := by
  change execHourEvent s = _
  rw [execHourEvent, whileRunning_on _ _ hrun, State.hourEvent, if_pos hdue]

section
variable {s : State} {st : StepRecord} {c : Nat} (hrun : s.power = .running) (hdue : s.timebase.minuteDue = true)
  (hrunning : s.program.state = .running) (hst : s.program.currentStep = some st)
include hrun hdue hrunning hst

/-- The row of a minute at which the step ends. -/
theorem exec_minuteEvent_ends (hc : s.program.current = some c) (hends : (s.program.minute s.thermal.inBand).meetsEnd = true) :
    ∃ t, exec .minuteEvent s = .next t ∧ StepEnded s t c st :=
  ⟨_, exec_minuteEvent hrun hdue,
    State.minute_ends (s := { s with timebase := { s.timebase with minuteDue := false } }) hrunning hst hc hends⟩

/-- The row of a minute at which the step goes on. -/
theorem exec_minuteEvent_stays {q : Program} (hq : s.program.minute s.thermal.inBand = q) (hends : ¬ q.meetsEnd = true)
    {due : Bool} (hmeets : q.meetsDue = due) : ∃ tx : Tx,
    (let raised : Bool := due && !q.due && decide (0 < st.duration)
     let u : State := { s with
       timebase := { s.timebase with minuteDue := false }
       program := { q with due := q.due || due }
       notice := if raised then s.notice.raised 0x0800 else s.notice
       tx := tx }
     exec .minuteEvent s =
       .next (if q.ramp.map Ramp.present = s.program.ramp.map Ramp.present then u else u.thermalEval) ∧
     (raised = false → tx = s.tx)) := by
  obtain ⟨tx, hminute, htx⟩ :=
    State.minute_stays (s := { s with timebase := { s.timebase with minuteDue := false } }) hrunning hst hq hends
  rw [hmeets] at hminute htx
  refine ⟨tx, ?_, htx⟩
  rw [exec_minuteEvent hrun hdue, hminute, State.minuted, hmeets]

end

/-! ### A minute of a step that is no RAMP, in band -/

/-- A program whose elapsed has risen by a minute. -/
def Program.counted (p : Program) : Program := { p with elapsed := min (p.elapsed + 1) 20160 }

section
variable {p : Program} {st : StepRecord} (hrunning : p.state = .running) (hst : p.currentStep = some st) (hkind : st.kind ≠ .ramp)
include hkind

theorem Program.counted_meetsDuration : p.counted.meetsDuration st = decide (st.duration ≤ min (p.elapsed + 1) 20160) := by
  simp [Program.meetsDuration, hkind, Program.counted]

include hst in
theorem Program.counted_meetsDue : p.counted.meetsDue =
    (decide (st.duration ≤ min (p.elapsed + 1) 20160) && st.stepEnd == .order) := by
  rw [Program.meetsDue_eq (p := p.counted) hst (fun h => absurd h hkind), Program.counted_meetsDuration hkind]

include hrunning hst in
theorem Program.minute_counted : p.minute true = p.counted := by
  rw [Program.minute_eq hrunning hst (fun h => absurd h hkind)]
  simp [Program.rampMoves, hkind, Program.counted]

end

/-- A program whose ramp has moved. -/
def Program.ramped (p : Program) (r : Ramp) : Program := { p with ramp := some r }

/-! ### The clauses -/

section
variable {s : State} {st : StepRecord} {c : Nat} (hrun : s.power = .running) (hdue : s.timebase.minuteDue = true)
  (hrunning : s.program.state = .running) (hst : s.program.currentStep = some st) (hband : s.thermal.inBand = true)
include hrun hdue hrunning hst hband

/-- A step of a duration not yet met counts the minute and nothing else. -/
theorem exec_minuteEvent_goesOn (hkind : st.kind ≠ .ramp) (hshort : min (s.program.elapsed + 1) 20160 < st.duration) :
    exec .minuteEvent s = .next { s with
      timebase := { s.timebase with minuteDue := false }, program := s.program.counted } := by
  have hq : s.program.minute s.thermal.inBand = s.program.counted := by
    rw [hband]; exact Program.minute_counted hrunning hst hkind
  have hunmet : s.program.counted.meetsDuration st = false := by
    rw [Program.counted_meetsDuration hkind]; exact decide_eq_false (Nat.not_le_of_lt hshort)
  obtain ⟨hends, hnotDue⟩ :=
    Program.unmet_goesOn (p := s.program.counted) hst (fun hramp => absurd hramp hkind) hunmet
  obtain ⟨tx, hexec, htx⟩ := exec_minuteEvent_stays hrun hdue hrunning hst hq hends hnotDue
  rw [hexec, htx rfl, Bool.or_false]
  exact congrArg Host.Outcome.next (if_pos rfl)

/-- A RAMP not yet reached, and not reached by this minute, moves its present target. -/
theorem exec_minuteEvent_rampMoves {r : Ramp} (hkind : st.kind = .ramp) (hr : s.program.ramp = some r)
    (hreached : r.reached = false) (hshort : (rampMoved st r).reached = false) :
    ∃ t, exec .minuteEvent s = .next t ∧ t.keg = s.keg ∧ t.notice = s.notice ∧
      t.program = s.program.ramped (rampMoved st r) := by
  have hq : s.program.minute s.thermal.inBand = s.program.ramped (rampMoved st r) := by
    rw [Program.minute_eq hrunning hst (fun _ => by rw [hr]; rfl), hband]
    simp [Program.rampMoves, hkind, hr, hreached, Program.ramped]
  have hunmet : (s.program.ramped (rampMoved st r)).meetsDuration st = false := by
    simp [Program.meetsDuration, hkind, hshort, Program.ramped]
  obtain ⟨hends, hnotDue⟩ :=
    Program.unmet_goesOn (p := s.program.ramped (rampMoved st r)) hst (fun _ => rfl) hunmet
  obtain ⟨tx, hexec, -⟩ := exec_minuteEvent_stays hrun hdue hrunning hst hq hends hnotDue
  simp only [Bool.false_and, Bool.false_eq_true, if_false, Bool.or_false] at hexec
  refine ⟨_, hexec, ?_⟩
  split_ifs <;> simp

/-- An ORDER step that has met its duration is due; STEP-DONE is raised the first time where the duration is above 0. -/
theorem exec_minuteEvent_orderDue (hkind : st.kind ≠ .ramp) (horder : st.stepEnd = .order)
    (hmet : st.duration ≤ min (s.program.elapsed + 1) 20160) : ∃ t, exec .minuteEvent s = .next t ∧
      t = { s with
        timebase := { s.timebase with minuteDue := false }
        program := { s.program.counted with due := true }
        notice := if s.program.due = false ∧ 0 < st.duration then s.notice.raised 0x0800 else s.notice
        tx := t.tx } ∧
      (s.program.due = true ∨ st.duration = 0 → t.tx = s.tx) := by
  have hq : s.program.minute s.thermal.inBand = s.program.counted := by
    rw [hband]; exact Program.minute_counted hrunning hst hkind
  have hends : ¬ s.program.counted.meetsEnd = true := fun h => by
    obtain ⟨-, hend⟩ := (Program.meetsEnd_iff (p := s.program.counted) hst (fun hr => absurd hr hkind)).mp h
    rw [horder] at hend
    rcases hend with hend | ⟨hend, -⟩ <;> cases hend
  have hisDue : s.program.counted.meetsDue = true := by
    rw [Program.counted_meetsDue hst hkind, horder, decide_eq_true hmet]; rfl
  obtain ⟨tx, hexec, htx⟩ := exec_minuteEvent_stays hrun hdue hrunning hst hq hends hisDue
  have hraised : (true && !s.program.counted.due && decide (0 < st.duration)) = true ↔
      s.program.due = false ∧ 0 < st.duration := by
    simp [Program.counted]
  refine ⟨_, hexec.trans (congrArg _ (if_pos rfl)), ?_, fun hheld => htx (Bool.eq_false_iff.mpr fun h => ?_)⟩
  · simp only [hraised, Bool.or_true]
  · obtain ⟨hnew, hlong⟩ := hraised.mp h
    rcases hheld with hold | hzero
    · rw [hnew] at hold
      cases hold
    · omega

end

/-- An ACTIVITY step of an hour event, its window moved, ends where the newest counts are few enough. -/
theorem State.hour_activity {s : State} {st : StepRecord} {c : Nat} (hrunning : s.program.state = .running)
    (hst : s.program.currentStep = some st) (hc : s.program.current = some c) (hend : st.stepEnd = .activity)
    (hkind : st.kind ≠ .ramp) (hmet : st.duration ≤ s.program.elapsed) :
    if ((s.program.currentHour :: s.program.window.take 23).take st.hours).sum ≤ st.threshold then StepEnded s s.hour c st
    else s.hour = { s with program := s.program.hour } := by
  have hactivity : s.program.hour.isActivity = true := by
    rw [Program.isActivity, show s.program.hour.currentStep = some st from hst]
    exact beq_iff_eq.mpr hend
  have hduration : s.program.hour.meetsDuration st = true := by
    simp [Program.meetsDuration, Program.hour, hkind, hmet]
  have hends : s.program.hour.meetsEnd = true ↔
      ((s.program.currentHour :: s.program.window.take 23).take st.hours).sum ≤ st.threshold := by
    rw [Program.meetsEnd_iff (p := s.program.hour) hst (fun h => absurd h hkind), hduration, hend]
    simp [Program.hour]
  split
  · next hquiet =>
    have hhour : s.hour = State.endStep { s with program := s.program.hour } :=
      if_pos ⟨hrunning, hactivity, hends.mpr hquiet⟩
    rw [hhour]
    exact (State.endStep_stepEnded (s := { s with program := s.program.hour }) hrunning hc hst).of_same rfl rfl
  · next hbusy => exact if_neg fun h => hbusy (hends.mp h.2.2)

/-- Settles O10: a minute by what its count leaves of ramp and elapsed, an hour by the window it has moved. -/
theorem minuteAndHourEventsAtTheProgram : Obligations.MinuteAndHourEventsAtTheProgram := by
  refine ⟨fun s hrun hdue => ⟨fun hidle => ?_, fun st hrunning hst hband hkind _ hshort => ?_,
    fun st r hrunning hst hband hkind hr hreached => ?_, fun st c hrunning hst hc hband hkind htime hmet => ?_,
    fun st hrunning hst hband hkind horder hmet => ?_⟩,
    fun s st c hrun hdue hrunning hc hst hramp => ?_, fun s hrun hdue => ?_⟩
  · rw [exec_minuteEvent hrun hdue,
      State.minute_idle (s := { s with timebase := { s.timebase with minuteDue := false } }) hidle]
  · exact exec_minuteEvent_goesOn hrun hdue hrunning hst hband hkind hshort
  · intro minutes tenths present hshort
    have hunreached : (rampMoved st r).reached = false := beq_eq_false_iff_ne.mpr hshort
    obtain ⟨t, hexec, hkeg, hnotice, hprogram⟩ :=
      exec_minuteEvent_rampMoves hrun hdue hrunning hst hband hkind hr hreached hunreached
    refine ⟨t, hexec, hkeg, hnotice, hprogram.trans ?_⟩
    rw [← hunreached]
    rfl
  · refine exec_minuteEvent_ends hrun hdue hrunning hst hc ?_
    rw [hband, Program.minute_counted hrunning hst hkind,
      Program.meetsEnd_iff (p := s.program.counted) hst (fun h => absurd h hkind), Program.counted_meetsDuration hkind]
    exact ⟨decide_eq_true hmet, .inl htime⟩
  · exact exec_minuteEvent_orderDue hrun hdue hrunning hst hband hkind horder hmet
  · intro moves ramp elapsed met ends due raised
    have hq : s.program.minute s.thermal.inBand = { s.program with ramp := ramp, elapsed := elapsed } :=
      Program.minute_eq hrunning hst hramp _
    have hramped : st.kind = .ramp → ramp.isSome = true := fun hkind => by
      have hsome := hramp hkind
      simp only [ramp]
      split_ifs <;> simp [hsome]
    have hends := Program.meetsEnd_iff (p := { s.program with ramp := ramp, elapsed := elapsed }) hst hramped
    refine ⟨fun h => ?_, fun h => ?_⟩
    · refine exec_minuteEvent_ends hrun hdue hrunning hst hc ?_
      rw [hq]
      exact hends.mpr h
    · exact exec_minuteEvent_stays hrun hdue hrunning hst hq (fun hmeets => h (hends.mp hmeets))
        (Program.meetsDue_eq (p := { s.program with ramp := ramp, elapsed := elapsed }) hst hramped)
  · have hwindow := State.hour_window { s with timebase := { s.timebase with hourDue := false } }
    refine ⟨_, exec_hourEvent hrun hdue, by simp, hwindow, fun hidle => State.hour_idle hidle,
      fun st c hrunning hst hc hend hkind hmet => ?_⟩
    have hhour := State.hour_activity (s := { s with timebase := { s.timebase with hourDue := false } }) hrunning hst hc hend
      hkind hmet
    split at hhour
    · next hquiet =>
      rw [if_pos hquiet]
      exact hhour
    · next hbusy =>
      rw [if_neg hbusy, hhour]
      exact ⟨hc, rfl, rfl, rfl⟩

end Sys2Proof.Machine
end

section
/-! PROOFS. The spund staging and the gas need of one evaluation: each by where it applies and by the sample's place about its
levels (08 R143, R145 to R147). -/

namespace Sys2Proof.Machine

/-! ### The spund staging (08 R143) -/

/-- The spund point of the current step, 0 for none. -/
def Program.spundPoint (p : Program) : Nat := (p.currentStep.map StepRecord.spund).getD 0

theorem Program.offeredSpund_eq (p : Program) :
    p.offeredSpund = if (p.state = .running ∨ p.state = .paused) ∧ p.spundPoint ≠ 0 then some p.spundPoint else none := by
  rw [Program.offeredSpund, ite_and]
  refine if_congr p.underWay_iff ?_ rfl
  rw [Program.spundPoint]
  cases p.currentStep with
  | none => rfl
  | some st => by_cases hst : st.spund = 0 <;> simp [hst]

theorem spundStaging_unoffered (p : Pressure) (phase : Phase) (before : Bool) : spundStaging p phase none before = false := rfl

theorem spundStaging_unread {p : Pressure} (h : p.reading = none) (phase : Phase) (offered : Option Nat) (before : Bool) :
    spundStaging p phase offered before = false := by
  cases offered <;> simp [spundStaging, h]

theorem spundStaging_of_reading {p : Pressure} {v : Int} (h : p.reading = some v) (phase : Phase) (point : Nat) (before : Bool) :
    spundStaging p phase (some point) before =
      if phase ≠ .fermenting then false
      else if (point : Int) ≤ v then true else if v ≤ (point : Int) - 10 then false else before := by
  simp only [spundStaging, h]

/-- Spunding is in force. -/
def SpundInForce (s : State) : Prop :=
  s.keg.phase = .fermenting ∧ (s.program.state = .running ∨ s.program.state = .paused) ∧ s.program.spundPoint ≠ 0 ∧
    s.pressure.sensor = .good

/-- The spund staging an evaluation leaves. -/
def State.spundNow (s : State) : Bool := spundStaging s.pressure s.keg.phase s.program.offeredSpund s.staged.reliefValve

theorem State.spundNow_of_not_inForce {s : State} (h : ¬ SpundInForce s) : s.spundNow = false := by
  rw [State.spundNow, Program.offeredSpund_eq]
  split_ifs with hoffered
  · cases hreading : s.pressure.reading with
    | none => exact spundStaging_unread hreading _ _ _
    | some v =>
      have hgood : s.pressure.sensor = .good := by
        by_contra hbad
        simp [Pressure.reading, hbad] at hreading
      rw [spundStaging_of_reading hreading, if_pos fun hphase => h ⟨hphase, hoffered.1, hoffered.2, hgood⟩]
  · exact spundStaging_unoffered _ _ _

theorem State.spundNow_of_inForce {s : State} {v : Int} (h : SpundInForce s) (hv : s.pressure.sample = some v) :
    s.spundNow =
      if (s.program.spundPoint : Int) ≤ v then true
      else if v ≤ (s.program.spundPoint : Int) - 10 then false else s.staged.reliefValve := by
  obtain ⟨hphase, hway, hpoint, hgood⟩ := h
  have hreading : s.pressure.reading = some v := (if_pos hgood).trans hv
  rw [State.spundNow, Program.offeredSpund_eq, if_pos ⟨hway, hpoint⟩, spundStaging_of_reading hreading,
    if_neg (not_not.mpr hphase)]

/-! ### The levels of the gas need (08 R145, R146) -/

theorem Pour.inProgress_iff (p : Pour) : p.inProgress = true ↔ p.state ≠ .idle := by simp [Pour.inProgress]

theorem gasArises_iff {topUp floor : Nat} {pouring : Bool} {v : Int} :
    gasArises topUp floor pouring v = true ↔ v < (topUp : Int) - 10 ∨ (pouring = true ∧ v < (floor : Int)) := by
  simp [gasArises]

theorem gasEnds_iff {topUp floor : Nat} {pouring : Bool} {v : Int} :
    gasEnds topUp floor pouring v = true ↔ (topUp : Int) ≤ v ∧ (pouring = true → (floor : Int) ≤ v) := by
  cases pouring <;> simp [gasEnds]

/-- Where the gas need is allowed, it is present after an evaluation, `before` telling whether it was before. -/
def gasPresent (topUp floor : Nat) (pouring : Bool) (v : Int) (before : Bool) : Bool :=
  gasArises topUp floor pouring v || (before && !gasEnds topUp floor pouring v)

section
variable {topUp floor : Nat} {pouring : Bool} {v : Int} {before : Bool}

theorem gasPresent_arises (h : v < (topUp : Int) - 10 ∨ (pouring = true ∧ v < (floor : Int))) :
    gasPresent topUp floor pouring v before = true := by
  rw [gasPresent, gasArises_iff.mpr h, Bool.true_or]

/-- At or above its arising levels the need is as before, unless it ends. -/
theorem gasPresent_not_arising (htop : (topUp : Int) - 10 ≤ v) (hfloor : pouring = true → (floor : Int) ≤ v) :
    gasPresent topUp floor pouring v before = (before && !gasEnds topUp floor pouring v) := by
  have hnot : gasArises topUp floor pouring v = false := by
    rw [Bool.eq_false_iff, ne_eq, gasArises_iff]
    rintro (hlow | ⟨hpour, hlow⟩)
    · omega
    · exact absurd (hfloor hpour) (not_le.mpr hlow)
  rw [gasPresent, hnot, Bool.false_or]

theorem gasPresent_ends (htop : (topUp : Int) ≤ v) (hfloor : pouring = true → (floor : Int) ≤ v) :
    gasPresent topUp floor pouring v before = false := by
  rw [gasPresent_not_arising (by omega) hfloor, gasEnds_iff.mpr ⟨htop, hfloor⟩, Bool.not_true, Bool.and_false]

theorem gasPresent_stands (harise : (topUp : Int) - 10 ≤ v) (hfloor : pouring = true → (floor : Int) ≤ v)
    (htop : v < (topUp : Int)) : gasPresent topUp floor pouring v before = before := by
  have hnot : gasEnds topUp floor pouring v = false :=
    Bool.eq_false_iff.mpr fun hends => absurd (gasEnds_iff.mp hends).1 (not_le.mpr htop)
  rw [gasPresent_not_arising harise hfloor, hnot, Bool.not_false, Bool.and_true]

end

/-! ### The gas need (08 R146, R147) -/

section
variable {s : State} {tripped : Bool}

theorem State.gasAllowed_iff :
    s.gasAllowed tripped = true ↔
      (s.keg.phase = .conditioning ∨ s.keg.phase = .serving) ∧ s.pressure.sensor = .good ∧ tripped = false ∧
        s.pressure.leak = false ∧ s.load = .ended ∧ s.asserted .kegPresent = true ∧ s.asserted .coupled = true := by
  simp [State.gasAllowed, State.kegReady, and_assoc]

/-- The need of R146 with the amount and class of R147. -/
theorem State.gasNeedNow_of_reading {v : Int} (h : s.pressure.reading = some v) :
    s.gasNeedNow tripped =
      if s.gasAllowed tripped = true ∧
          gasPresent (topUpTarget s.cfg s.keg) (pourFloor s.cfg) s.pour.inProgress v s.pressure.gasNeed.isSome = true then
        some ⟨1, if s.pour.state = .idle then .carb else .serve⟩ else none := by
  have hclass : (if s.pour.inProgress = true then Cls.serve else .carb) = if s.pour.state = .idle then .carb else .serve := by
    simp only [Pour.inProgress_iff, ite_not]
  rw [State.gasNeedNow, h, ← hclass]
  exact if_congr Bool.and_eq_true_iff rfl rfl

theorem State.gasNeedNow_unread (h : s.pressure.reading = none) : s.gasNeedNow tripped = none := by
  simp only [State.gasNeedNow, h]

theorem State.gasNeedNow_disallowed (h : ¬ s.gasAllowed tripped = true) : s.gasNeedNow tripped = none := by
  cases hreading : s.pressure.reading with
  | none => exact State.gasNeedNow_unread hreading
  | some v => rw [State.gasNeedNow_of_reading hreading, if_neg fun hboth => h hboth.1]

theorem State.gasNeedNow_class {n : Need} (h : s.gasNeedNow tripped = some n) :
    n = ⟨1, if s.pour.state = .idle then .carb else .serve⟩ := by
  cases hreading : s.pressure.reading with
  | none => cases (State.gasNeedNow_unread hreading).symm.trans h
  | some v =>
    rw [State.gasNeedNow_of_reading hreading] at h
    exact (Option.some.inj ((Option.ite_none_right_eq_some ..).mp h).2).symm

theorem State.gasNeedNow_isSome {v : Int} (hallowed : s.gasAllowed tripped = true) (hv : s.pressure.sample = some v) :
    (s.gasNeedNow tripped).isSome =
      gasPresent (topUpTarget s.cfg s.keg) (pourFloor s.cfg) s.pour.inProgress v s.pressure.gasNeed.isSome := by
  obtain ⟨-, hgood, -⟩ := State.gasAllowed_iff.mp hallowed
  have hreading : s.pressure.reading = some v := (if_pos hgood).trans hv
  rw [State.gasNeedNow_of_reading hreading]
  cases gasPresent (topUpTarget s.cfg s.keg) (pourFloor s.cfg) s.pour.inProgress v s.pressure.gasNeed.isSome <;> simp [hallowed]

end

/-- Settles O38: the staging and the need closed and absent where they do not apply, and by the sample's place where they do. -/
theorem spundStagingAndGasNeed : Obligations.SpundStagingAndGasNeed := by
  intro s
  have hrelief : s.pressureEval.staged.reliefValve = s.spundNow := by
    rw [State.pressureEval, State.pressureEvalFrom_staged, State.spundNow]
  have hvalve : s.pressureEval.staged.gasValve = s.pressureEval.pressure.gasNeed.isSome := by
    rw [State.pressureEval, State.pressureEvalFrom_staged]
  have hneed : s.pressureEval.pressure.gasNeed = s.gasNeedNow s.pressureEval.pressure.tripped := by
    rw [s.pressureEval_pressure]
  dsimp only
  rw [hvalve, hrelief, hneed, ← State.gasAllowed_iff]
  refine ⟨State.spundNow_of_not_inForce, State.gasNeedNow_disallowed, fun n => State.gasNeedNow_class,
    fun v hv => ⟨fun hforce => ?_, fun hallowed => ?_⟩, rfl⟩
  · rw [State.spundNow_of_inForce hforce hv]
    exact ⟨fun hopen => if_pos hopen,
      fun hclose => (if_neg (not_le.mpr (hclose.trans_lt (Int.sub_lt_self _ (by decide))))).trans (if_pos hclose),
      fun habove hbelow => (if_neg (not_le.mpr hbelow)).trans (if_neg (not_le.mpr habove))⟩
  · have hisSome := State.gasNeedNow_isSome hallowed hv
    simp only [← Pour.inProgress_iff]
    refine ⟨fun harises => hisSome.trans (gasPresent_arises harises), fun ⟨htop, hfloor⟩ => ?_,
      fun hlow hfloor htop => hisSome.trans (gasPresent_stands hlow hfloor htop)⟩
    exact Option.isNone_iff_eq_none.mp (Option.isSome_eq_false_iff.mp (hisSome.trans (gasPresent_ends htop hfloor)))

end Sys2Proof.Machine
end

section
/-! PROOFS. The end of a pour, and the rows EMPTY_END, FOAM_END and SETTLING_END (09 R162 to R167; log 36). -/

namespace Sys2Proof.Machine

/-! ### The end of a pour (09 R162) -/

section
variable {s : State}

/-- A POURING pour ends: the outlet closes and the pressure controller evaluates. -/
theorem State.endPour_pouring (h : s.pour.state = .pouring) (reason : EndReason) : s.endPour reason =
    State.pressureEval { s with pour := s.pour.ended reason, staged := s.staged.stageOutlet none } := if_pos h

theorem State.endPour_other (h : s.pour.state ≠ .pouring) (reason : EndReason) : s.endPour reason = s := if_neg h

/-- What a POURING pour leaves as it ends: SETTLING with the reason recorded, and both outlets staged closed. -/
theorem State.endPour_settles (h : s.pour.state = .pouring) (reason : EndReason) :
    (s.endPour reason).pour = s.pour.ended reason ∧ (s.endPour reason).staged.frontValve = false ∧
      (s.endPour reason).staged.fillValve = false := by
  rw [State.endPour_pouring h]
  simp [State.pressureEval, State.pressureEvalFrom_staged, Outputs.stageOutlet]

/-- The end of a pour leaves its counts and its volume. -/
theorem State.endPour_counts (s : State) (reason : EndReason) : (s.endPour reason).pour.remainder = s.pour.remainder ∧
    (s.endPour reason).pour.pulses = s.pour.pulses ∧
    (s.endPour reason).pour.record.map OpenPour.volume = s.pour.record.map OpenPour.volume := by
  by_cases h : s.pour.state = .pouring
  · obtain ⟨hended, -⟩ := State.endPour_settles h reason
    rw [hended]
    simp [Pour.ended, Function.comp_def]
  · rw [State.endPour_other h]
    exact ⟨rfl, rfl, rfl⟩

/-- Pour and outlet staging apart, the end of a pour is an evaluation. -/
theorem State.endPour_evaluationsOnly (s : State) (reason : EndReason) :
    EvaluationsOnly { s with pour := (s.endPour reason).pour, staged := (s.endPour reason).staged } (s.endPour reason) := by
  by_cases h : s.pour.state = .pouring
  · have hevaluated := State.pressureEval_evaluationsOnly
      { s with pour := s.pour.ended reason, staged := s.staged.stageOutlet none }
    rw [← State.endPour_pouring h] at hevaluated
    simp only [EvaluationsOnly] at hevaluated ⊢
    simp [hevaluated]
  · rw [State.endPour_other h]
    simp [EvaluationsOnly]

theorem Pour.ended_of_record {p : Pour} {r : OpenPour} (h : p.record = some r) (reason : EndReason) : p.ended reason =
    { p with state := .settling, settle := 0, record := some { r with reason := some reason } } := by
  simp [Pour.ended, h]

/-- Once SETTLING, both outlets are driven closed. -/
theorem State.driven_settling (h : s.pour.state = .settling) : s.driven.frontValve = false ∧ s.driven.fillValve = false :=
  s.driven_outlets_closed (by simp [h])

/-! ### A keg run dry (09 R163) -/

/-- A SPENT keg is neither held at a temperature nor topped up (06 R104, 08 R146). -/
theorem State.evaluated_spent (h : s.keg.phase = .spent) :
    s.thermalEval.pressureEval.thermal.regime = .off ∧ s.thermalEval.pressureEval.pressure.gasNeed = none := by
  have hregime : s.thermalEval.pressureEval.thermal = s.thermal.evaluate s.mode.mode s.keg s.program s.cfg := by
    simp [State.thermalEval_thermal]
  have hkeg : s.thermalEval.keg = s.keg := by simp
  rw [hregime, Thermal.evaluate_regime, regimeOf_eq, State.pressureEval_pressure]
  refine ⟨by simp [h], State.gasNeedNow_disallowed fun hallowed => ?_⟩
  obtain ⟨hphase, -⟩ := State.gasAllowed_iff.mp hallowed
  rw [hkeg, h] at hphase
  rcases hphase with hphase | hphase <;> cases hphase

/-! ### The settled pour and its log (09 R166, R167) -/

theorem Pour.settled_of_record {p : Pour} {r : OpenPour} {reason : EndReason} (h : p.record = some r)
    (hreason : r.reason = some reason) (remaining : Nat) : p.settled remaining = { p with
      state := .idle, record := none, remainder := 0
      log := ⟨r.outlet, r.kind, r.volume, reason, remaining⟩ :: p.log.take 7 } := by
  simp [Pour.settled, Pour.logged, h, OpenPour.entry, hreason, pushLog]

end

/-! ### The rows -/

section
variable {s : State} (hrun : s.power = .running)
include hrun

theorem exec_emptyEnd (hpouring : s.pour.state = .pouring) (hdry : s.pour.dry = 3) : exec .emptyEnd s =
    .next (State.pressureEval (State.thermalEval { (s.endPour .empty).raise Flag.kegEmpty.mask with
      keg := { (s.endPour .empty).keg with phase := .spent } })) := by
  change whileRunning s State.emptyDue = _
  rw [whileRunning_on _ _ hrun, State.emptyDue, if_pos ⟨hpouring, hdry⟩]
  rfl

theorem exec_foamEnd (hpouring : s.pour.state = .pouring) (hfoam : s.pour.foam = 2) :
    exec .foamEnd s = .next (s.endPour .foam) := by
  change whileRunning s State.foamDue = _
  rw [whileRunning_on _ _ hrun, State.foamDue, if_pos ⟨hpouring, hfoam⟩]

theorem exec_settlingEnd (hsettling : s.pour.state = .settling) (hsettle : s.pour.settle = 2) :
    exec .settlingEnd s = .next (State.pressureEval { s with pour := s.pour.settled s.keg.remaining }) := by
  change whileRunning s State.settleDue = _
  rw [whileRunning_on _ _ hrun, State.settleDue, if_pos ⟨hsettling, hsettle⟩]

end

/-- Settles O35: the two ends by their thresholds, the keg run dry evaluated SPENT, and the settled pour logged. -/
theorem pourThresholdsEndAndLog : Obligations.PourThresholdsEndAndLog := by
  refine fun s r hrun hrecord => ⟨fun hpouring hdry => ?_, fun hpouring hfoam => ?_, fun reason hsettling hsettle hreason => ?_⟩
  · obtain ⟨hended, -⟩ := State.endPour_settles hpouring .empty
    rw [Pour.ended_of_record hrecord] at hended
    rw [exec_emptyEnd hrun hpouring hdry]
    generalize hw : ({ (s.endPour .empty).raise Flag.kegEmpty.mask with
      keg := { (s.endPour .empty).keg with phase := .spent } } : State) = w
    have hpour : w.thermalEval.pressureEval.pour = (s.endPour .empty).pour := by simp [← hw]
    have hkeg : w.keg = { s.keg with phase := .spent } := by simp [← hw]
    have hflag : w.notice.flags.getLsbD 4 = true := by
      have hmask : Flag.kegEmpty.mask.getLsbD 4 = true := by decide
      simp [← hw, Notice.raised_flags, hmask]
    obtain ⟨hregime, hneed⟩ := State.evaluated_spent (s := w) (by rw [hkeg])
    rw [hended] at hpour
    exact ⟨_, rfl, by simpa using hkeg, State.pressureEval_flags _ 4 (by simpa using hflag), hpour, hregime, hneed,
      State.driven_settling (by rw [hpour])⟩
  · obtain ⟨hended, hclosed⟩ := State.endPour_settles hpouring .foam
    exact ⟨_, exec_foamEnd hrun hpouring hfoam, s.endPour_evaluationsOnly .foam,
      hended.trans (Pour.ended_of_record hrecord .foam), hclosed⟩
  · have hpour : (State.pressureEval { s with pour := s.pour.settled s.keg.remaining }).pour =
        s.pour.settled s.keg.remaining := by simp
    refine ⟨_, exec_settlingEnd hrun hsettling hsettle, ?_, hpour.trans (Pour.settled_of_record hrecord hreason _)⟩
    rw [hpour]
    exact State.pressureEval_evaluationsOnly _

end Sys2Proof.Machine
end

section
/-! PROOFS. METER_PULSE: the pulse counted, one millilitre metered, the low mark, and the pour's end by its volume (09 R160 to
R162). -/

namespace Sys2Proof.Machine

/-! ### The keg record and the low mark (09 R160, R161) -/

section
variable {k : Keg}

theorem Keg.meter_dispensed (h : k.dispensed < k.fill) : k.meter = { k with dispensed := k.dispensed + 1 } := if_pos h

theorem Keg.meter_unaccounted (h : k.fill ≤ k.dispensed) :
    k.meter = { k with unaccounted := min (k.unaccounted + 1) 65535 } := if_neg (not_lt.mpr h)

/-- Metering leaves the fill volume and the low mark passed. -/
theorem Keg.meter_fields (k : Keg) : k.meter.fill = k.fill ∧ k.meter.lowPassed = k.lowPassed := by
  unfold Keg.meter
  split_ifs <;> exact ⟨rfl, rfl⟩

/-- The millilitre raises the dispensed volume and leaves less than the low mark for the first time. -/
theorem Keg.goesLow_iff (percent : Nat) : k.goesLow k.meter percent = true ↔
    k.dispensed < k.fill ∧ k.fill - (k.dispensed + 1) < k.fill * percent / 100 ∧ k.lowPassed = false := by
  by_cases h : k.dispensed < k.fill
  · simp only [Keg.meter_dispensed h, Keg.goesLow, Keg.remaining, lowMarkOf, Bool.and_eq_true, Bool.not_eq_true',
      decide_eq_true_eq, and_assoc]
    exact and_congr_right fun _ => and_comm
  · simp [Keg.goesLow, h]

end

/-! ### One millilitre (09 R160 to R162) -/

/-- The millilitre of this pulse brings the keg below the low mark. -/
def State.goesLow (s : State) : Bool := s.keg.goesLow s.keg.meter s.cfg.lowMark

/-- One millilitre in the pour and the keg record with the low mark, before the pour's volume is tested. -/
def State.metered (s : State) : State :=
  State.raise { s with
    pour := s.pour.meter
    keg := { s.keg.meter with lowPassed := s.keg.meter.lowPassed || s.goesLow } } (flagIf s.goesLow .kegLow)

section
variable {s : State}

theorem State.meterOne_eq (s : State) : s.meterOne = match s.metered.pour.record.bind OpenPour.volumeEnd with
    | some reason => s.metered.endPour reason
    | none => s.metered := rfl

section
variable {r : OpenPour} (hrecord : s.pour.record = some r)
include hrecord

theorem State.metered_record : s.metered.pour.record = some { r with volume := r.volume + 1 } := by
  simp [State.metered, Pour.meter, hrecord]

/-- The pour ends where its volume has reached the portion or the limit. -/
theorem State.meterOne_ends {reason : EndReason} (hend : OpenPour.volumeEnd { r with volume := r.volume + 1 } = some reason) :
    s.meterOne = s.metered.endPour reason := by
  rw [State.meterOne_eq, State.metered_record hrecord, Option.bind_some, hend]

theorem State.meterOne_goesOn (hend : OpenPour.volumeEnd { r with volume := r.volume + 1 } = none) : s.meterOne = s.metered := by
  rw [State.meterOne_eq, State.metered_record hrecord, Option.bind_some, hend]

end

/-- A millilitre either leaves the pour as it goes or ends it. -/
theorem State.meterOne_cases (s : State) : s.meterOne = s.metered ∨ ∃ reason, s.meterOne = s.metered.endPour reason := by
  rw [State.meterOne_eq]
  split
  · exact .inr ⟨_, rfl⟩
  · exact .inl rfl

/-- In SETTLING the volume ends nothing. -/
theorem State.meterOne_settling (h : s.pour.state ≠ .pouring) : s.meterOne = s.metered := by
  rcases s.meterOne_cases with hone | ⟨reason, hone⟩
  · exact hone
  · rw [hone, State.endPour_other (s := s.metered) h]

theorem OpenPour.volumeEnd_portion {r : OpenPour} (h : r.portion = some r.volume) : r.volumeEnd = some .portionMet := if_pos h

theorem OpenPour.volumeEnd_limit {r : OpenPour} (hportion : r.portion ≠ some r.volume) (h : r.volume = 2000) :
    r.volumeEnd = some .limit := (if_neg hportion).trans (if_pos h)

theorem OpenPour.volumeEnd_none {r : OpenPour} (hportion : r.portion ≠ some r.volume) (h : r.volume ≠ 2000) :
    r.volumeEnd = none := (if_neg hportion).trans (if_neg h)

/-! ### What the millilitre leaves -/

/-- Whether the pour ends or not, its counts stand and its volume has risen by one. -/
theorem State.meterOne_counts (s : State) : s.meterOne.pour.remainder = s.pour.remainder ∧
    s.meterOne.pour.pulses = s.pour.pulses ∧
    s.meterOne.pour.record.map OpenPour.volume = s.pour.record.map (fun r => r.volume + 1) := by
  have hvolume : s.metered.pour.record.map OpenPour.volume = s.pour.record.map (fun r => r.volume + 1) := by
    simp [State.metered, Pour.meter, Function.comp_def]
  rcases s.meterOne_cases with hone | ⟨reason, hone⟩
  · rw [hone]
    exact ⟨rfl, rfl, hvolume⟩
  · obtain ⟨hremainder, hpulses, hended⟩ := s.metered.endPour_counts reason
    rw [hone]
    exact ⟨hremainder, hpulses, hended.trans hvolume⟩

/-- One millilitre metered and the low mark passed; a pour that ends on it leaves the keg record. -/
theorem State.meterOne_keg (s : State) :
    s.meterOne.keg = { s.keg.meter with lowPassed := s.keg.meter.lowPassed || s.goesLow } := by
  rcases s.meterOne_cases with hone | ⟨reason, hone⟩
  · rw [hone]
    rfl
  · have hended : (s.metered.endPour reason).keg = s.metered.keg := by simp
    rw [hone, hended]
    rfl

theorem State.meterOne_evaluationsOnly (s : State) :
    EvaluationsOnly { s with pour := s.meterOne.pour, keg := s.meterOne.keg, staged := s.meterOne.staged } s.meterOne := by
  rcases s.meterOne_cases with hone | ⟨reason, hone⟩
  · rw [hone]
    simp [EvaluationsOnly, State.metered]
  · rw [hone]
    have hended := s.metered.endPour_evaluationsOnly reason
    simpa [EvaluationsOnly, State.metered] using hended

/-- Under the relief law an evaluation raises nothing: a reading at the limit has tripped already (08 R141). -/
theorem State.pressureEval_notice_relieved (h : reliefLaw s = true) : s.pressureEval.notice = s.notice := by
  obtain ⟨-, hnotice⟩ := s.pressureEval_safety rfl
  rw [hnotice, if_neg]
  rintro ⟨hjudged, htripped⟩
  cases hreading : s.pressure.reading with
  | none => simp [Pressure.judged, hreading, htripped] at hjudged
  | some v =>
    have hbelow : v < s.cfg.safetyLimit := by simpa [reliefLaw, hreading, htripped] using h
    simp [Pressure.judged, hreading, htripped, not_le.mpr hbelow] at hjudged

/-- The end of a pour raises no flag but OVER-PRESSURE, and that only where the relief law fails. -/
theorem State.endPour_notice (s : State) (reason : EndReason) :
    ((s.endPour reason).notice.flags.getLsbD 8 = s.notice.flags.getLsbD 8 ∧
      (s.endPour reason).notice.seen.getLsbD 8 = s.notice.seen.getLsbD 8) ∧
    (reliefLaw s = true → (s.endPour reason).notice = s.notice) := by
  by_cases h : s.pour.state = .pouring
  · rw [State.endPour_pouring h]
    exact ⟨State.pressureEval_flag _ (by decide), fun hrelief => State.pressureEval_notice_relieved hrelief⟩
  · rw [State.endPour_other h]
    exact ⟨⟨rfl, rfl⟩, fun _ => rfl⟩

/-- The millilitre raises KEG-LOW where it brings the keg low, and beside it at most OVER-PRESSURE. -/
theorem State.meterOne_notice (s : State) :
    (s.meterOne.notice.flags.getLsbD 8 = s.metered.notice.flags.getLsbD 8 ∧
      s.meterOne.notice.seen.getLsbD 8 = s.metered.notice.seen.getLsbD 8) ∧
    (reliefLaw s = true → s.meterOne.notice = s.metered.notice) := by
  rcases s.meterOne_cases with hone | ⟨reason, hone⟩
  · rw [hone]
    exact ⟨⟨rfl, rfl⟩, fun _ => rfl⟩
  · rw [hone]
    exact s.metered.endPour_notice reason

end

theorem State.metered_notice (s : State) :
    s.metered.notice = if s.goesLow then s.notice.raised 0x0100 else s.notice := by
  change s.notice.raised (flagIf s.goesLow .kegLow) = _
  cases s.goesLow with
  | false => exact s.notice.raised_zero
  | true => rfl

/-- The millilitre is dispensed below the fill volume and unaccounted at it (09 R160). -/
theorem State.meterOne_volumes (s : State) : s.meterOne.keg.fill = s.keg.fill ∧
    (s.keg.dispensed < s.keg.fill →
      s.meterOne.keg.dispensed = s.keg.dispensed + 1 ∧ s.meterOne.keg.unaccounted = s.keg.unaccounted) ∧
    (s.keg.fill ≤ s.keg.dispensed →
      s.meterOne.keg.dispensed = s.keg.dispensed ∧ s.meterOne.keg.unaccounted = min (s.keg.unaccounted + 1) 65535) := by
  rw [s.meterOne_keg]
  refine ⟨s.keg.meter_fields.1, fun h => ?_, fun h => ?_⟩
  · rw [Keg.meter_dispensed h]
    exact ⟨rfl, rfl⟩
  · rw [Keg.meter_unaccounted h]
    exact ⟨rfl, rfl⟩

/-- The low mark and KEG-LOW move where the millilitre brings the keg low, and only there (09 R161). -/
theorem State.meterOne_low (s : State) :
    (s.goesLow = true → s.meterOne.keg.lowPassed = true ∧ s.meterOne.notice.flags.getLsbD 8 = true ∧
      s.meterOne.notice.seen.getLsbD 8 = false) ∧
    (s.goesLow = false → s.meterOne.keg.lowPassed = s.keg.lowPassed ∧
      s.meterOne.notice.flags.getLsbD 8 = s.notice.flags.getLsbD 8 ∧
      s.meterOne.notice.seen.getLsbD 8 = s.notice.seen.getLsbD 8) ∧
    (reliefLaw s = true → s.meterOne.notice = if s.goesLow then s.notice.raised 0x0100 else s.notice) := by
  obtain ⟨⟨hflag, hseen⟩, hrelieved⟩ := s.meterOne_notice
  obtain ⟨-, hpassed⟩ := s.keg.meter_fields
  have hmark : s.meterOne.keg.lowPassed = (s.keg.lowPassed || s.goesLow) := by
    rw [s.meterOne_keg, hpassed]
  rw [hflag, hseen, hmark]
  rw [s.metered_notice] at hrelieved ⊢
  refine ⟨fun h => ?_, fun h => ?_, hrelieved⟩
  · rw [if_pos h, h, Notice.raised_flags, Notice.raised_seen]
    simp
  · rw [if_neg (by simp [h]), h]
    simp

/-- A pour whose volume has reached its end is SETTLING with that reason. -/
theorem State.meterOne_ended {s : State} {r : OpenPour} {reason : EndReason} (hrecord : s.pour.record = some r)
    (h : s.pour.state = .pouring) (hend : OpenPour.volumeEnd { r with volume := r.volume + 1 } = some reason) :
    s.meterOne.pour.state = .settling ∧ s.meterOne.pour.record.bind OpenPour.reason = some reason := by
  obtain ⟨hended, -⟩ := State.endPour_settles (s := s.metered) h reason
  rw [State.meterOne_ends hrecord hend, hended, Pour.ended_of_record (State.metered_record hrecord)]
  exact ⟨rfl, rfl⟩

/-! ### The pulse (09 R160) -/

/-- A pulse counted, with the remainder it leaves. -/
def State.pulsed (s : State) (remainder : Nat) : State :=
  { s with pour := { s.pour with pulses := s.pour.pulses + 1, remainder := remainder } }

section
variable {s : State} (hrun : s.power = .running)
include hrun

theorem exec_meterPulse_idle (h : s.pour.state = .idle) : exec .meterPulse s = .next s := by
  change whileRunning s State.pulse = _
  rw [whileRunning_on _ _ hrun, State.pulse, if_neg fun hp => (Pour.inProgress_iff _).mp hp h]

theorem exec_meterPulse (h : s.pour.state ≠ .idle) : exec .meterPulse s =
    .next (State.meterMany ((s.pour.remainder + 1000) / s.cfg.flowK) (s.pulsed ((s.pour.remainder + 1000) % s.cfg.flowK))) := by
  change whileRunning s State.pulse = _
  rw [whileRunning_on _ _ hrun, State.pulse, if_pos ((Pour.inProgress_iff _).mpr h)]
  rfl

/-- A sum below k meters nothing. -/
theorem exec_meterPulse_counted (h : s.pour.state ≠ .idle) (hbelow : s.pour.remainder + 1000 < s.cfg.flowK) :
    exec .meterPulse s = .next (s.pulsed (s.pour.remainder + 1000)) := by
  rw [exec_meterPulse hrun h, Nat.div_eq_of_lt hbelow, Nat.mod_eq_of_lt hbelow]
  rfl

/-- A sum of k and less than twice k meters one millilitre. -/
theorem exec_meterPulse_metered (h : s.pour.state ≠ .idle) (hk : s.cfg.flowK ≤ s.pour.remainder + 1000)
    (hbelow : s.pour.remainder + 1000 < 2 * s.cfg.flowK) :
    exec .meterPulse s = .next (s.pulsed (s.pour.remainder + 1000 - s.cfg.flowK)).meterOne := by
  have hone : (s.pour.remainder + 1000) / s.cfg.flowK = 1 := Nat.div_eq_of_lt_le (by omega) (by omega)
  have hrest : (s.pour.remainder + 1000) % s.cfg.flowK = s.pour.remainder + 1000 - s.cfg.flowK := by
    rw [Nat.mod_eq_sub_mod hk, Nat.mod_eq_of_lt (by omega)]
  rw [exec_meterPulse hrun h, hone, hrest]
  rfl

end

/-- Settles O14: the pulse by what the remainder has reached, and the one millilitre by its keg, its notice and its pour. -/
theorem meterPulseMetersMillilitres : Obligations.MeterPulseMetersMillilitres := by
  refine fun s hrun => ⟨exec_meterPulse_idle hrun, exec_meterPulse_counted hrun, fun r hprogress hrecord hk hbelow =>
    ⟨_, exec_meterPulse_metered hrun hprogress hk hbelow, ?_⟩⟩
  generalize s.pour.remainder + 1000 - s.cfg.flowK = rest
  have hopen : (s.pulsed rest).pour.record = some r := hrecord
  have hlow : (s.pulsed rest).goesLow = true ↔ _ := s.keg.goesLow_iff s.cfg.lowMark
  obtain ⟨hremainder, hpulses, hvolume⟩ := (s.pulsed rest).meterOne_counts
  obtain ⟨hfill, hdispensed, hunaccounted⟩ := (s.pulsed rest).meterOne_volumes
  obtain ⟨hraised, hkept, hrelieved⟩ := (s.pulsed rest).meterOne_low
  refine ⟨hremainder, hpulses, hvolume.trans (by rw [hopen]; rfl), hfill,
    ⟨fun h => hraised (hlow.mpr h), fun h => hkept (Bool.eq_false_iff.mpr (mt hlow.mp h)),
      fun h => (hrelieved h).trans (if_congr hlow rfl rfl)⟩,
    (s.pulsed rest).meterOne_evaluationsOnly, hdispensed, hunaccounted, fun h => ?_, fun h hportion => ?_,
    fun h hportion hlimit => State.meterOne_ended hopen h (OpenPour.volumeEnd_limit hportion hlimit),
    fun h hportion hlimit => ?_⟩
  · rw [State.meterOne_settling (by simp [State.pulsed, h])]
    exact ⟨h, rfl⟩
  · obtain ⟨hstate, hreason⟩ := State.meterOne_ended hopen h (OpenPour.volumeEnd_portion hportion)
    exact ⟨hstate, hreason, State.driven_settling hstate⟩
  · rw [State.meterOne_goesOn hopen (OpenPour.volumeEnd_none hportion hlimit)]
    exact ⟨h, rfl⟩

end Sys2Proof.Machine
end

section
/-! PROOFS. The keg record's law through every step (09 R149, R150): the volumes are written by a COLD start, by metering and by
SET-FILL alone. -/

namespace Sys2Proof.Machine

/-! ### The volumes -/

/-- Fill, dispensed and unaccounted volume stand. -/
def SameVolumes (k l : Keg) : Prop := l.fill = k.fill ∧ l.dispensed = k.dispensed ∧ l.unaccounted = k.unaccounted

theorem kegLaw_congr {k l : Keg} (h : SameVolumes k l) : kegLaw l = kegLaw k := by
  obtain ⟨hfill, hdispensed, hunaccounted⟩ := h
  rw [Bool.eq_iff_iff, kegLaw_iff, kegLaw_iff, hfill, hdispensed, hunaccounted]

/-- A millilitre is dispensed only below the fill volume, and otherwise unaccounted up to the end of its range (09 R160). -/
theorem kegLaw_meter {k : Keg} (h : kegLaw k = true) : kegLaw k.meter = true := by
  rw [kegLaw_iff] at h ⊢
  obtain ⟨hdispensed, hfill, hunaccounted⟩ := h
  unfold Keg.meter
  split_ifs with hleft
  · exact ⟨hleft, hfill, hunaccounted⟩
  · exact ⟨hdispensed, hfill, Nat.min_le_right _ _⟩

/-- A SET-FILL gives the fill volume, nothing of it dispensed (09 R151). -/
theorem kegLaw_filled (k : Keg) {volume : Nat} (h : volume ≤ 20000) (phase : Phase) : kegLaw (k.filled volume phase) = true :=
  (kegLaw_iff _).mpr ⟨Nat.zero_le _, h, Nat.zero_le _⟩

theorem Keg.enter_volumes (k : Keg) (st : Option StepRecord) (fromStart : Bool) : SameVolumes k (k.enter st fromStart) := by
  unfold Keg.enter
  split
  · split_ifs <;> exact ⟨rfl, rfl, rfl⟩
  · exact ⟨rfl, rfl, rfl⟩

theorem Keg.finish_volumes (k : Keg) (p : Program) : SameVolumes k (k.finish p) := by
  unfold Keg.finish
  split
  · exact k.enter_volumes _ _
  · exact ⟨rfl, rfl, rfl⟩

/-! ### What a SET-FILL leaves in the record -/

/-- A SET-FILL leaves the keg record or fills it within its range. -/
theorem State.setFill_keg (s : State) (args : List Byte) : (State.setFill args s).state.keg = s.keg ∨
    ∃ volume ≤ 20000, ∃ phase, (State.setFill args s).state.keg = s.keg.filled volume phase := by
  unfold State.setFill
  split_ifs
  · exact .inl rfl
  · split
    · split
      · next v1 v0 _ _ phase _ =>
        split
        · exact .inl rfl
        · next hrange =>
          refine .inr ⟨natOf16 v1 v0, not_lt.mp hrange, phase, ?_⟩
          dsimp only
          rw [State.done_state]
          split_ifs <;> simp
      · exact .inl rfl
    · exact .inl rfl

/-! ### The law through the operations that write the keg record -/

/-- The keg record's law at a station. -/
abbrev KegLaw (s : State) : Prop := kegLaw s.keg = true

section
variable {s : State} (h : KegLaw s)
include h

theorem KegLaw.same {t : State} (hvolumes : SameVolumes s.keg t.keg) : KegLaw t := (kegLaw_congr hvolumes).trans h

/-- An operation that leaves the keg record. -/
theorem KegLaw.aside {t : State} (hkeg : t.keg = s.keg) : KegLaw t := (congrArg kegLaw hkeg).trans h

theorem KegLaw.endStep : KegLaw s.endStep := h.same (s.endStep_keg ▸ s.keg.finish_volumes s.program)

theorem KegLaw.minute : KegLaw s.minute := by
  have hdue : KegLaw (State.dueTest { s with program := s.program.minute s.thermal.inBand }) := h.aside rfl
  unfold State.minute
  dsimp only
  split_ifs
  · exact hdue.endStep
  · exact hdue.aside (by simp)
  · exact hdue

theorem KegLaw.hour : KegLaw s.hour := by
  have hmoved : KegLaw { s with program := s.program.hour } := h
  unfold State.hour
  dsimp only
  split_ifs
  · exact hmoved.endStep
  · exact hmoved

theorem KegLaw.minuteEvent : KegLaw s.minuteEvent := by
  unfold State.minuteEvent
  split_ifs
  · exact KegLaw.minute (s := { s with timebase := _ }) h
  · exact h

theorem KegLaw.hourEvent : KegLaw s.hourEvent := by
  unfold State.hourEvent
  split_ifs
  · exact KegLaw.hour (s := { s with timebase := _ }) h
  · exact h

theorem KegLaw.meterOne : KegLaw s.meterOne := by
  rw [KegLaw, s.meterOne_keg]
  exact (kegLaw_congr ⟨rfl, rfl, rfl⟩).trans (kegLaw_meter h)

theorem KegLaw.meterMany (n : Nat) : KegLaw (State.meterMany n s) := by
  induction n generalizing s with
  | zero => exact h
  | succ n ih => exact ih h.meterOne

theorem KegLaw.pulse : KegLaw s.pulse := by
  unfold State.pulse
  split_ifs
  · refine KegLaw.meterMany ?_ _
    exact h
  · exact h

theorem KegLaw.emptyDue : KegLaw s.emptyDue := by
  unfold State.emptyDue
  split_ifs
  · exact h.same (by simp [SameVolumes])
  · exact h

/-- A request that is checked writes at most the refusal reason (09 R157). -/
theorem KegLaw.checkPour (q : PourRequest) : KegLaw (s.checkPour q) := by
  unfold State.checkPour
  split
  · exact h.same ⟨rfl, rfl, rfl⟩
  · exact h.aside (by simp)

theorem KegLaw.refusePour (r : PourRefusal) : KegLaw (s.refusePour r) := h.same ⟨rfl, rfl, rfl⟩

theorem KegLaw.arbitrate (l : List PourRequest) : KegLaw (s.arbitrate l) := by
  have hdrawn : KegLaw { s with draws := s.draws + 1 } := h
  unfold State.arbitrate
  split
  · exact h
  · split_ifs
    · exact h.refusePour _
    · exact h.checkPour _
    · exact (hdrawn.refusePour _).checkPour _
    · exact (hdrawn.checkPour _).refusePour _

/-- Of the thresholds left over those of program and pour alone write the keg record (log 5). -/
theorem KegLaw.second (probe pressure : Int) : KegLaw (s.second probe pressure) :=
  KegLaw.aside (KegLaw.emptyDue (KegLaw.aside h.minuteEvent.hourEvent (by simp)) :
    KegLaw s.minuteEvent.hourEvent.driftDue.emptyDue) (by simp [State.second, State.takeDue])

/-! ### The orders that write it (07 R120, R127, 09 R151, R152) -/

theorem KegLaw.setFill (args : List Byte) : KegLaw (State.setFill args s).state := by
  rcases s.setFill_keg args with hkept | ⟨volume, hrange, phase, hfilled⟩
  · exact h.aside hkept
  · exact (congrArg kegLaw hfilled).trans (kegLaw_filled _ hrange _)

theorem KegLaw.setServe (args : List Byte) : KegLaw (State.setServe args s).state := by
  unfold State.setServe
  split
  · split_ifs
    · exact h.same (by simp [SameVolumes])
    · exact h
  · exact h

theorem KegLaw.startProgram (args : List Byte) : KegLaw (State.startProgram args s).state := by
  unfold State.startProgram
  split_ifs
  · exact h.same (by simpa using s.keg.enter_volumes _ _)
  · exact h

theorem KegLaw.advanceStep (args : List Byte) : KegLaw (State.advanceStep args s).state := by
  unfold State.advanceStep
  split_ifs
  · exact h.endStep
  · exact h

end

/-! ### The rows -/

section
variable {s t : State} (h : KegLaw s)
include h

theorem KegLaw.frameRow {ok : FrameClass → Bool} {f : RxEntry → State → State} (hf : ∀ e u, KegLaw u → KegLaw (f e u))
    (he : whileRunning s (fun s => takeFrame s ok f) = .next t) : KegLaw t :=
  frameRow_keeps h (fun _ => h) hf he

theorem KegLaw.orderRow {o : OrderCode} {p : List Byte → State → Reply} (hp : ∀ a u, KegLaw u → KegLaw (p a u).state)
    (he : orderRow o p s = .next t) : KegLaw t :=
  orderRow_keeps h (fun _ => h) (fun _ hu => hu) (fun _ _ _ _ _ hu => hu) hp he

theorem KegLaw.row {c : Instr} (he : exec c s = .next t) : KegLaw t := by
  cases c with
  | coldStart strap => cases he; rfl
  | dipStart strap => cases he; exact h
  | supplyFall => cases he; exact h
  | orderedStart strap =>
    cases he
    split_ifs <;> exact h
  | pinChange input high => cases he; exact h
  | secondEvent probe pressure =>
    simp only [exec, execSecondEvent] at he
    refine whileRunning_keeps h ?_ he
    split_ifs
    · exact h
    · exact h.second _ _
  | minuteEvent => exact whileRunning_keeps h h.minuteEvent he
  | hourEvent => exact whileRunning_keeps h h.hourEvent he
  | meterPulse => exact whileRunning_keeps h h.pulse he
  | emptyEnd => exact whileRunning_keeps h h.emptyDue he
  | inputSettled inputs =>
    simp only [exec, execInputSettled] at he
    refine whileRunning_keeps h ?_ he
    exact KegLaw.arbitrate (h.aside (by simp)) _
  | driftLimit | foamEnd | settlingEnd | answerWaitExpiry | restEnd | announceTimer | rosterEntryRemoved _ | renewPoint _ | lapse _
  | expiryPoint _ | starveLimit _ => exact whileRunning_keeps h (h.aside (by simp)) he
  | configLoad | configLoadEnd _ | lineIdle | breakSeen | frameEnd _ _ | frameBroken _ _ _ =>
    refine whileRunning_keeps h (h.aside ?_) he
    split_ifs <;> simp
  | stub | slotBegin _ | quietWindow | lostArbitration _ | sendFault _ | frameComplete =>
    simp only [exec, execStub, execSlotBegin, execQuietWindow, execLostArbitration, execSendFault, execFrameComplete] at he
    refine whileRunning_keeps h (h.aside ?_) he
    repeat' split
    all_goals simp
  | frameRejected | frameNoBlock | claim | renew | yield | yieldAll | expire | syncAsk | syncTable | announce =>
    exact h.frameRow (fun _ _ hu => hu.aside (by simp)) he
  | readStatus | readKeg | readStep | readPourLog | readNotices | clearNotices | setNoticeEnable | raiseNotice | restartBay
  | loadStep | clearProgram | pauseProgram | resumeProgram | stopPour =>
    exact h.orderRow (fun _ _ hu => hu.aside (by simp)) he
  | setFill => exact h.orderRow (fun a _ hu => hu.setFill a) he
  | setServe => exact h.orderRow (fun a _ hu => hu.setServe a) he
  | startProgram => exact h.orderRow (fun a _ hu => hu.startProgram a) he
  | advanceStep => exact h.orderRow (fun a _ hu => hu.advanceStep a) he
  | pourPortion settled =>
    refine h.frameRow (fun e u hu => ?_) he
    exact State.pourPortionRow_keeps _ _ _ (KegLaw.arbitrate (hu.aside (by simp))) (fun _ hv => hv) (fun _ _ _ _ hv => hv)
  | unknownOrder =>
    refine h.frameRow (fun _ _ hu => ?_) he
    split_ifs <;> exact hu

end

/-- Settles O52: the tick and the queue leave the keg record, and each row keeps its law. -/
theorem everyStepKeepsTheKegLaw : Obligations.EveryStepKeepsTheKegLaw := by
  refine step_keeps (P := KegLaw) (fun _ _ h => h) (fun s h => ?_) (fun _ _ _ h => h.row)
  rw [State.tick_eq]
  split_ifs <;> exact h

end Sys2Proof.Machine
end

section
/-! PROOFS. SET-FILL and SET-SERVE: the refusals in their order, and the keg record written and evaluated (09 R151, R152;
log 36). -/

namespace Sys2Proof.Machine

/-! ### SET-FILL (09 R151) -/

theorem fillPhase_eq_none {b : Byte} (hnone : b ≠ 0x00) (hserving : b ≠ 0x03) : fillPhase b = none := by
  rw [fillPhase, if_neg hnone, if_neg hserving]

theorem fillPhase_eq_some {b : Byte} (h : b = 0x00 ∨ b = 0x03) : fillPhase b = some (if b = 0x00 then .none else .serving) := by
  rcases h with rfl | rfl <;> rfl

section
variable {s : State} {v1 v0 b : Byte}

theorem State.setFill_refused (args : List Byte) (h : s.program.underWay = true ∨ s.pour.inProgress = true) :
    State.setFill args s = s.reply .badState := by
  simp [State.setFill, h]

section
variable (hrest : (s.program.underWay || s.pour.inProgress) = false)
include hrest

/-- Phase or volume is not one SET-FILL allows. -/
theorem State.setFill_invalid (h : 20000 < natOf16 v1 v0 ∨ fillPhase b = none) :
    State.setFill [v1, v0, b] s = s.reply .badValue := by
  cases hphase : fillPhase b with
  | none => simp [State.setFill, hrest, hphase]
  | some phase =>
    have hrange : 20000 < natOf16 v1 v0 := h.resolve_right (by simp [hphase])
    simp [State.setFill, hrest, hphase, hrange]

theorem State.setFill_filled {phase : Phase} (hrange : natOf16 v1 v0 ≤ 20000) (hphase : fillPhase b = some phase) :
    State.setFill [v1, v0, b] s =
      (if phase = s.keg.phase then { s with keg := s.keg.filled (natOf16 v1 v0) phase }
        else State.pressureEval (State.thermalEval { s with keg := s.keg.filled (natOf16 v1 v0) phase })).done := by
  simp [State.setFill, hrest, hphase, not_lt.mpr hrange]

end

/-! ### SET-SERVE (09 R152) -/

theorem State.setServe_served (h : 0 ≤ tempOf16 v1 v0 ∧ tempOf16 v1 v0 ≤ 120 ∧ 50 ≤ b.toNat ∧ b.toNat ≤ 250) :
    State.setServe [v1, v0, b] s = (State.pressureEval (State.thermalEval
      { s with keg := { s.keg with serveTarget := tempOf16 v1 v0, carbTarget := b.toNat } })).done := if_pos h

theorem State.setServe_invalid (h : ¬ (0 ≤ tempOf16 v1 v0 ∧ tempOf16 v1 v0 ≤ 120 ∧ 50 ≤ b.toNat ∧ b.toNat ≤ 250)) :
    State.setServe [v1, v0, b] s = s.reply .badValue := if_neg h

end

theorem tempOf16_eq (a b : Byte) : tempOf16 a b = (BitVec.ofNat 16 (a.toNat * 256 + b.toNat)).toInt := by
  rw [tempOf16, join16_eq]

/-- Settles O44: SET-FILL by what is in progress and by its values, SET-SERVE by its values. -/
theorem setFillAndSetServe : Obligations.SetFillAndSetServe := by
  refine fun s e b1 b0 b => ⟨fun h => ?_, fun h => ?_⟩
  · have hrow : exec .setFill s = _ := orderRow_taken h State.setFill
    rw [hrow, ← natOf16_eq]
    refine ⟨fun hbusy => ?_, fun hrunning hpaused hidle => ?_⟩
    · have hway : s.program.underWay = true ∨ s.pour.inProgress = true := by
        rwa [Program.underWay_iff, Pour.inProgress_iff, or_assoc]
      rw [State.setFill_refused (s := s.popFrame e) _ hway]
      rfl
    · have hrest : (s.program.underWay || s.pour.inProgress) = false := by
        rw [Bool.eq_false_iff, Ne, Bool.or_eq_true_iff, Program.underWay_iff, Pour.inProgress_iff]
        exact fun hbusy => hbusy.elim (fun hway => hway.elim hrunning hpaused) (fun hpour => hpour hidle)
      refine ⟨fun hvalue => ?_, fun hrange hb => ?_⟩
      · have hinvalid := hvalue.imp_right fun hb => fillPhase_eq_none hb.1 hb.2
        rw [State.setFill_invalid (s := s.popFrame e) hrest hinvalid]
        rfl
      · rw [State.setFill_filled (s := s.popFrame e) hrest hrange (fillPhase_eq_some hb)]
        rfl
  · have hrow : exec .setServe s = _ := orderRow_taken h State.setServe
    dsimp only
    rw [hrow, ← tempOf16_eq]
    refine ⟨fun hvalue => ?_, fun hvalue => ?_⟩
    · rw [State.setServe_served (s := s.popFrame e) hvalue]
      rfl
    · rw [State.setServe_invalid (s := s.popFrame e) (by omega)]
      rfl

end Sys2Proof.Machine
end

section
/-! PROOFS. POUR-PORTION with no input beside it, STOP-POUR and RESTART-BAY (09 R155, R157, R158, R162, R165, 11 R186). -/

namespace Sys2Proof.Machine

/-! ### The preconditions of a pour (09 R157) -/

/-- The keg stands in its place, coupled. -/
abbrev State.Coupled (s : State) : Prop := s.asserted .kegPresent = true ∧ s.asserted .coupled = true

/-- The latest temperature is good and cool enough to serve. -/
abbrev State.ServesCool (s : State) : Prop :=
  s.thermal.probe = .good ∧ ∃ v, s.thermal.sample = some v ∧ v ≤ s.cfg.serveMax

/-- The latest pressure is good and high enough to serve. -/
abbrev State.ServesFirm (s : State) : Prop :=
  s.pressure.sensor = .good ∧ ∃ v, s.pressure.sample = some v ∧ (s.cfg.serveMin : Int) ≤ v

section
variable (s : State)

theorem State.kegReady_iff : s.kegReady = true ↔ s.Coupled := by simp [State.kegReady]

open Classical in
/-- The preconditions in the order of R157, each with the refusal its failure draws. -/
theorem State.pourRefusal_eq : s.pourRefusal =
    if s.keg.phase = .serving then
      if s.Coupled then
        if s.ServesCool then
          if s.ServesFirm then
            if s.keg.fill ≤ s.keg.dispensed then some .noBeer else none
          else some .lowPressure
        else some .tooWarm
      else some .notCoupled
    else some .notServing := by
  simp only [State.pourRefusal, ne_eq, ite_not, ← Bool.not_eq_true, Keg.remaining, Nat.sub_eq_zero_iff_le]
  refine if_congr Iff.rfl (if_congr s.kegReady_iff (if_congr ?cool (if_congr ?firm (if_congr Iff.rfl rfl rfl) rfl) rfl) rfl) rfl
  case cool =>
    unfold State.ServesCool
    cases s.thermal.probe <;> cases s.thermal.sample <;> simp
  case firm =>
    unfold State.ServesFirm Pressure.reading
    cases s.pressure.sensor <;> cases s.pressure.sample <;> simp

/-- Why a request presented alone is refused: a pour in progress, else the first precondition that fails (09 R156, R157). -/
def State.refusalAlone : Option PourRefusal := if s.pour.inProgress then some .busy else s.pourRefusal

theorem State.refusalAlone_busy (h : s.pour.state ≠ .idle) : s.refusalAlone = some .busy :=
  if_pos ((Pour.inProgress_iff _).mpr h)

theorem State.refusalAlone_idle (h : s.pour.state = .idle) : s.refusalAlone = s.pourRefusal :=
  if_neg fun hp => (Pour.inProgress_iff _).mp hp h

end

/-! ### POUR-PORTION (09 R155, R158) -/

theorem portionRequest_some {o v1 v0 : Byte} (ho : o = 0x01 ∨ o = 0x02) (hlow : 50 ≤ natOf16 v1 v0)
    (hhigh : natOf16 v1 v0 ≤ 2000) :
    portionRequest [o, v1, v0] = some ⟨if o = 0x01 then .front else .fill, .portion, some (natOf16 v1 v0), true⟩ := by
  rcases ho with rfl | rfl <;> exact if_pos ⟨hlow, hhigh⟩

theorem portionRequest_none {o v1 v0 : Byte} (h : ¬ ((o = 0x01 ∨ o = 0x02) ∧ 50 ≤ natOf16 v1 v0 ∧ natOf16 v1 v0 ≤ 2000)) :
    portionRequest [o, v1, v0] = none := by
  by_cases ho : o = 0x01 ∨ o = 0x02
  · have hvolume : ¬ (50 ≤ natOf16 v1 v0 ∧ natOf16 v1 v0 ≤ 2000) := fun hv => h ⟨ho, hv⟩
    rcases ho with rfl | rfl <;> exact if_neg hvolume
  · obtain ⟨hfront, hfill⟩ := not_or.mp ho
    have houtlet : outletOf o = none := by rw [outletOf, if_neg hfront, if_neg hfill]
    simp [portionRequest, houtlet]

section
variable {s : State} {e : RxEntry} {q : PourRequest}

/-- A request refused alone is answered BAD-STATE. -/
theorem State.pourPortionRow_refused {r : PourRefusal} (hq : s.orderRequest e = some q) (h : s.refusalAlone = some r) :
    s.pourPortionRow s e = (s.refusePour r).answer e OrderCode.pourPortion.code .badState [] := by
  unfold State.refusalAlone at h
  cases hp : s.pour.inProgress with
  | true =>
    obtain rfl : PourRefusal.busy = r := by simpa [hp] using h
    simp [State.pourPortionRow, hq, inputRequests_self, State.arbitrate, State.portionAccepted, hp]
  | false =>
    have hrefused : s.pourRefusal = some r := by simpa [hp] using h
    simp [State.pourPortionRow, hq, inputRequests_self, State.arbitrate, State.portionAccepted, State.checkPour, hp, hrefused]

/-- A request that nothing refuses is accepted and answered DONE. -/
theorem State.pourPortionRow_accepted (hq : s.orderRequest e = some q) (h : s.refusalAlone = none) :
    s.pourPortionRow s e = (s.acceptPour q).answer e OrderCode.pourPortion.code .done [] := by
  obtain ⟨hp, hnone⟩ : s.pour.inProgress = false ∧ s.pourRefusal = none := by
    unfold State.refusalAlone at h
    cases hp : s.pour.inProgress with
    | true => simp [hp] at h
    | false => exact ⟨rfl, by simpa [hp] using h⟩
  simp [State.pourPortionRow, hq, inputRequests_self, State.arbitrate, State.portionAccepted, State.checkPour, winner, hp, hnone]

theorem exec_pourPortion_alone {args : List Byte} (h : OrderTaken s e .pourPortion args) :
    exec (.pourPortion []) s = .next ((s.popFrame e).pourPortionRow (s.popFrame e) e) := by
  obtain ⟨⟨⟨hrun, hhand, hkind, hurgency, h1, h12, hsender⟩, hown1, hown12, hlength, hbody⟩, -⟩ := h
  have hclass := classify_order _ e _ args hkind hurgency h1 h12 hsender hown1 hown12 hlength hbody
  change execPourPortion [] s = _
  rw [execPourPortion, whileRunning_on _ _ hrun, takeFrame_some s _ _ e hhand (by rw [hclass, orderOf_code, beq_self_eq_true]),
    settleAll_nil, State.handOn_self]

theorem State.orderRequest_taken {args : List Byte} (h : OrderTaken s e .pourPortion args) :
    (s.popFrame e).orderRequest e = portionRequest args := by
  obtain ⟨⟨-, -, -, -, hbody⟩, hplace, hmode, -⟩ := h
  rw [← orderArgs_eq e _ _ args hbody]
  exact if_neg (not_or.mpr ⟨Nat.not_le.mpr hplace, hmode⟩)

/-- An order that makes no request is answered BAD-VALUE (09 R155). -/
theorem exec_pourPortion_invalid {args : List Byte} (h : OrderTaken s e .pourPortion args) (hnone : portionRequest args = none) :
    exec (.pourPortion []) s = .next (answered (s.popFrame e) e 0x30 0x03 []) := by
  have hnoRequest := (State.orderRequest_taken h).trans hnone
  rw [exec_pourPortion_alone h]
  obtain ⟨⟨-, -, -, -, hbody⟩, hplace, hmode, hcount⟩ := h
  simp only [State.pourPortionRow, hnoRequest, inputRequests_self]
  rw [State.arbitrate, State.handleOrder_performed (s.popFrame e) _ _ _ hplace (.inl hmode)
    (orderArgs_eq e _ _ args hbody ▸ hcount)]
  rfl

end

/-! ### STOP-POUR and RESTART-BAY (09 R165, 11 R186) -/

section
variable {s : State} (args : List Byte)

theorem State.stopPour_refused (h : s.pour.state ≠ .pouring) : State.stopPour args s = s.reply .badState := if_neg h

theorem State.stopPour_stopped (h : s.pour.state = .pouring) : State.stopPour args s = (s.endPour .stopped).done := if_pos h

theorem State.restartBay_marked (h : s.orders.restartMark = true) : State.restartBay args s = s.reply .badState := if_pos h

theorem State.restartBay_taken (h : s.orders.restartMark = false) :
    State.restartBay args s = State.done { s with orders := { s.orders with restartMark := true } } := by
  simp [State.restartBay, h]

end

/-- Settles O48: POUR-PORTION by its values and by the first refusal, the other two by the pour state and the restart mark. -/
theorem pourOrdersAndRestartBay : Obligations.PourOrdersAndRestartBay := by
  refine ⟨fun s e o v1 v0 h => ?_, fun s e => ⟨fun h => ?_, fun h => ?_⟩⟩
  · have hrefused : ∀ q r, portionRequest [o, v1, v0] = some q → s.refusalAlone = some r → ∃ tx : Tx,
        exec (.pourPortion []) s = .next (answered { s.popFrame e with
          keg := { s.keg with lastRefusal := some r }, notice := s.notice.raised 0x1000, tx := tx } e 0x30 0x02 []) :=
      fun q r hq hr => by
        rw [exec_pourPortion_alone h, State.pourPortionRow_refused ((State.orderRequest_taken h).trans hq) hr]
        exact ⟨_, rfl⟩
    have haccepted : ∀ q, portionRequest [o, v1, v0] = some q → s.refusalAlone = none →
        exec (.pourPortion []) s = .next (answered ((s.popFrame e).acceptPour q) e 0x30 0x00 []) := fun q hq hnone => by
      rw [exec_pourPortion_alone h, State.pourPortionRow_accepted ((State.orderRequest_taken h).trans hq) hnone]
      rfl
    dsimp only
    rw [← natOf16_eq]
    refine ⟨fun hvalue => exec_pourPortion_invalid h (portionRequest_none hvalue), fun ⟨ho, hlow, hhigh⟩ => ?_⟩
    have hq := portionRequest_some ho hlow hhigh
    have hidle : s.pour.state = .idle → s.refusalAlone = _ := fun hp => (s.refusalAlone_idle hp).trans s.pourRefusal_eq
    refine ⟨fun hp => hrefused _ _ hq (s.refusalAlone_busy hp), fun hp hphase => hrefused _ _ hq ?_,
      fun hp hphase hcoupled => hrefused _ _ hq ?_, fun hp hphase hcoupled hcool => hrefused _ _ hq ?_,
      fun hp hphase hcoupled hcool hfirm => hrefused _ _ hq ?_, fun hp hphase hcoupled hcool hfirm hbeer => hrefused _ _ hq ?_,
      fun hp hphase hcoupled hcool hfirm hbeer => (haccepted _ hq ?_).trans ?_⟩
    · rw [hidle hp, if_neg hphase]
    · rw [hidle hp, if_pos hphase, if_neg hcoupled]
    · rw [hidle hp, if_pos hphase, if_pos hcoupled, if_neg hcool]
    · rw [hidle hp, if_pos hphase, if_pos hcoupled, if_pos hcool, if_neg hfirm]
    · rw [hidle hp, if_pos hphase, if_pos hcoupled, if_pos hcool, if_pos hfirm, if_pos hbeer]
    · rw [hidle hp, if_pos hphase, if_pos hcoupled, if_pos hcool, if_pos hfirm, if_neg (not_le.mpr hbeer)]
    · rcases ho with rfl | rfl <;> rfl
  · have hrow : exec .stopPour s = _ := orderRow_taken h State.stopPour
    rw [hrow]
    refine ⟨fun hrest => ?_, fun hpouring => ?_⟩
    · rw [State.stopPour_refused (s := s.popFrame e) [] hrest]
      rfl
    · rw [State.stopPour_stopped (s := s.popFrame e) [] hpouring, State.endPour_pouring (s := s.popFrame e) hpouring]
      rfl
  · have hrow : exec .restartBay s = _ := orderRow_taken h State.restartBay
    rw [hrow]
    refine ⟨fun hmarked => ?_, fun hclear => ?_⟩
    · rw [State.restartBay_marked (s := s.popFrame e) [] hmarked]
      rfl
    · rw [State.restartBay_taken (s := s.popFrame e) [] hclear]
      rfl

end Sys2Proof.Machine
end

section
/-! PROOFS. The notice unit through every step: each row raises flags, or is one of the starts and notice orders that write the unit
otherwise; what that leaves of the notice law and of a set and unseen flag (10 R175 to R181). -/

namespace Sys2Proof.Machine

/-! ### Flag sets (02 R23) -/

theorem Flag.mask_msb (f : Flag) : f.mask.msb = false := by cases f <;> decide

theorem flagIf_msb (b : Bool) (f : Flag) : (flagIf b f).msb = false := by
  cases b
  · simp [flagIf]
  · exact f.mask_msb

theorem Program.finishFlags_msb (p : Program) : p.finishFlags.msb = false := by
  unfold Program.finishFlags
  split <;> decide

/-- A flag set that two argument characters carry has bit 15 clear. -/
theorem flagSetOf_msb {args : List Byte} {w : Word} (h : flagSetOf args = some w) : w.msb = false := by
  unfold flagSetOf at h
  split at h
  · split at h
    · cases h
    · next hmsb =>
      cases h
      exact Bool.eq_false_iff.mpr hmsb
  · cases h

/-! ### Flags raised one after another (10 R176) -/

theorem Notice.cleared_flags (n : Notice) (named : Word) (i : Nat) :
    (n.cleared named).flags.getLsbD i = (n.flags.getLsbD i && !(named.getLsbD i && n.seen.getLsbD i)) := by
  by_cases hi : i < 16
  · simp [Notice.cleared, hi]
  · simp [Notice.cleared, BitVec.getLsbD_of_ge n.flags i (by omega)]

theorem Notice.cleared_seen (n : Notice) (named : Word) (i : Nat) :
    (n.cleared named).seen.getLsbD i = (n.seen.getLsbD i && !named.getLsbD i) := by
  by_cases hi : i < 16
  · simp [Notice.cleared, hi]
  · simp [Notice.cleared, BitVec.getLsbD_of_ge n.seen i (by omega)]

/-- Two raises are one raise of both sets. -/
theorem Notice.raised_raised (n : Notice) (v w : Word) : (n.raised v).raised w = n.raised (v ||| w) := by
  simp only [Notice.raised, BitVec.or_assoc, BitVec.not_or, BitVec.and_assoc]

/-- The notice unit at s is n with flags raised since. -/
def RaisedFrom (n : Notice) (s : State) : Prop := ∃ mask : Word, mask.msb = false ∧ s.notice = n.raised mask

section
variable {n : Notice} {s : State}

theorem RaisedFrom.refl (h : s.notice = n) : RaisedFrom n s := ⟨0, rfl, h.trans n.raised_zero.symm⟩

/-! ### What raises flags and writes nothing else of the notice unit -/

variable (h : RaisedFrom n s)
include h

/-- An operation that leaves the notice unit. -/
theorem RaisedFrom.aside {t : State} (hnotice : t.notice = s.notice) : RaisedFrom n t := by
  obtain ⟨mask, hmask, hraised⟩ := h
  exact ⟨mask, hmask, hnotice.trans hraised⟩

/-- An operation that raises flags. -/
theorem RaisedFrom.raised {t : State} {w : Word} (hw : w.msb = false) (hnotice : t.notice = s.notice.raised w) :
    RaisedFrom n t := by
  obtain ⟨mask, hmask, hraised⟩ := h
  refine ⟨mask ||| w, by rw [BitVec.msb_or, hmask, hw]; rfl, ?_⟩
  rw [hnotice, hraised, Notice.raised_raised]

theorem RaisedFrom.raise {w : Word} (hw : w.msb = false) : RaisedFrom n (s.raise w) := h.raised hw rfl

/-! #### The evaluations (06 R107, 08 R142) -/

theorem RaisedFrom.thermalEval : RaisedFrom n s.thermalEval := h.aside (by simp)

theorem RaisedFrom.pressureEvalFrom (before : Bool) : RaisedFrom n (s.pressureEvalFrom before) :=
  h.raised (flagIf_msb _ _) (s.pressureEvalFrom_notice before)

theorem RaisedFrom.pressureEval : RaisedFrom n s.pressureEval := h.pressureEvalFrom _

theorem RaisedFrom.pauseFor (r : PauseReason) : RaisedFrom n (s.pauseFor r) := h.aside (by simp)

/-! #### The program (07) -/

theorem RaisedFrom.endStep : RaisedFrom n s.endStep := by
  have hended : RaisedFrom n (State.raise { s with program := s.program.finish, keg := s.keg.finish s.program }
      s.program.finishFlags) := h.raised s.program.finishFlags_msb rfl
  exact hended.thermalEval.pressureEval

theorem RaisedFrom.dueTest : RaisedFrom n s.dueTest := h.raised (flagIf_msb _ _) rfl

theorem RaisedFrom.minute : RaisedFrom n s.minute := by
  have hdue : RaisedFrom n (State.dueTest { s with program := s.program.minute s.thermal.inBand }) :=
    RaisedFrom.dueTest (h.aside rfl)
  unfold State.minute
  dsimp only
  split_ifs
  · exact hdue.endStep
  · exact hdue.thermalEval
  · exact hdue

theorem RaisedFrom.hour : RaisedFrom n s.hour := by
  have hmoved : RaisedFrom n { s with program := s.program.hour } := h
  unfold State.hour
  dsimp only
  split_ifs
  · exact hmoved.endStep
  · exact hmoved

theorem RaisedFrom.minuteEvent : RaisedFrom n s.minuteEvent := by
  unfold State.minuteEvent
  split_ifs
  · exact RaisedFrom.minute (h.aside rfl)
  · exact h

theorem RaisedFrom.hourEvent : RaisedFrom n s.hourEvent := by
  unfold State.hourEvent
  split_ifs
  · exact RaisedFrom.hour (h.aside rfl)
  · exact h

/-! #### The samples (06 R102, 08 R139) -/

theorem RaisedFrom.probeSecond (v : Int) : RaisedFrom n (s.probeSecond v) :=
  h.raised (flagIf_msb _ _) (s.probeSample_notice v)

theorem RaisedFrom.pressureSample (v : Int) : RaisedFrom n (s.pressureSample v) := by
  have hread : RaisedFrom n (s.pressureRead v) := h.raised (flagIf_msb _ _) rfl
  rw [s.pressureSample_eq v]
  exact hread.pressureEvalFrom _

/-! #### The pour (09) -/

theorem RaisedFrom.endPour (r : EndReason) : RaisedFrom n (s.endPour r) := by
  unfold State.endPour
  split_ifs
  · exact RaisedFrom.pressureEval (h.aside rfl)
  · exact h

theorem RaisedFrom.refusePour (r : PourRefusal) : RaisedFrom n (s.refusePour r) := h.raised (Flag.mask_msb _) rfl

theorem RaisedFrom.checkPour (q : PourRequest) : RaisedFrom n (s.checkPour q) := by
  unfold State.checkPour
  split
  · exact h.refusePour _
  · exact RaisedFrom.pressureEval (h.aside rfl)

theorem RaisedFrom.arbitrate (l : List PourRequest) : RaisedFrom n (s.arbitrate l) := by
  have hdrawn : RaisedFrom n { s with draws := s.draws + 1 } := h
  unfold State.arbitrate
  split
  · exact h
  · split_ifs
    · exact h.refusePour _
    · exact h.checkPour _
    · exact (hdrawn.refusePour _).checkPour _
    · exact (hdrawn.checkPour _).refusePour _

theorem RaisedFrom.meterOne : RaisedFrom n s.meterOne := by
  have hmetered : RaisedFrom n s.metered := h.raised (flagIf_msb _ _) rfl
  rw [s.meterOne_eq]
  split
  · exact hmetered.endPour _
  · exact hmetered

theorem RaisedFrom.meterMany (k : Nat) : RaisedFrom n (State.meterMany k s) := by
  induction k generalizing s with
  | zero => exact h
  | succ k ih => exact ih h.meterOne

theorem RaisedFrom.pulse : RaisedFrom n s.pulse := by
  unfold State.pulse
  dsimp only
  split_ifs
  · refine RaisedFrom.meterMany ?_ _
    exact h
  · exact h

theorem RaisedFrom.emptyDue : RaisedFrom n s.emptyDue := by
  unfold State.emptyDue
  dsimp only
  split_ifs
  · have hended := (h.endPour .empty).raise Flag.kegEmpty.mask_msb
    exact RaisedFrom.pressureEval (RaisedFrom.thermalEval (hended.aside rfl))
  · exact h

theorem RaisedFrom.foamDue : RaisedFrom n s.foamDue := by
  unfold State.foamDue
  split_ifs
  · exact h.endPour _
  · exact h

theorem RaisedFrom.settleDue : RaisedFrom n s.settleDue := by
  unfold State.settleDue
  split_ifs
  · exact RaisedFrom.pressureEval (h.aside rfl)
  · exact h

/-! #### The mode controller (05 R91 to R98) -/

theorem RaisedFrom.enterDoubtful : RaisedFrom n s.enterDoubtful :=
  h.raised Flag.lineTrouble.mask_msb (by simp [State.enterDoubtful])

theorem RaisedFrom.enterMuted : RaisedFrom n s.enterMuted :=
  h.raised Flag.configConflict.mask_msb (by simp [State.enterMuted])

theorem RaisedFrom.doubtTest : RaisedFrom n s.doubtTest := by
  unfold State.doubtTest
  split_ifs
  · exact h.enterDoubtful
  · exact h

theorem RaisedFrom.setSuspect : RaisedFrom n s.setSuspect := by
  have hmarked : RaisedFrom n (marked s) := h
  unfold State.setSuspect
  dsimp only
  split_ifs
  · exact hmarked.aside (by simp)
  · exact hmarked.doubtTest

theorem RaisedFrom.releaseSuspect : RaisedFrom n s.releaseSuspect := by
  unfold State.releaseSuspect
  split_ifs
  · exact RaisedFrom.setSuspect (h.aside rfl)
  · exact h

theorem RaisedFrom.lineSuspect : RaisedFrom n s.lineSuspect := by
  unfold State.lineSuspect
  split_ifs
  · exact h.aside rfl
  · exact h.setSuspect

theorem RaisedFrom.waitExpired : RaisedFrom n s.waitExpired := by
  unfold State.waitExpired
  split_ifs
  · exact h.aside (by simp)
  · exact h.aside rfl
  · exact h.aside rfl
  · exact h.aside (by simp)
  · exact h.raised Flag.lineTrouble.mask_msb rfl

theorem RaisedFrom.answerWait : RaisedFrom n s.answerWait := by
  unfold State.answerWait
  split_ifs
  · exact h.waitExpired
  · exact h

theorem RaisedFrom.removeSilent (a : Nat) : RaisedFrom n (s.removeSilent a) := by
  unfold State.removeSilent
  split_ifs
  · exact RaisedFrom.doubtTest (h.aside rfl)
  · exact h

theorem RaisedFrom.takeSilent : RaisedFrom n s.takeSilent := by
  unfold State.takeSilent
  generalize [1, 2, 3, 4, 5, 6, 7, 8, 9, 10, 11, 12] = l
  induction l generalizing s with
  | nil => exact h
  | cons a as ih => exact ih (h.removeSilent a)

/-! #### The frames (01 R8, R9, 05 R95, R97) -/

theorem RaisedFrom.compare (r : RosterEntry) : RaisedFrom n (s.compare r) := by
  unfold State.compare
  split_ifs
  · exact h.enterMuted
  · exact h.enterDoubtful
  · exact h.aside rfl

theorem RaisedFrom.heardActive (r : RosterEntry) : RaisedFrom n (s.heardActive r) := by
  unfold State.heardActive
  split_ifs
  · exact h.enterMuted
  · exact h.aside rfl
  · exact h

theorem RaisedFrom.weighAnnounce (before : Option Nat) (r : RosterEntry) : RaisedFrom n (s.weighAnnounce before r) := by
  unfold State.weighAnnounce
  split_ifs
  · exact h.compare r
  · exact h.doubtTest
  · exact h
  · exact h.heardActive r
  · exact h

theorem RaisedFrom.announceFrame (e : RxEntry) : RaisedFrom n (s.announceFrame e) := by
  unfold State.announceFrame
  dsimp only
  split
  · refine RaisedFrom.weighAnnounce ?_ _ _
    exact h
  · exact h

theorem RaisedFrom.discardFrame (own clean : Bool) : RaisedFrom n (s.discardFrame own clean) := by
  unfold State.discardFrame
  dsimp only
  split
  · exact RaisedFrom.lineSuspect (h.aside rfl)
  · exact h.aside rfl

theorem RaisedFrom.receive (e : RxEntry) : RaisedFrom n (s.receive e) := by
  unfold State.receive
  split
  · split <;> exact h.aside rfl
  · exact RaisedFrom.lineSuspect (h.aside rfl)

theorem RaisedFrom.judgeFrame (falseStart : Bool) (chars : List RxChar) : RaisedFrom n (s.judgeFrame falseStart chars) := by
  unfold State.judgeFrame
  dsimp only
  split
  · exact RaisedFrom.receive (h.aside (by simp)) _
  · exact RaisedFrom.discardFrame (h.aside (by simp)) _ _

/-! #### The inputs (08 R148, 10 R171, R172) -/

theorem RaisedFrom.kegLost : RaisedFrom n s.kegLost := (h.endPour _).pauseFor _

theorem RaisedFrom.leakBegin : RaisedFrom n s.leakBegin := by
  have hlocked : RaisedFrom n s.leakLocked := h
  exact hlocked.pressureEval.raise Flag.leak.mask_msb

theorem RaisedFrom.kegPresentTaken (k : Taken) : RaisedFrom n (s.kegPresentTaken k) := by
  cases k with
  | nothing => exact h
  | assertion =>
    unfold State.kegPresentTaken
    dsimp only
    split_ifs
    · exact RaisedFrom.pressureEval (h.aside (by simp))
    · exact h.pressureEval
  | deassertion =>
    unfold State.kegPresentTaken
    dsimp only
    split_ifs
    · exact RaisedFrom.pressureEval (h.kegLost.aside (by simp))
    · exact h.kegLost.pressureEval

theorem RaisedFrom.coupledTaken (k : Taken) : RaisedFrom n (s.coupledTaken k) := by
  cases k with
  | nothing => exact h
  | assertion => exact h.pressureEval
  | deassertion => exact h.kegLost.pressureEval

theorem RaisedFrom.leakTaken (k : Taken) : RaisedFrom n (s.leakTaken k) := by
  cases k with
  | nothing => exact h
  | assertion => exact h.leakBegin
  | deassertion => exact RaisedFrom.pressureEval (h.aside rfl)

theorem RaisedFrom.dripTaken (k : Taken) : RaisedFrom n (s.dripTaken k) := by
  cases k with
  | nothing | deassertion => exact h
  | assertion => exact h.raise Flag.dripFull.mask_msb

theorem RaisedFrom.handleTaken (k : Taken) : RaisedFrom n (s.handleTaken k) := by
  cases k with
  | nothing | assertion => exact h
  | deassertion =>
    unfold State.handleTaken
    dsimp only
    split_ifs
    · exact h.endPour _
    · exact h

theorem RaisedFrom.handOn (before : State) : RaisedFrom n (State.handOn before s) :=
  ((((h.kegPresentTaken _).coupledTaken _).leakTaken _).dripTaken _).handleTaken _

/-! #### The second event and the thresholds (04 R74, 06 R113; log 5) -/

theorem RaisedFrom.starveDue (x : Resource) : RaisedFrom n (s.starveDue x) := by
  unfold State.starveDue
  split_ifs
  · exact h.raised Flag.starved.mask_msb rfl
  · exact h

theorem RaisedFrom.driftDue : RaisedFrom n s.driftDue := by
  unfold State.driftDue
  split_ifs
  · exact h.raised Flag.tempDrift.mask_msb rfl
  · exact h

theorem RaisedFrom.takeDue : RaisedFrom n s.takeDue := by
  have hcounts := h.minuteEvent.hourEvent.driftDue.emptyDue.foamDue.settleDue
  have hsilent := (((hcounts.starveDue .chill).starveDue .gas).starveDue .heat).takeSilent
  unfold State.takeDue
  dsimp only
  generalize State.takeSilent _ = v at hsilent ⊢
  have hannounced : RaisedFrom n v.announceTimer := hsilent.aside (by simp)
  exact hannounced.answerWait.aside (by simp)

theorem RaisedFrom.second (probe pressure : Int) : RaisedFrom n (s.second probe pressure) := by
  have hdue := h.takeDue
  rw [s.second_eq, State.sampled]
  generalize s.takeDue = v at hdue ⊢
  have hticked : RaisedFrom n { v with timebase := v.timebase.second } := hdue
  exact ((hticked.probeSecond probe).pressureSample pressure).aside (by simp)

/-! #### The configuration load (02 R32, 08 R148, 10 R172) -/

theorem RaisedFrom.judgeInputs : RaisedFrom n s.judgeInputs := by
  have hkeg : RaisedFrom n s.kegJudged := h.aside s.kegJudged_frame.2.2.1
  have hleak : RaisedFrom n s.leakJudged := by
    unfold State.leakJudged
    split_ifs
    · exact hkeg.leakBegin
    · exact hkeg
  exact (hleak.raise (flagIf_msb _ _)).pressureEval

theorem RaisedFrom.configLoadEnd (read : Option WorkingCopy) :
    RaisedFrom n ((s.takeConfig read).judgeInputs).leaveStarting := by
  have htaken : RaisedFrom n (s.takeConfig read) := h.raised (flagIf_msb _ _) rfl
  exact htaken.judgeInputs.aside (by simp)

/-! #### What the orders perform (07, 09) -/

theorem RaisedFrom.setFill (args : List Byte) : RaisedFrom n (State.setFill args s).state := by
  unfold State.setFill
  split
  · exact h
  · split
    · split
      · split
        · exact h
        · dsimp only
          rw [State.done_state]
          split
          · exact h.aside rfl
          · exact RaisedFrom.pressureEval (RaisedFrom.thermalEval (h.aside rfl))
      · exact h
    · exact h

theorem RaisedFrom.setServe (args : List Byte) : RaisedFrom n (State.setServe args s).state := by
  unfold State.setServe
  split
  · split
    · exact RaisedFrom.pressureEval (RaisedFrom.thermalEval (h.aside rfl))
    · exact h
  · exact h

theorem RaisedFrom.clearProgram (args : List Byte) : RaisedFrom n (State.clearProgram args s).state := by
  unfold State.clearProgram
  split_ifs
  · exact h
  · exact h
  · exact RaisedFrom.pressureEval (RaisedFrom.thermalEval (h.aside rfl))

theorem RaisedFrom.startProgram (args : List Byte) : RaisedFrom n (State.startProgram args s).state := by
  unfold State.startProgram
  split_ifs
  · exact RaisedFrom.pressureEval (RaisedFrom.thermalEval (h.aside rfl))
  · exact h

theorem RaisedFrom.advanceStep (args : List Byte) : RaisedFrom n (State.advanceStep args s).state := by
  unfold State.advanceStep
  split_ifs
  · exact h.endStep
  · exact h

theorem RaisedFrom.stopPour (args : List Byte) : RaisedFrom n (State.stopPour args s).state := by
  unfold State.stopPour
  split_ifs
  · exact h.endPour _
  · exact h

theorem RaisedFrom.raiseNotice (args : List Byte) : RaisedFrom n (State.raiseNotice args s).state := by
  unfold State.raiseNotice
  split
  · next w hw => exact h.raise (flagSetOf_msb hw)
  · exact h

end

/-! ### What a row does to the notice unit -/

/-- How a row may move the notice unit: any row may raise flags; a start, a READ-NOTICES, a CLEAR-NOTICES and a
SET-NOTICE-ENABLE each write it in a way of their own (10 R176 to R181). -/
inductive NoticeMove (n : Notice) : Instr → Notice → Prop
  | raised (c : Instr) {mask : Word} (h : mask.msb = false) : NoticeMove n c (n.raised mask)
  | cold (strap : BitVec 4) : NoticeMove n (.coldStart strap) .initial
  | dip (strap : BitVec 4) : NoticeMove n (.dipStart strap) n.warm
  | ordered (strap : BitVec 4) : NoticeMove n (.orderedStart strap) n.warm
  | read : NoticeMove n .readNotices n.read
  | cleared (named : Word) : NoticeMove n .clearNotices (n.cleared named)
  | enabled {set : Word} (h : set.msb = false) : NoticeMove n .setNoticeEnable (n.enable set)

section
variable {s t : State} {c : Instr}

theorem RaisedFrom.move (h : RaisedFrom s.notice t) : NoticeMove s.notice c t.notice := by
  obtain ⟨mask, hmask, hraised⟩ := h
  exact hraised ▸ .raised c hmask

/-- A row that raises flags at most. -/
theorem NoticeMove.of_running {f : State → State} (hf : RaisedFrom s.notice (f s)) (he : whileRunning s f = .next t) :
    NoticeMove s.notice c t.notice :=
  RaisedFrom.move (whileRunning_keeps (.refl rfl) hf he)

/-- The row of a frame that raises flags at most. -/
theorem NoticeMove.of_frame {ok : FrameClass → Bool} {f : RxEntry → State → State}
    (hf : ∀ e u, RaisedFrom s.notice u → RaisedFrom s.notice (f e u))
    (he : whileRunning s (fun s => takeFrame s ok f) = .next t) : NoticeMove s.notice c t.notice :=
  RaisedFrom.move (frameRow_keeps (.refl rfl) (fun _ => .refl rfl) hf he)

/-- The row of an order whose performance raises flags at most. -/
theorem NoticeMove.of_order {o : OrderCode} {p : List Byte → State → Reply}
    (hp : ∀ a u, RaisedFrom s.notice u → RaisedFrom s.notice (p a u).state) (he : orderRow o p s = .next t) :
    NoticeMove s.notice c t.notice :=
  RaisedFrom.move (orderRow_keeps (.refl rfl) (fun _ => .refl rfl) (fun _ hu => hu) (fun _ _ _ _ _ hu => hu) hp he)

/-- The row of an order that writes the notice unit: what it performs stands in the answered state, and a drop or a plain answer
leaves the unit. -/
theorem NoticeMove.of_noticeOrder {o : OrderCode} {p : List Byte → State → Reply}
    (hp : ∀ a u, NoticeMove u.notice c (p a u).state.notice) (he : orderRow o p s = .next t) :
    NoticeMove s.notice c t.notice := by
  have hstands : ∀ u : State, u.notice = s.notice → NoticeMove s.notice c u.notice := fun _ hu => (RaisedFrom.refl hu).move
  refine whileRunning_keeps (P := fun u => NoticeMove s.notice c u.notice) (hstands s rfl) ?_ he
  refine takeFrame_keeps (P := fun u => NoticeMove s.notice c u.notice) s _ _ (hstands s rfl) fun e => ?_
  exact State.handleOrder_keeps (P := fun u => NoticeMove s.notice c u.notice) _ _ _ _ (hstands _ rfl)
    (fun _ => hstands _ rfl) (hp _ (s.popFrame e))

theorem State.clearNotices_move (args : List Byte) :
    NoticeMove s.notice .clearNotices (State.clearNotices args s).state.notice := by
  unfold State.clearNotices
  split
  · exact .cleared _
  · exact (RaisedFrom.refl rfl).move

theorem State.setNoticeEnable_move (args : List Byte) :
    NoticeMove s.notice .setNoticeEnable (State.setNoticeEnable args s).state.notice := by
  unfold State.setNoticeEnable
  split
  · next w hw => exact .enabled (flagSetOf_msb hw)
  · exact (RaisedFrom.refl rfl).move

end

/-- Every row moves the notice unit in one of these ways. -/
theorem exec_noticeMove {s t : State} {c : Instr} (he : exec c s = .next t) : NoticeMove s.notice c t.notice := by
  have hstart : RaisedFrom s.notice s := .refl rfl
  cases c with
  | coldStart strap => cases he; exact .cold strap
  | dipStart strap => cases he; exact .dip strap
  | orderedStart strap =>
    cases he
    split_ifs
    · exact .ordered strap
    · exact hstart.move
  | supplyFall | pinChange _ _ => cases he; exact hstart.move
  | readNotices => exact .of_noticeOrder (fun _ _ => .read) he
  | clearNotices => exact .of_noticeOrder (fun a u => u.clearNotices_move a) he
  | setNoticeEnable => exact .of_noticeOrder (fun a u => u.setNoticeEnable_move a) he
  | raiseNotice => exact .of_order (fun a _ hu => hu.raiseNotice a) he
  | configLoadEnd read =>
    refine .of_running ?_ he
    split_ifs
    · exact hstart.configLoadEnd _
    · exact hstart
  | secondEvent probe pressure =>
    simp only [exec, execSecondEvent] at he
    refine .of_running ?_ he
    split_ifs
    · exact hstart
    · exact hstart.second _ _
  | minuteEvent => exact .of_running hstart.minuteEvent he
  | hourEvent => exact .of_running hstart.hourEvent he
  | meterPulse => exact .of_running hstart.pulse he
  | starveLimit x => exact .of_running (hstart.starveDue x) he
  | driftLimit => exact .of_running hstart.driftDue he
  | emptyEnd => exact .of_running hstart.emptyDue he
  | foamEnd => exact .of_running hstart.foamDue he
  | settlingEnd => exact .of_running hstart.settleDue he
  | answerWaitExpiry => exact .of_running hstart.answerWait he
  | rosterEntryRemoved address => exact .of_running (hstart.removeSilent address) he
  | restEnd | announceTimer | renewPoint _ | lapse _ | expiryPoint _ => exact .of_running (hstart.aside (by simp)) he
  | inputSettled inputs =>
    simp only [exec, execInputSettled] at he
    refine .of_running ?_ he
    have hsettled : RaisedFrom s.notice (s.settleAll inputs) := hstart
    exact (hsettled.handOn s).arbitrate _
  | configLoad | lineIdle | breakSeen =>
    refine .of_running (hstart.aside ?_) he
    split_ifs <;> rfl
  | stub | slotBegin _ | quietWindow | lostArbitration _ | frameComplete =>
    simp only [exec, execStub, execSlotBegin, execQuietWindow, execLostArbitration, execFrameComplete] at he
    refine .of_running (hstart.aside ?_) he
    repeat' split
    all_goals simp
  | sendFault bit =>
    simp only [exec, execSendFault] at he
    refine .of_running ?_ he
    split
    · split_ifs
      · exact RaisedFrom.lineSuspect (hstart.aside rfl)
      · exact hstart
    · exact hstart
  | frameEnd falseStart chars =>
    refine .of_running ?_ he
    split_ifs
    · exact hstart.judgeFrame _ _
    · exact hstart
  | frameBroken cause falseStart chars =>
    refine .of_running ?_ he
    split_ifs
    · exact RaisedFrom.discardFrame (hstart.aside (by simp)) _ _
    · exact hstart
  | frameRejected =>
    simp only [exec, execFrameRejected] at he
    refine .of_frame (fun e u hu => RaisedFrom.setSuspect ?_) he
    exact hu
  | announce => exact .of_frame (fun e _ hu => (hu.announceFrame e).releaseSuspect) he
  | syncTable => exact .of_frame (fun e _ hu => RaisedFrom.releaseSuspect (hu.aside (by simp))) he
  | frameNoBlock | claim | renew | yield | yieldAll | expire | syncAsk =>
    exact .of_frame (fun _ _ hu => hu.aside (by simp)) he
  | readStatus | readKeg | readStep | readPourLog | restartBay | loadStep | pauseProgram | resumeProgram =>
    exact .of_order (fun _ _ hu => hu.aside (by simp)) he
  | setFill => exact .of_order (fun a _ hu => hu.setFill a) he
  | setServe => exact .of_order (fun a _ hu => hu.setServe a) he
  | clearProgram => exact .of_order (fun a _ hu => hu.clearProgram a) he
  | startProgram => exact .of_order (fun a _ hu => hu.startProgram a) he
  | advanceStep => exact .of_order (fun a _ hu => hu.advanceStep a) he
  | stopPour => exact .of_order (fun a _ hu => hu.stopPour a) he
  | pourPortion settled =>
    refine .of_frame (fun e u hu => ?_) he
    have hsettled : RaisedFrom s.notice (u.settleAll settled) := hu
    exact State.pourPortionRow_keeps _ _ _ (hsettled.handOn u).arbitrate (fun _ hv => hv) (fun _ _ _ _ hv => hv)
  | unknownOrder =>
    refine .of_frame (fun _ _ hu => ?_) he
    split_ifs <;> exact hu

/-! ### The notice law (10 R175, R176, R178) -/

theorem noticeLaw_iff (n : Notice) : noticeLaw n = true ↔
    n.flags.msb = false ∧ n.seen.msb = false ∧ n.enabled.msb = false ∧
      ∀ i, n.seen.getLsbD i = true → n.flags.getLsbD i = true := by
  have hseen : n.seen &&& ~~~n.flags = 0#16 ↔ ∀ i, n.seen.getLsbD i = true → n.flags.getLsbD i = true := by
    rw [BitVec.eq_of_getLsbD_eq_iff]
    refine forall_congr' fun i => ?_
    by_cases hi : i < 16
    · simp only [BitVec.getLsbD_and, BitVec.getLsbD_not, BitVec.getLsbD_zero, hi, decide_true, Bool.true_and]
      cases n.seen.getLsbD i <;> simp
    · simp [hi, BitVec.getLsbD_of_ge n.seen i (by omega)]
  simp [noticeLaw, hseen, and_assoc]

section
variable {n m : Notice}

theorem noticeLaw_raised (h : noticeLaw n = true) {mask : Word} (hmask : mask.msb = false) : noticeLaw (n.raised mask) = true := by
  obtain ⟨hflags, hseen, henabled, hsub⟩ := (noticeLaw_iff n).mp h
  refine (noticeLaw_iff _).mpr ⟨?_, ?_, henabled, fun i => ?_⟩
  · simp [Notice.raised, BitVec.msb_or, hflags, hmask]
  · simp [Notice.raised, BitVec.msb_and, hseen]
  · rw [Notice.raised_seen, Notice.raised_flags, Bool.and_eq_true, Bool.or_eq_true]
    exact fun hi => .inl (hsub i hi.1)

/-- A flag set taken out keeps no seen mark. -/
theorem noticeLaw_cleared (h : noticeLaw n = true) (named : Word) : noticeLaw (n.cleared named) = true := by
  obtain ⟨hflags, hseen, henabled, hsub⟩ := (noticeLaw_iff n).mp h
  refine (noticeLaw_iff _).mpr ⟨?_, ?_, henabled, fun i => ?_⟩
  · simp [Notice.cleared, BitVec.msb_and, hflags]
  · simp [Notice.cleared, BitVec.msb_and, hseen]
  · rw [Notice.cleared_seen, Notice.cleared_flags]
    cases hi : n.seen.getLsbD i with
    | false => simp
    | true => simp [hsub i hi]

theorem NoticeMove.keepsLaw {c : Instr} (hmove : NoticeMove n c m) (h : noticeLaw n = true) : noticeLaw m = true := by
  obtain ⟨hflags, hseen, henabled, hsub⟩ := (noticeLaw_iff n).mp h
  have hunmarked : noticeLaw { n with seen := 0 } = true :=
    (noticeLaw_iff _).mpr ⟨hflags, BitVec.msb_zero, henabled, fun i hi => by simp at hi⟩
  have hwarm : noticeLaw n.warm = true := noticeLaw_raised hunmarked Flag.restarted.mask_msb
  cases hmove with
  | raised _ hmask => exact noticeLaw_raised h hmask
  | cold _ => decide
  | dip _ | ordered _ => exact hwarm
  | read => exact (noticeLaw_iff _).mpr ⟨hflags, hflags, henabled, fun _ hi => hi⟩
  | cleared named => exact noticeLaw_cleared h named
  | enabled hset => exact (noticeLaw_iff _).mpr ⟨hflags, hseen, hset, hsub⟩

/-! ### A set and unseen flag (10 R176, R179, R181) -/

/-- A flag is set and not seen. -/
def Notice.Unseen (n : Notice) (i : Nat) : Prop := n.flags.getLsbD i = true ∧ n.seen.getLsbD i = false

/-- A clear takes seen flags only, and a warm start keeps every flag. -/
theorem NoticeMove.keepsUnseen {c : Instr} (hmove : NoticeMove n c m) (hread : c ≠ .readNotices)
    (hcold : ∀ strap, c ≠ .coldStart strap) {i : Nat} (h : n.Unseen i) : m.Unseen i := by
  obtain ⟨hset, hunseen⟩ := h
  have hwarm : n.warm.Unseen i := Notice.raised_unseen _ _ i hset (by simp)
  cases hmove with
  | raised _ _ => exact n.raised_unseen _ i hset hunseen
  | cold strap => exact absurd rfl (hcold strap)
  | dip _ | ordered _ => exact hwarm
  | read => exact absurd rfl hread
  | cleared named => simp [Notice.Unseen, Notice.cleared_flags, Notice.cleared_seen, hset, hunseen]
  | enabled _ => exact ⟨hset, hunseen⟩

end

/-! ### The two laws of the notice unit -/

/-- Settles O53: each way a row moves the notice unit keeps the law. -/
theorem everyStepKeepsTheNoticeLaw : Obligations.EveryStepKeepsTheNoticeLaw := by
  refine step_keeps (P := fun s => noticeLaw s.notice = true) (fun _ _ h => h) (fun s h => ?_)
    (fun _ _ _ h he => (exec_noticeMove he).keepsLaw h)
  rw [State.tick_eq]
  split_ifs <;> exact h

/-- Settles O54: only a READ-NOTICES marks a flag seen, and only a COLD start takes one that is not. -/
theorem unseenFlagsSurviveUntilTheNextRead : Obligations.UnseenFlagsSurviveUntilTheNextRead := by
  intro s t i hset hunseen hread hcold he
  unfold step at he
  split at he
  · cases he
    rw [State.tick_eq]
    split_ifs <;> exact ⟨hset, hunseen⟩
  · next c rest hpending =>
    rw [hpending, List.head?_cons] at hread hcold
    exact (exec_noticeMove he).keepsUnseen (fun hc => hread (congrArg some hc))
      (fun strap hc => hcold strap (congrArg some hc)) ⟨hset, hunseen⟩

end Sys2Proof.Machine
end

section
/-! PROOFS. The notice orders: READ-NOTICES, CLEAR-NOTICES, SET-NOTICE-ENABLE, RAISE-NOTICE (10 R176 to R180). -/

namespace Sys2Proof.Machine

/-! ### The flag set of an order (10 R179, R180) -/

section
variable {hi lo : Byte}

theorem flagSetOf_none (h : (join16 hi lo).getLsbD 15 = true) : flagSetOf [hi, lo] = none :=
  if_pos ((BitVec.msb_eq_getLsbD_last _).trans h)

theorem flagSetOf_some (h : (join16 hi lo).getLsbD 15 = false) : flagSetOf [hi, lo] = some (join16 hi lo) :=
  if_neg (Bool.eq_false_iff.mp ((BitVec.msb_eq_getLsbD_last _).trans h))

end

/-! ### What the orders perform -/

section
variable {s : State} {args : List Byte}

/-- No flag set, no effect: the three orders that take one answer BAD-VALUE. -/
theorem State.noticeOrders_badValue (h : flagSetOf args = none) :
    State.clearNotices args s = s.reply .badValue ∧ State.setNoticeEnable args s = s.reply .badValue ∧
      State.raiseNotice args s = s.reply .badValue := by
  simp [State.clearNotices, State.setNoticeEnable, State.raiseNotice, h]

section
variable {w : Word} (h : flagSetOf args = some w)
include h

theorem State.clearNotices_cleared : State.clearNotices args s =
    ⟨{ s with notice := s.notice.cleared w }, .done, bytes16 (s.notice.cleared w).flags⟩ := by
  simp [State.clearNotices, h]

theorem State.setNoticeEnable_set : State.setNoticeEnable args s =
    ⟨{ s with notice := s.notice.enable w }, .done, bytes16 w⟩ := by
  simp [State.setNoticeEnable, h]

theorem State.raiseNotice_raised : State.raiseNotice args s = ⟨s.raise w, .done, bytes16 (s.notice.raised w).flags⟩ := by
  simp [State.raiseNotice, h]

end
end

/-! ### The NOTICE a raise asks for (10 R176, R177) -/

section
variable {s : State} {w : Word}

theorem Notice.asks_iff (n : Notice) (w : Word) : n.asks w = true ↔ n.enabled &&& w ≠ 0 := by
  rw [Notice.asks, bne_iff_ne]

/-- A raise of an enabled flag leaves a NOTICE in the queue, in a mode that sends them. -/
theorem State.raise_holds_notice (hasks : s.notice.enabled &&& w ≠ 0) (hsends : s.mode.mode.sendsNotices = true) :
    (s.raise w).tx.holds (· == .notice) = true := by
  have htx : (s.raise w).tx = s.tx.askNotice := if_pos (by rw [(s.notice.asks_iff w).mpr hasks, hsends]; rfl)
  rw [htx]
  exact Tx.holds_askNotice _

/-- A raise of no enabled flag, or in MUTED, asks for none. -/
theorem State.raise_tx_quiet (h : s.notice.enabled &&& w = 0 ∨ s.mode.mode = .muted) : (s.raise w).tx = s.tx := by
  refine if_neg ?_
  rw [Bool.and_eq_true, Notice.asks_iff]
  rintro ⟨hasks, hsends⟩
  rcases h with hnone | hmuted
  · exact hasks hnone
  · rw [hmuted] at hsends
    cases hsends

theorem Mode.sendsNotices_of {m : Mode} (hstarting : m ≠ .starting) (hmuted : m ≠ .muted) : m.sendsNotices = true := by
  cases m with
  | starting => exact absurd rfl hstarting
  | muted => exact absurd rfl hmuted
  | vacant | joining | active | doubtful => rfl

end

/-- A READ-NOTICES that is dropped, or answered NOT-READY in STARTING, leaves the notice unit. -/
theorem exec_readNotices_refused {s : State} {e : RxEntry} (h : OrderInHand s e 0x05 [])
    (hrefused : 2 ≤ s.orders.pendingAnswers ∨ s.mode.mode = .starting) :
    ∃ t, exec .readNotices s = .next t ∧ t.notice = s.notice := by
  obtain ⟨⟨hrun, hhand, hkind, hurgency, h1, h12, hsender⟩, hown1, hown12, hlength, hbody⟩ := h
  have hclass : classify s.line.address e = .order (some .readNotices) :=
    classify_order _ e _ [] hkind hurgency h1 h12 hsender hown1 hown12 hlength hbody
  refine ⟨_, orderRow_inHand s .readNotices _ e hrun hhand hclass, ?_⟩
  by_cases hplace : 2 ≤ s.orders.pendingAnswers
  · rw [State.handleOrder_dropped (s.popFrame e) _ _ _ hplace]
    rfl
  · have hstarting : s.mode.mode = .starting := hrefused.resolve_left hplace
    simp [State.handleOrder, State.popFrame, hplace, hstarting]

/-- Settles O43: each order taken is performed on the flag sets as they stand. -/
theorem noticeOrders : Obligations.NoticeOrders := by
  refine ⟨fun s e h => orderRow_taken h State.readNotices, fun s e h hrefused => exec_readNotices_refused h hrefused,
    fun s e hi lo h _ => ?_, fun s e hi lo => ⟨fun h => ?_, fun h => ?_⟩⟩
  · have hrow : exec .clearNotices s = _ := orderRow_taken h State.clearNotices
    rw [hrow]
    refine ⟨fun hbit => ?_, fun hbit => ⟨s.notice.cleared (join16 hi lo), ?_, rfl, fun i _ => ?_⟩⟩
    · rw [(State.noticeOrders_badValue (s := s.popFrame e) (flagSetOf_none hbit)).1]
      rfl
    · rw [State.clearNotices_cleared (s := s.popFrame e) (flagSetOf_some hbit)]
      rfl
    · exact ⟨Notice.cleared_flags _ _ _, Notice.cleared_seen _ _ _⟩
  · have hrow : exec .setNoticeEnable s = _ := orderRow_taken h State.setNoticeEnable
    rw [hrow]
    refine ⟨fun hbit => ?_, fun hbit => ?_⟩
    · rw [(State.noticeOrders_badValue (s := s.popFrame e) (flagSetOf_none hbit)).2.1]
      rfl
    · rw [State.setNoticeEnable_set (s := s.popFrame e) (flagSetOf_some hbit)]
      rfl
  · have hrow : exec .raiseNotice s = _ := orderRow_taken h State.raiseNotice
    obtain ⟨-, -, hmode, -⟩ := h
    rw [hrow]
    refine ⟨fun hbit => ?_, fun hbit => ⟨((s.popFrame e).raise (join16 hi lo)).tx, ?_, fun hasks hmuted => ?_,
      fun hquiet => ?_⟩⟩
    · rw [(State.noticeOrders_badValue (s := s.popFrame e) (flagSetOf_none hbit)).2.2]
      rfl
    · rw [State.raiseNotice_raised (s := s.popFrame e) (flagSetOf_some hbit)]
      rfl
    · exact State.raise_holds_notice (s := s.popFrame e) hasks (Mode.sendsNotices_of hmode hmuted)
    · exact State.raise_tx_quiet (s := s.popFrame e) hquiet

end Sys2Proof.Machine
end

section
/-! PROOFS. The driven outputs by the table of 10 R174, with the permission of 04 R75 spelled out in demand states. -/

namespace Sys2Proof.Machine

/-- Outside ACTIVE no demand state is HELD or CHANGING; in ACTIVE these two open the permission (04 R59, R75). -/
theorem permission_eq (active : Bool) (r : DemandRec) :
    permission active r = (active && (demandState true r == .held || demandState true r == .changing)) := by
  cases active with
  | false => exact permission_inactive r
  | true =>
    unfold permission
    cases demandState true r <;> rfl

/-- The driven values while the part runs (10 R174). -/
theorem State.driven_running {s : State} (h : s.power = .running) : s.driven =
    { chillValve := s.staged.chillValve && s.permitted .chill && !(s.mode.mode == .starting) && !(s.thermal.probe == .fault)
      heater := s.staged.heater && s.permitted .heat && !(s.mode.mode == .starting) && !(s.thermal.probe == .fault)
      gasValve := s.staged.gasValve && s.permitted .gas && !(s.mode.mode == .starting) && !s.pressure.leak
      reliefValve := s.relief
      frontValve := s.staged.frontValve && s.pouringOn .front && !(s.mode.mode == .starting)
      fillValve := s.staged.fillValve && s.pouringOn .fill && !(s.mode.mode == .starting) } :=
  if_neg (not_not_intro h)

/-- Settles O49: the table row by row, each permission being that of its resource's demand state. -/
theorem outputsAreDrivenByStagingAndForcing : Obligations.OutputsAreDrivenByStagingAndForcing := by
  intro s hrun
  have hpermitted : ∀ x, s.permitted x = (s.mode.mode == .active &&
      (demandState true (s.demand.get x) == .held || demandState true (s.demand.get x) == .changing)) :=
    fun x => permission_eq s.active (s.demand.get x)
  simp only [State.driven_running hrun, hpermitted, State.pouringOn, State.relief, bne, and_self]

end Sys2Proof.Machine
end

section
/-! PROOFS. Inputs that settle: what one alone hands on, and HANDLE and FILL-BUTTON together (09 R155 to R158, 10 R170 to R172;
log 20). -/

namespace Sys2Proof.Machine

/-! ### One input alone (10 R170, R171) -/

/-- A change of one input handed to its owner; the pour requests come after. -/
def State.handOne (s : State) (x : Input) (k : Taken) : State :=
  match x with
  | .kegPresent => s.kegPresentTaken k
  | .coupled => s.coupledTaken k
  | .leak => s.leakTaken k
  | .drip => s.dripTaken k
  | .handle => s.handleTaken k
  | .fillButton => s

/-- The request an assertion of one input makes; none in STARTING (09 R155). -/
def State.requestsOf (s : State) (x : Input) : List PourRequest :=
  if s.mode.mode = .starting then []
  else
    match x with
    | .handle => [⟨.front, .handle, none, false⟩]
    | .fillButton => [⟨.fill, .portion, some s.cfg.portion, false⟩]
    | _ => []

section
variable (s : State)

@[simp] theorem State.kegPresentTaken_nothing : s.kegPresentTaken .nothing = s := rfl
@[simp] theorem State.coupledTaken_nothing : s.coupledTaken .nothing = s := rfl
@[simp] theorem State.leakTaken_nothing : s.leakTaken .nothing = s := rfl
@[simp] theorem State.dripTaken_nothing : s.dripTaken .nothing = s := rfl
@[simp] theorem State.handleTaken_nothing : s.handleTaken .nothing = s := rfl

@[simp] theorem State.handOne_nothing (x : Input) : s.handOne x .nothing = s := by cases x <;> rfl

/-- Of one input that settles, its own change is all that is handed on. -/
theorem State.handOn_settledAt (x : Input) :
    State.handOn s (settledAt s x) = (settledAt s x).handOne x (takenOf s (settledAt s x) x) := by
  have hother : ∀ y, y ≠ x → takenOf s (settledAt s x) y = .nothing := fun y => takenOf_settledAt_other s
  cases x <;> simp [State.handOn, State.handOne, hother]

theorem inputRequests_settledAt (x : Input) :
    inputRequests s (settledAt s x) = if takenOf s (settledAt s x) x = .assertion then s.requestsOf x else [] := by
  have hother : ∀ y, y ≠ x → takenOf s (settledAt s x) y = .nothing := fun y => takenOf_settledAt_other s
  unfold inputRequests State.requestsOf
  by_cases hstarting : s.mode.mode = .starting
  · simp [hstarting]
  · cases x <;> simp [hstarting, hother]

end

section
variable {s : State} {x : Input}

theorem exec_inputSettled_one (hrun : s.power = .running) (hmoved : (s.inputs.get x).settled ≠ some (s.inputs.get x).pin) :
    exec (.inputSettled [x]) s = .next (((settledAt s x).handOne x (takenOf s (settledAt s x) x)).arbitrate
      (if takenOf s (settledAt s x) x = .assertion then s.requestsOf x else [])) := by
  change execInputSettled [x] s = _
  rw [execInputSettled, whileRunning_on _ _ hrun]
  dsimp only
  rw [State.settleAll_one hmoved, s.handOn_settledAt x, inputRequests_settledAt s x]

theorem exec_inputSettled_nothing (hrun : s.power = .running)
    (hmoved : (s.inputs.get x).settled ≠ some (s.inputs.get x).pin) (htaken : takenOf s (settledAt s x) x = .nothing) :
    exec (.inputSettled [x]) s = .next (settledAt s x) := by
  rw [exec_inputSettled_one hrun hmoved, htaken, State.handOne_nothing]
  rfl

theorem exec_inputSettled_deasserts (h : Deasserts s x) :
    exec (.inputSettled [x]) s = .next ((settledAt s x).handOne x .deassertion) := by
  have htaken := (takenOf_of_deasserts h).1
  obtain ⟨hrun, -, -, hmoved⟩ := h
  rw [exec_inputSettled_one hrun hmoved, htaken]
  rfl

theorem exec_inputSettled_asserts (h : Asserts s x) :
    exec (.inputSettled [x]) s = .next (((settledAt s x).handOne x .assertion).arbitrate (s.requestsOf x)) := by
  have htaken := takenOf_of_asserts h
  obtain ⟨hrun, -, -, hmoved, -⟩ := h
  rw [exec_inputSettled_one hrun hmoved, htaken, if_pos rfl]

/-- An input other than the two outlets makes no request. -/
theorem State.requestsOf_other (hhandle : x ≠ .handle) (hfill : x ≠ .fillButton) : s.requestsOf x = [] := by
  unfold State.requestsOf
  split_ifs
  · rfl
  · cases x with
    | handle => exact absurd rfl hhandle
    | fillButton => exact absurd rfl hfill
    | kegPresent | coupled | leak | drip => rfl

end

/-- Settles O11: the timer of the pin, and a settling whose change is not taken. -/
theorem pinsSettle : Obligations.PinsSettle := by
  refine ⟨fun _ _ _ => rfl, fun x s hrun hmoved hkept => exec_inputSettled_nothing hrun hmoved ?_⟩
  rcases hkept with hload | hsame
  · exact if_pos hload
  · exact takenOf_eq_nothing ((s.asserted_settledAt x).trans hsame.symm)

/-! ### Pour requests (09 R156 to R158) -/

section
variable (s : State)

theorem State.asserted_settledAt_other {x y : Input} (h : y ≠ x) : (settledAt s x).asserted y = s.asserted y := by
  simp only [State.asserted, Inputs.get_set_other _ _ h]

/-- HANDLE and FILL-BUTTON are no preconditions of a pour. -/
theorem State.pourRefusal_settledAt {x : Input} (hkeg : .kegPresent ≠ x) (hcoupled : .coupled ≠ x) :
    (settledAt s x).pourRefusal = s.pourRefusal := by
  have hready : (settledAt s x).kegReady = s.kegReady := by
    rw [State.kegReady, s.asserted_settledAt_other hkeg, s.asserted_settledAt_other hcoupled, State.kegReady]
  unfold State.pourRefusal
  rw [hready]

theorem State.pourRefusal_refusePour (r : PourRefusal) : (s.refusePour r).pourRefusal = s.pourRefusal := rfl

/-- A request presented alone, that a pour in progress or a precondition refuses (09 R156, R157). -/
theorem State.arbitrate_refused (q : PourRequest) {r : PourRefusal} (h : s.refusalAlone = some r) :
    s.arbitrate [q] = s.refusePour r := by
  unfold State.refusalAlone at h
  split_ifs at h with hp
  · cases h
    simp [State.arbitrate, hp]
  · simp [State.arbitrate, State.checkPour, hp, h]

/-- A request presented alone, that nothing refuses (09 R158). -/
theorem State.arbitrate_accepted (q : PourRequest) (h : s.refusalAlone = none) : s.arbitrate [q] = s.acceptPour q := by
  unfold State.refusalAlone at h
  split_ifs at h with hp
  simp [State.arbitrate, State.checkPour, hp, h]

/-- What an accepted request leaves: the pour begun, its outlet staged open (09 R158, R159). -/
theorem State.acceptPour_begins (q : PourRequest) :
    (s.acceptPour q).pour = s.pour.accept q ∧ (s.acceptPour q).staged.frontValve = (q.outlet == .front) ∧
      (s.acceptPour q).staged.fillValve = (q.outlet == .fill) := by
  simp [State.acceptPour, State.pressureEval, State.pressureEvalFrom_staged, Outputs.stageOutlet]

end

/-- The request of HANDLE. -/
abbrev handleRequest : PourRequest := ⟨.front, .handle, none, false⟩

/-- The request of FILL-BUTTON. -/
abbrev buttonRequest (portion : Nat) : PourRequest := ⟨.fill, .portion, some portion, false⟩

/-- One more free value drawn (log 20). -/
abbrev State.drawn (s : State) : State := { s with draws := s.draws + 1 }

section
variable {u : State}

/-- FRONT wins over FILL, which is refused BUSY before FRONT is accepted or after it (09 R156; log 20). -/
theorem State.arbitrate_frontWins (hidle : u.pour.state = .idle) (hnone : u.pourRefusal = none) (portion : Nat) :
    u.arbitrate [handleRequest, buttonRequest portion] = (u.drawn.refusePour .busy).acceptPour handleRequest ∨
      u.arbitrate [handleRequest, buttonRequest portion] = (u.drawn.acceptPour handleRequest).refusePour .busy := by
  have hrest : u.pour.inProgress = false := Bool.eq_false_iff.mpr fun hp => (Pour.inProgress_iff _).mp hp hidle
  have hchecked : ∀ v : State, v.pourRefusal = none → v.checkPour handleRequest = v.acceptPour handleRequest :=
    fun v hv => by rw [State.checkPour, hv]
  have hdrawn : u.drawn.pourRefusal = none := hnone
  rw [State.arbitrate, hrest, if_neg Bool.false_ne_true, if_neg (by simp)]
  dsimp only
  split_ifs
  · exact .inl (hchecked _ ((u.drawn.pourRefusal_refusePour .busy).trans hdrawn))
  · exact .inr (congrArg (State.refusePour · .busy) (hchecked _ hdrawn))

/-- A HANDLE request accepted outside STARTING: POURING on FRONT, which is driven open (09 R158, 10 R174). -/
theorem State.acceptPour_front (hrun : u.power = .running) (hmode : u.mode.mode ≠ .starting) :
    (u.acceptPour handleRequest).pour = u.pour.accept handleRequest ∧
      (u.acceptPour handleRequest).driven.frontValve = true ∧ (u.acceptPour handleRequest).driven.fillValve = false := by
  obtain ⟨hpour, hfront, hfill⟩ := u.acceptPour_begins handleRequest
  have hrun' : (u.acceptPour handleRequest).power = .running := by simpa using hrun
  refine ⟨hpour, ?_, ?_⟩
  · simp [State.driven_running hrun', State.pouringOn, hpour, hfront, hmode, Pour.accept]
  · simp [State.driven_running hrun', hfill]

/-- In either order the pour of FRONT has begun and the displaced request stands refused. -/
theorem State.arbitrate_together (hrun : u.power = .running) (hmode : u.mode.mode ≠ .starting) (hidle : u.pour.state = .idle)
    (hnone : u.pourRefusal = none) (portion : Nat) :
    let t := u.arbitrate [handleRequest, buttonRequest portion]
    t.pour.state = .pouring ∧ t.pour.record = some ⟨.front, .handle, none, 0, none⟩ ∧ t.driven.frontValve = true ∧
      t.driven.fillValve = false ∧ t.keg = { u.keg with lastRefusal := some .busy } ∧ t.notice.flags.getLsbD 12 = true := by
  have hraised : ∀ v : State, (v.refusePour .busy).notice.flags.getLsbD 12 = true := fun v => by
    rw [State.refusePour, State.raise_notice, Notice.raised_flags]
    simp [Flag.mask, Flag.bit]
  rcases State.arbitrate_frontWins hidle hnone portion with hbefore | hafter
  · rw [hbefore]
    obtain ⟨hpour, hfront, hfill⟩ := State.acceptPour_front (u := u.drawn.refusePour .busy) hrun hmode
    exact ⟨by rw [hpour]; rfl, by rw [hpour]; rfl, hfront, hfill, by simp [State.refusePour],
      State.pressureEval_flags _ 12 (hraised u.drawn)⟩
  · rw [hafter]
    obtain ⟨hpour, hfront, hfill⟩ := State.acceptPour_front (u := u.drawn) hrun hmode
    refine ⟨congrArg Pour.state hpour, congrArg Pour.record hpour, hfront, hfill, ?_, hraised _⟩
    simp [State.refusePour]

end

/-! ### HANDLE and FILL-BUTTON together (10 R170, R171) -/

section
variable {s : State}

theorem takenOf_congr {t u : State} {x : Input} (h : t.asserted x = u.asserted x) : takenOf s t x = takenOf s u x := by
  rw [takenOf, takenOf, h]

/-- The state with both settled at their pins. -/
abbrev State.outletsSettled (s : State) : State := settledAt (settledAt s .handle) .fillButton

theorem exec_outletsSettled (hhandle : Asserts s .handle) (hfill : Asserts s .fillButton) (hmode : s.mode.mode ≠ .starting) :
    exec (.inputSettled [.handle, .fillButton]) s =
      .next (s.outletsSettled.arbitrate [handleRequest, buttonRequest s.cfg.portion]) := by
  have hhandleTaken : takenOf s s.outletsSettled .handle = .assertion :=
    (takenOf_congr (State.asserted_settledAt_other _ (by decide))).trans (takenOf_of_asserts hhandle)
  have hfillTaken : takenOf s s.outletsSettled .fillButton = .assertion :=
    (takenOf_congr ((State.asserted_settledAt _ _).trans (s.asserted_settledAt .fillButton).symm)).trans (takenOf_of_asserts hfill)
  have hother : ∀ y, y ≠ .handle → y ≠ .fillButton → takenOf s s.outletsSettled y = .nothing := fun y h1 h2 =>
    takenOf_eq_nothing ((State.asserted_settledAt_other _ h2).trans (s.asserted_settledAt_other h1))
  obtain ⟨hrun, -, -, hhandleMoved, -⟩ := hhandle
  obtain ⟨-, -, -, hfillMoved, -⟩ := hfill
  have hsettled : s.settleAll [.handle, .fillButton] = s.outletsSettled := by
    change (s.settleAll [.handle]).settleAll [.fillButton] = _
    rw [State.settleAll_one hhandleMoved, State.settleAll_one (s := settledAt s .handle) (x := .fillButton) hfillMoved]
  have hhanded : State.handOn s s.outletsSettled = s.outletsSettled := by
    simp [State.handOn, hother, hhandleTaken, State.handleTaken]
  have hrequests : inputRequests s s.outletsSettled = [handleRequest, buttonRequest s.cfg.portion] := by
    simp [inputRequests, hhandleTaken, hfillTaken, hmode]
  change execInputSettled [.handle, .fillButton] s = _
  rw [execInputSettled, whileRunning_on _ _ hrun]
  dsimp only
  rw [hsettled, hhanded, hrequests]

/-- Both outlets are no preconditions of a pour. -/
theorem State.pourRefusal_outletsSettled : s.outletsSettled.pourRefusal = s.pourRefusal :=
  (State.pourRefusal_settledAt _ (by decide) (by decide)).trans (s.pourRefusal_settledAt (by decide) (by decide))

end

/-! ### DRIP and LEAK (08 R148, 10 R172) -/

section
variable {s : State}

theorem exec_dripAsserted (h : Asserts s .drip) :
    exec (.inputSettled [.drip]) s = .next ((settledAt s .drip).raise Flag.dripFull.mask) := by
  rw [exec_inputSettled_asserts h, State.requestsOf_other (by decide) (by decide)]
  rfl

theorem exec_leakAsserted (h : Asserts s .leak) : exec (.inputSettled [.leak]) s = .next (settledAt s .leak).leakBegin := by
  rw [exec_inputSettled_asserts h, State.requestsOf_other (by decide) (by decide)]
  rfl

/-- The leak lockout begun: LEAK raised, no gas, and no pour, mode or temperature moved. -/
theorem State.leakBegin_locks (s : State) :
    s.leakBegin.pressure.leak = true ∧ s.leakBegin.pressure.gasNeed = none ∧ s.leakBegin.staged.gasValve = false ∧
      s.leakBegin.driven.gasValve = false ∧ s.leakBegin.notice.flags.getLsbD 0 = true ∧
      s.leakBegin.notice.seen.getLsbD 0 = false ∧ s.leakBegin.pour = s.pour ∧ s.leakBegin.mode = s.mode ∧
      s.leakBegin.thermal = s.thermal ∧ s.leakBegin.keg = s.keg := by
  have hpressure := s.leakBegin_pressure
  have hstaged : s.leakBegin.staged.gasValve = s.leakBegin.pressure.gasNeed.isSome := by
    rw [s.leakBegin_eq, State.raise_staged, State.raise_pressure, State.pressureEval, State.pressureEvalFrom_staged]
  refine ⟨by rw [hpressure], by rw [hpressure], by rw [hstaged, hpressure]; rfl,
    State.driven_gasValve_leak (by rw [hpressure]), ?_, ?_, by simp, by simp, by simp, by simp⟩
  · rw [s.leakBegin_eq, State.raise_notice, Notice.raised_flags]
    simp [Flag.mask, Flag.bit]
  · rw [s.leakBegin_eq, State.raise_notice, Notice.raised_seen]
    simp [Flag.mask, Flag.bit]

theorem State.leakEnd_unlocks (s : State) :
    s.leakEnd.pressure.leak = false ∧ s.leakEnd.pour = s.pour ∧ s.leakEnd.mode = s.mode ∧
      s.leakEnd.thermal = s.thermal ∧ s.leakEnd.keg = s.keg := by
  refine ⟨?_, by simp, by simp, by simp, by simp⟩
  rw [State.leakEnd, State.pressureEval_pressure]

end

/-! ### COUPLED (07 R129, 09 R162) -/

/-- With the keg lifted or uncoupled, the keg lost and evaluated leaves what KegGone says. -/
theorem State.kegLost_kegGone {s : State} (hgone : s.kegReady = false) : KegGone s s.kegLost.pressureEval := by
  have hnoKeg : s.kegLost.kegReady = false := (State.kegReady_congr (by simp) (by simp)).trans hgone
  obtain ⟨hneed, hvalve⟩ := State.pressureEval_noKeg _ hnoKeg
  obtain ⟨hstate, hreasons, hcurrent, helapsed⟩ := (s.kegLost_openings.trans s.kegLost.pressureEval_openings).fields
  have hended : s.kegLost.pressureEval.pour = if s.pour.state = .pouring then s.pour.ended .kegLost else s.pour := by
    rw [← s.kegLost_pour]
    simp
  have hclosed : s.kegLost.pressureEval.pour.state ≠ .pouring := by
    rw [hended]
    split_ifs with h
    · simp [Pour.ended]
    · exact h
  have hkept : (s.program.pause .kegAbsent).current = s.program.current ∧
      (s.program.pause .kegAbsent).elapsed = s.program.elapsed := by
    unfold Program.pause
    split_ifs <;> exact ⟨rfl, rfl⟩
  obtain ⟨hfront, hfill⟩ := State.driven_outlets_closed _ hclosed
  refine ⟨fun h => by rw [hended, if_pos h]; rfl, fun h => by rw [hended, if_neg h], fun h => ?_, fun h => ?_,
    hcurrent.trans hkept.1, helapsed.trans hkept.2, hneed, State.driven_gasValve_closed _ hvalve, hfront, hfill, by simp, by simp,
    by simp⟩
  · rw [hstate, hreasons, Program.pause_underWay h]
    exact ⟨rfl, rfl⟩
  · rw [hstate, hreasons, Program.pause_idle h]
    exact ⟨rfl, rfl⟩

section
variable {s : State}

theorem exec_coupledDeasserted (h : Deasserts s .coupled) :
    exec (.inputSettled [.coupled]) s = .next (settledAt s .coupled).kegLost.pressureEval ∧
      KegGone s (settledAt s .coupled).kegLost.pressureEval := by
  have hgone : (settledAt s .coupled).kegReady = false := by
    rw [State.kegReady, (takenOf_of_deasserts h).2, Bool.and_false]
  exact ⟨exec_inputSettled_deasserts h, State.kegLost_kegGone hgone⟩

/-! ### HANDLE released (09 R162) -/

theorem exec_handleReleased (h : Deasserts s .handle) : exec (.inputSettled [.handle]) s = .next
    (if s.pour.record.map OpenPour.kind = some .handle then (settledAt s .handle).endPour .release
      else settledAt s .handle) :=
  exec_inputSettled_deasserts h

/-! ### A request of one outlet's input (09 R155 to R158) -/

section
variable {x : Input} (h : Asserts s x) (houtlet : x = .handle ∨ x = .fillButton)
include h houtlet

theorem exec_outletAsserted : exec (.inputSettled [x]) s = .next ((settledAt s x).arbitrate (s.requestsOf x)) := by
  rw [exec_inputSettled_asserts h]
  rcases houtlet with rfl | rfl <;> rfl

theorem exec_request_starting (hstarting : s.mode.mode = .starting) :
    exec (.inputSettled [x]) s = .next (settledAt s x) := by
  have hnone : s.requestsOf x = [] := if_pos hstarting
  rw [exec_outletAsserted h houtlet, hnone]
  rfl

omit h in
theorem State.refusalAlone_settledAt : (settledAt s x).refusalAlone = s.refusalAlone := by
  have hsame : (settledAt s x).pourRefusal = s.pourRefusal := by
    rcases houtlet with rfl | rfl <;> exact s.pourRefusal_settledAt (by decide) (by decide)
  rw [State.refusalAlone, hsame, State.refusalAlone]

section
variable {o : Outlet} {k : PourKind} {portion : Option Nat} (hq : s.requestsOf x = [⟨o, k, portion, false⟩])
include hq

theorem exec_request_refused {r : PourRefusal} (hrefused : s.refusalAlone = some r) :
    ∃ tx : Tx, exec (.inputSettled [x]) s = .next { settledAt s x with
      keg := { s.keg with lastRefusal := some r }, notice := s.notice.raised 0x1000, tx := tx } := by
  rw [exec_outletAsserted h houtlet, hq, State.arbitrate_refused _ _ ((State.refusalAlone_settledAt houtlet).trans hrefused)]
  exact ⟨_, rfl⟩

theorem exec_request_accepted (hnone : s.refusalAlone = none) :
    exec (.inputSettled [x]) s = .next (State.pressureEval (pourBegun (settledAt s x) o k portion)) := by
  rw [exec_outletAsserted h houtlet, hq, State.arbitrate_accepted _ _ ((State.refusalAlone_settledAt houtlet).trans hnone)]
  cases o <;> rfl

end
end
end

/-- Settles O12: each taken change by its owner, and the requests of the outlets by the arbiter. -/
theorem takenInputsReachTheirOwners : Obligations.TakenInputsReachTheirOwners := by
  refine ⟨fun s hrun hload => ⟨fun hclear hmoved hpin => ?_, fun hclear hmoved hpin => ?_, fun hasserted hmoved => ?_⟩,
    fun s hrun hload hmode hidle hclear hmoved hpin hclear' hmoved' hpin' hnone => ?_, fun s => ?_,
    fun s => ⟨fun h => ⟨fun hpouring hkind => ?_, fun hother => ?_⟩, fun x hx h => ?_, fun h => ?_, fun h => ?_⟩⟩
  · exact ⟨_, exec_dripAsserted ⟨hrun, hload, hclear, hmoved, hpin⟩, rfl, rfl⟩
  · exact ⟨_, exec_leakAsserted ⟨hrun, hload, hclear, hmoved, hpin⟩, State.leakBegin_locks _⟩
  · exact ⟨_, exec_inputSettled_deasserts ⟨hrun, hload, hasserted, hmoved⟩, State.leakEnd_unlocks _⟩
  · exact ⟨_, exec_outletsSettled ⟨hrun, hload, hclear, hmoved, hpin⟩ ⟨hrun, hload, hclear', hmoved', hpin'⟩ hmode,
      State.arbitrate_together (u := s.outletsSettled) hrun hmode hidle (State.pourRefusal_outletsSettled.trans hnone) _⟩
  · intro alone cool firm inPlace
    have halone : ∀ x o k portion, x = .handle ∨ x = .fillButton →
        (s.mode.mode ≠ .starting → s.requestsOf x = [⟨o, k, portion, false⟩]) → alone x o k portion := by
      intro x o k portion houtlet hq h
      refine ⟨exec_request_starting h houtlet, fun hmode => ⟨fun hbusy => ?_, fun r hidle hr => ?_, fun hidle hnone => ?_⟩⟩
      · exact exec_request_refused h houtlet (hq hmode) (s.refusalAlone_busy hbusy)
      · exact exec_request_refused h houtlet (hq hmode) ((s.refusalAlone_idle hidle).trans hr)
      · exact exec_request_accepted h houtlet (hq hmode) ((s.refusalAlone_idle hidle).trans hnone)
    rw [s.pourRefusal_eq]
    refine ⟨halone _ _ _ _ (.inl rfl) fun hmode => if_neg hmode, halone _ _ _ _ (.inr rfl) fun hmode => if_neg hmode,
      fun hphase => if_neg hphase, fun hphase hcoupled => ?_, fun hphase hcoupled hcool => ?_,
      fun hphase hcoupled hcool hfirm => ?_, fun hphase hcoupled hcool hfirm => ?_⟩
    · rw [if_pos hphase, if_neg hcoupled]
    · rw [if_pos hphase, if_pos hcoupled, if_neg hcool]
    · rw [if_pos hphase, if_pos hcoupled, if_pos hcool, if_neg hfirm]
    · rw [if_pos hphase, if_pos hcoupled, if_pos hcool, if_pos hfirm]
  · rw [exec_handleReleased h, if_pos hkind, State.endPour_pouring (s := settledAt s .handle) hpouring]
    rfl
  · rw [exec_handleReleased h]
    split_ifs with hkind
    · rw [State.endPour_other (s := settledAt s .handle) (hother.resolve_right (not_not_intro hkind))]
    · rfl
  · rw [exec_inputSettled_deasserts h]
    rcases hx with rfl | rfl <;> rfl
  · rw [exec_inputSettled_asserts h, State.requestsOf_other (by decide) (by decide)]
    rfl
  · obtain ⟨hexec, hgone⟩ := exec_coupledDeasserted h
    exact ⟨_, hexec, hgone, by simp, by simp, by simp⟩

end Sys2Proof.Machine
end

section
/-! PROOFS. The transmit queue through the operations of the station that queue or withdraw no ANSWER (01 R17 to R21): each moves it
by the owners' operations alone. -/

namespace Sys2Proof.Machine

/-! ### The owners' operations, one after another -/

/-- The queue has moved by the owners' operations on frames other than an ANSWER, one after another: a frame queued, entries
withdrawn, QUEUED entries withdrawn (01 R19 to R21, 04 R73). -/
inductive OwnersMoved (tx : Tx) : Tx → Prop
  | refl : OwnersMoved tx tx
  | enqueue {u : Tx} {f : TxFrame} (h : OwnersMoved tx u) (hf : f.isAnswer = false) : OwnersMoved tx (u.enqueue f)
  | withdraw {u : Tx} {p : TxFrame → Bool} (h : OwnersMoved tx u) (hp : ∀ body, p (.answer body) = false) :
      OwnersMoved tx (u.withdraw p)
  | withdrawQueued {u : Tx} {p : TxFrame → Bool} (h : OwnersMoved tx u) (hp : ∀ body, p (.answer body) = false) :
      OwnersMoved tx (u.withdrawQueued p)

@[simp] theorem ownersMoved_self (tx : Tx) : OwnersMoved tx tx := .refl

/-! ### What such a move leaves -/

theorem Tx.answers_enqueue (tx : Tx) (f : TxFrame) : (tx.enqueue f).answers = tx.answers + if f.isAnswer then 1 else 0 := by
  rw [Tx.answers, ((tx.held_enqueue f).filter _).length_eq, List.filter_cons]
  split_ifs <;> simp [Tx.answers]

/-- A sort that has no ANSWER in it leaves every ANSWER. -/
theorem filter_answers {p : TxFrame → Bool} (hp : ∀ body, p (.answer body) = false) (l : List TxFrame) :
    (l.filter (fun f => !p f)).filter TxFrame.isAnswer = l.filter TxFrame.isAnswer := by
  rw [List.filter_filter]
  refine List.filter_congr fun f _ => ?_
  cases f with
  | answer body => simp [hp]
  | _ => rfl

theorem Tx.answers_withdraw (tx : Tx) {p : TxFrame → Bool} (hp : ∀ body, p (.answer body) = false) :
    (tx.withdraw p).answers = tx.answers := by
  rw [Tx.answers, Tx.held_withdraw, filter_answers hp, Tx.answers]

theorem Tx.answers_withdrawQueued (tx : Tx) {p : TxFrame → Bool} (hp : ∀ body, p (.answer body) = false) :
    (tx.withdrawQueued p).answers = tx.answers := by
  have hqueue : ((tx.withdrawQueued p).queue.map TxEntry.frame) = (tx.queue.map TxEntry.frame).filter (fun f => !p f) := by
    simp [Tx.withdrawQueued, List.filter_map, Function.comp_def]
  have hflying : (tx.withdrawQueued p).flying = tx.flying := rfl
  rw [Tx.answers, Tx.held, hqueue, hflying, List.filter_append, filter_answers hp, ← List.filter_append, Tx.answers, Tx.held]

theorem answersStand_withdraw (tx : Tx) {p : TxFrame → Bool} (hp : ∀ body, p (.answer body) = false) :
    answersStand (tx.withdraw p) = answersStand tx := by
  unfold answersStand Tx.withdraw
  cases tx.inFlight with
  | none => rfl
  | some f => cases hf : f.entry.frame <;> simp [hf, hp, TxFrame.isAnswer]

section
variable {tx u : Tx} (h : OwnersMoved tx u)
include h

theorem OwnersMoved.answers : u.answers = tx.answers := by
  induction h with
  | refl => rfl
  | enqueue _ hf ih => rw [Tx.answers_enqueue, hf, ih]; rfl
  | withdraw _ hp ih => rw [Tx.answers_withdraw _ hp, ih]
  | withdrawQueued _ hp ih => rw [Tx.answers_withdrawQueued _ hp, ih]

theorem OwnersMoved.stand : answersStand u = answersStand tx := by
  induction h with
  | refl => rfl
  | enqueue _ _ ih | withdrawQueued _ _ ih => exact ih
  | withdraw _ hp ih => rw [answersStand_withdraw _ hp, ih]

theorem OwnersMoved.ordered (hordered : TxOrdered tx.queue) : TxOrdered u.queue := by
  induction h with
  | refl => exact hordered
  | enqueue _ _ ih => exact Tx.enqueue_ordered _ _ ih
  | withdraw _ _ ih => exact Tx.withdraw_ordered _ _ ih
  | withdrawQueued _ _ ih => exact filter_ordered _ _ ih

/-! ### The owners' operations (01 R19 to R21) -/

theorem OwnersMoved.replace {p : TxFrame → Bool} {f : TxFrame} (hp : ∀ body, p (.answer body) = false)
    (hf : f.isAnswer = false) : OwnersMoved tx (u.replace p f) := (h.withdraw hp).enqueue hf

theorem OwnersMoved.request {p : TxFrame → Bool} {f : TxFrame} (hf : f.isAnswer = false) :
    OwnersMoved tx (u.request p f) := by
  unfold Tx.request
  split_ifs
  · exact h
  · exact h.enqueue hf

theorem OwnersMoved.askNotice : OwnersMoved tx u.askNotice := by
  unfold Tx.askNotice
  split_ifs
  · exact h
  · exact h.replace (fun _ => rfl) rfl
  · exact h.enqueue rfl

@[simp] theorem OwnersMoved.askSync : OwnersMoved tx u.askSync := h.request rfl

@[simp] theorem OwnersMoved.askAnnounce : OwnersMoved tx u.askAnnounce := h.request rfl

theorem OwnersMoved.putYieldAll : OwnersMoved tx u.putYieldAll := h.replace (fun _ => rfl) rfl

theorem OwnersMoved.askYieldAll : OwnersMoved tx u.askYieldAll := by
  unfold Tx.askYieldAll
  split_ifs
  · exact h
  · exact h.putYieldAll

theorem OwnersMoved.putShare (x : Resource) (k : PendKind) : OwnersMoved tx (u.putShare x k) := by
  unfold Tx.putShare
  split_ifs
  · exact h
  · exact h.replace (fun _ => rfl) (by cases k <;> rfl)

theorem OwnersMoved.update {p : TxFrame → Bool} {f : TxFrame} (hp : ∀ body, p (.answer body) = false)
    (hf : f.isAnswer = false) : OwnersMoved tx (u.update p f) := by
  unfold Tx.update
  split_ifs
  · exact h
  · exact h.replace hp hf
  · exact h

end

/-! ### One demand record and the queue (04 R60 to R71) -/

section
variable {tx : Tx} {d : DemandTx} (h : OwnersMoved tx d.tx) (active : Bool) (x : Resource)
include h

@[simp] theorem OwnersMoved.ask (k : PendKind) : OwnersMoved tx (d.ask x k).tx := h.putShare x k

@[simp] theorem OwnersMoved.drop : OwnersMoved tx (d.drop x).tx := by
  unfold DemandTx.drop
  dsimp only
  split
  · exact h.withdraw fun _ => rfl
  · exact h

@[simp] theorem OwnersMoved.refresh : OwnersMoved tx (d.refresh x).tx := by
  unfold DemandTx.refresh
  split
  · exact h.update (fun _ => rfl) rfl
  · exact h

@[simp] theorem OwnersMoved.reconcile : OwnersMoved tx (d.reconcile active x).tx := by
  unfold DemandTx.reconcile
  split_ifs
  · split <;> simp [h]
  · exact h

theorem OwnersMoved.needAppears (n : Need) : OwnersMoved tx (d.needAppears x n).tx := by
  unfold DemandTx.needAppears
  dsimp only
  split <;> (try split_ifs) <;> simp [h]

theorem OwnersMoved.needDisappears : OwnersMoved tx (d.needDisappears x).tx := by
  unfold DemandTx.needDisappears
  dsimp only
  repeat' split
  all_goals simp [h]

theorem OwnersMoved.needChanges (n : Need) : OwnersMoved tx (d.needChanges x n).tx := by
  unfold DemandTx.needChanges
  dsimp only
  repeat' split
  all_goals simp [h]

theorem OwnersMoved.publishNeed (need : Option Need) : OwnersMoved tx (d.publish active x need).tx := by
  unfold DemandTx.publish
  dsimp only
  split_ifs
  · exact h
  · exact h
  · split
    · exact h.needAppears x _
    · exact h.needDisappears x
    · exact h.needChanges x _
    · exact h

@[simp] theorem OwnersMoved.dropExpired : OwnersMoved tx (d.dropExpired x).tx := by
  unfold DemandTx.dropExpired
  split <;> (try split_ifs) <;> simp [h]

@[simp] theorem OwnersMoved.resend (free : Nat) : OwnersMoved tx (d.resend active x free).tx := by
  unfold DemandTx.resend
  split
  · split_ifs <;> simp [h]
  · exact h

@[simp] theorem OwnersMoved.note (rep : Report) : OwnersMoved tx (d.note active x rep).tx := by
  cases rep <;> simp [DemandTx.note, h]

theorem OwnersMoved.finish (own : Option PendKind) (rep : Option Report) : OwnersMoved tx (d.finish active x own rep).tx := by
  have hbrought : ∀ u : DemandTx, OwnersMoved tx u.tx → ∀ b : Bool,
      OwnersMoved tx (if b then u.reconcile active x else u).tx := by
    intro u hu b
    cases b
    · exact hu
    · exact hu.reconcile active x
  unfold DemandTx.finish
  refine hbrought _ ?_ _
  cases own <;> cases rep <;> simp [h]

theorem OwnersMoved.frameLost (k : PendKind) : OwnersMoved tx (d.frameLost active x k).tx := by
  unfold DemandTx.frameLost
  split_ifs <;> simp [h]

theorem OwnersMoved.retry : OwnersMoved tx (d.retry x).tx := by
  unfold DemandTx.retry
  split <;> simp [h]

theorem OwnersMoved.askRenew : OwnersMoved tx (d.askRenew x).tx := by
  unfold DemandTx.askRenew
  split <;> simp [h]

theorem OwnersMoved.lapse : OwnersMoved tx (d.lapse x).tx := by
  unfold DemandTx.lapse
  dsimp only
  split <;> simp [h]

end

/-! ### The lease monitor and the queue (04 R72, R73) -/

section
variable {tx : Tx} {l : LeaseTx} (h : OwnersMoved tx l.tx) (x : Resource)
include h

theorem OwnersMoved.report (rep : LeaseReport) : OwnersMoved tx (l.report x rep).tx := by
  have haged : OwnersMoved tx (l.aged x rep).tx := h
  rw [LeaseTx.report_eq]
  obtain hnone | ⟨_, _, _, -, -, -, -, hends⟩ | ⟨_, _, -, -, -, hends⟩ := (l.aged x rep).reportExpiry_cases x rep
  · rwa [hnone]
  · rw [hends]
    exact haged.withdraw fun _ => rfl
  · rw [hends]
    exact haged.withdrawQueued fun _ => rfl

theorem OwnersMoved.queueExpire (e : Entry) : OwnersMoved tx (l.queueExpire x e).tx := h.request rfl

end

/-! ### The station's operations -/

section
variable {tx : Tx} {s : State} (h : OwnersMoved tx s.tx)
include h

/-! ### Notices and evaluations (06 R107, 08 R142, 10 R176) -/

@[simp] theorem OwnersMoved.raise (m : Word) : OwnersMoved tx (s.raise m).tx := by
  unfold State.raise
  dsimp only
  split_ifs
  · exact h.askNotice
  · exact h

@[simp] theorem OwnersMoved.publish (x : Resource) (n : Option Need) : OwnersMoved tx (s.publish x n).tx :=
  OwnersMoved.publishNeed (d := ⟨_, s.tx⟩) h _ _ _

theorem OwnersMoved.publishThermal : OwnersMoved tx s.publishThermal.tx := by
  unfold State.publishThermal
  split_ifs <;> simp [h]

@[simp] theorem OwnersMoved.thermalEval : OwnersMoved tx s.thermalEval.tx := by
  unfold State.thermalEval
  exact OwnersMoved.publishThermal (by exact h)

@[simp] theorem OwnersMoved.pressureEvalFrom (before : Bool) : OwnersMoved tx (s.pressureEvalFrom before).tx := by
  simp [State.pressureEvalFrom, h]

@[simp] theorem OwnersMoved.pressureEval : OwnersMoved tx s.pressureEval.tx := h.pressureEvalFrom _

@[simp] theorem OwnersMoved.pressureSample (v : Int) : OwnersMoved tx (s.pressureSample v).tx := by
  simp [State.pressureSample, h]

@[simp] theorem OwnersMoved.leakBegin : OwnersMoved tx s.leakBegin.tx := by simp [State.leakBegin, h]

@[simp] theorem OwnersMoved.leakEnd : OwnersMoved tx s.leakEnd.tx := by simp [State.leakEnd, h]

/-! ### The program (07) -/

@[simp] theorem OwnersMoved.endStep : OwnersMoved tx s.endStep.tx :=
  (OwnersMoved.raise (by exact h) _).thermalEval.pressureEval

@[simp] theorem OwnersMoved.dueTest : OwnersMoved tx s.dueTest.tx := by simp [State.dueTest, h]

@[simp] theorem OwnersMoved.minute : OwnersMoved tx s.minute.tx := by
  unfold State.minute
  dsimp only
  split_ifs <;> simp [h]

@[simp] theorem OwnersMoved.hour : OwnersMoved tx s.hour.tx := by
  unfold State.hour
  dsimp only
  split_ifs <;> simp [h]

@[simp] theorem OwnersMoved.pauseFor (r : PauseReason) : OwnersMoved tx (s.pauseFor r).tx := by
  unfold State.pauseFor
  split_ifs <;> simp [h]

@[simp] theorem OwnersMoved.probeSample (v : Int) : OwnersMoved tx (s.probeSample v).tx := by
  unfold State.probeSample
  dsimp only
  refine OwnersMoved.thermalEval ?_
  split_ifs <;> simp [h]

/-! ### The pour (09) -/

@[simp] theorem OwnersMoved.refusePour (r : PourRefusal) : OwnersMoved tx (s.refusePour r).tx := by
  simp [State.refusePour, h]

@[simp] theorem OwnersMoved.checkPour (q : PourRequest) : OwnersMoved tx (s.checkPour q).tx := by
  unfold State.checkPour
  split
  · exact h.refusePour _
  · exact OwnersMoved.pressureEval (by exact h)

@[simp] theorem OwnersMoved.arbitrate (l : List PourRequest) : OwnersMoved tx (s.arbitrate l).tx := by
  unfold State.arbitrate
  split
  · exact h
  · split_ifs <;> simp [h]

@[simp] theorem OwnersMoved.endPour (r : EndReason) : OwnersMoved tx (s.endPour r).tx := by
  unfold State.endPour
  split_ifs <;> simp [h]

@[simp] theorem OwnersMoved.meterOne : OwnersMoved tx s.meterOne.tx := by
  unfold State.meterOne
  dsimp only
  split <;> simp [h]

@[simp] theorem OwnersMoved.meterMany (n : Nat) : OwnersMoved tx (State.meterMany n s).tx := by
  induction n generalizing s with
  | zero => exact h
  | succ n ih => exact ih h.meterOne

@[simp] theorem OwnersMoved.pulse : OwnersMoved tx s.pulse.tx := by
  unfold State.pulse
  dsimp only
  split_ifs <;> simp [h]

/-! ### Modes entered and left (05 R80 to R98) -/

@[simp] theorem OwnersMoved.enterMode (m : Mode) : OwnersMoved tx (s.enterMode m).tx := h.askAnnounce

@[simp] theorem OwnersMoved.leaveActive (sh : Share) : OwnersMoved tx (s.leaveActive sh).tx :=
  (h.withdraw fun _ => rfl).putYieldAll

@[simp] theorem OwnersMoved.enterSync (m : Mode) : OwnersMoved tx (s.enterSync m).tx := h.askYieldAll.askSync.askAnnounce

@[simp] theorem OwnersMoved.enterDoubtful : OwnersMoved tx s.enterDoubtful.tx :=
  ((h.leaveActive _).raise _).enterSync _

@[simp] theorem OwnersMoved.giveUp : OwnersMoved tx s.giveUp.tx := by
  unfold State.giveUp
  split_ifs
  · exact h.leaveActive _
  · exact h.withdraw (p := (· == .syncAsk)) fun _ => rfl

@[simp] theorem OwnersMoved.enterVacant : OwnersMoved tx s.enterVacant.tx := (h.giveUp.enterMode _).thermalEval

@[simp] theorem OwnersMoved.enterMuted : OwnersMoved tx s.enterMuted.tx := by
  have hwithdrawn := (h.giveUp.enterMode .muted).withdraw (p := (· == .notice)) fun _ => rfl
  exact OwnersMoved.raise (by exact hwithdrawn) _

@[simp] theorem OwnersMoved.enterJoining : OwnersMoved tx s.enterJoining.tx := (h.enterSync _).thermalEval

theorem OwnersMoved.onDemand {x : Resource} {f : DemandTx → DemandTx}
    (hf : ∀ d : DemandTx, OwnersMoved tx d.tx → OwnersMoved tx (f d).tx) : OwnersMoved tx (s.onDemand x f).tx := hf _ h

@[simp] theorem OwnersMoved.becomeActive : OwnersMoved tx s.becomeActive.tx := by
  have hentered : ∀ x standing (d : DemandTx), OwnersMoved tx d.tx → OwnersMoved tx (d.enterActive x standing).tx :=
    fun x standing d hd => OwnersMoved.reconcile (d := ⟨{ d.rcd with standing := standing }, d.tx⟩) hd true x
  have hwithdrawn : OwnersMoved tx (s.tx.withdraw (· == .syncAsk)) := h.withdraw fun _ => rfl
  refine OwnersMoved.askAnnounce (OwnersMoved.onDemand (OwnersMoved.onDemand (OwnersMoved.onDemand ?_ ?_) ?_) ?_)
  · exact hwithdrawn
  all_goals exact hentered _ _

@[simp] theorem OwnersMoved.found : OwnersMoved tx s.found.tx := OwnersMoved.becomeActive (by exact h)

/-! ### The suspect mark and the sync (05 R91 to R97) -/

@[simp] theorem OwnersMoved.doubtTest : OwnersMoved tx s.doubtTest.tx := by
  unfold State.doubtTest
  split_ifs <;> simp [h]

@[simp] theorem OwnersMoved.setSuspect : OwnersMoved tx s.setSuspect.tx := by
  unfold State.setSuspect
  dsimp only
  split_ifs
  · exact h.askSync
  · exact OwnersMoved.doubtTest (by exact h)

@[simp] theorem OwnersMoved.releaseSuspect : OwnersMoved tx s.releaseSuspect.tx := by
  unfold State.releaseSuspect
  split_ifs <;> simp [h]

@[simp] theorem OwnersMoved.lineSuspect : OwnersMoved tx s.lineSuspect.tx := by
  unfold State.lineSuspect
  split_ifs <;> simp [h]

@[simp] theorem OwnersMoved.askAgain (failed : Nat) : OwnersMoved tx (s.askAgain failed).tx := h.askSync

theorem OwnersMoved.waitExpired : OwnersMoved tx s.waitExpired.tx := by
  unfold State.waitExpired
  split_ifs <;> simp [h]

@[simp] theorem OwnersMoved.answerWait : OwnersMoved tx s.answerWait.tx := by
  unfold State.answerWait
  split_ifs
  · exact h.waitExpired
  · exact h

@[simp] theorem OwnersMoved.restEnds : OwnersMoved tx s.restEnds.tx := h.askSync

@[simp] theorem OwnersMoved.restTimer : OwnersMoved tx s.restTimer.tx := by
  unfold State.restTimer
  split_ifs <;> simp [h]

@[simp] theorem OwnersMoved.announceTimer : OwnersMoved tx s.announceTimer.tx := by
  unfold State.announceTimer
  split_ifs
  · exact h.askAnnounce
  · exact h

@[simp] theorem OwnersMoved.removeSilent (a : Nat) : OwnersMoved tx (s.removeSilent a).tx := by
  unfold State.removeSilent
  split_ifs <;> simp [h]

@[simp] theorem OwnersMoved.takeSilent : OwnersMoved tx s.takeSilent.tx := by
  unfold State.takeSilent
  generalize [1, 2, 3, 4, 5, 6, 7, 8, 9, 10, 11, 12] = addresses
  induction addresses generalizing s with
  | nil => exact h
  | cons a as ih => exact ih (h.removeSilent a)

/-! ### ANNOUNCE, SYNC-ASK and SYNC-TABLE (03 R54, 05 R85 to R97) -/

theorem OwnersMoved.weighAnnounce (before : Option Nat) (r : RosterEntry) : OwnersMoved tx (s.weighAnnounce before r).tx := by
  unfold State.weighAnnounce State.compare State.heardActive
  split_ifs <;> simp [h]

@[simp] theorem OwnersMoved.announceFrame (e : RxEntry) : OwnersMoved tx (s.announceFrame e).tx := by
  unfold State.announceFrame
  dsimp only
  split
  · exact OwnersMoved.weighAnnounce (by exact h) _ _
  · exact h

@[simp] theorem OwnersMoved.syncAskFrame (e : RxEntry) : OwnersMoved tx (s.syncAskFrame e).tx := by
  unfold State.syncAskFrame
  split_ifs
  · exact ((h.enqueue rfl).enqueue rfl).enqueue rfl
  · exact h

theorem OwnersMoved.adoptFrame (body : List Byte) : OwnersMoved tx (s.adoptFrame body).tx := by
  unfold State.adoptFrame
  split
  · split_ifs
    · split
      · exact OwnersMoved.onDemand (by exact h) fun _ hd => hd.finish _ _ _ _
      · exact h
    · exact h
  · exact h

@[simp] theorem OwnersMoved.syncTableFrame (e : RxEntry) : OwnersMoved tx (s.syncTableFrame e).tx := by
  by_cases hasker : (e.body[0]?).map BitVec.toNat = some s.line.address
  · have hheard : OwnersMoved tx (s.adoptFrame e.body).tableHeard.tx := h.adoptFrame e.body
    rw [s.syncTableFrame_own e hasker]
    split_ifs
    · exact hheard.becomeActive
    · exact hheard
  · rwa [s.syncTableFrame_other e hasker]

/-! ### The share frames (03 R41 to R56) -/

theorem OwnersMoved.applyEffect (x : Resource) (own : Option PendKind) (eff : Effect) :
    OwnersMoved tx (s.applyEffect x own eff).tx :=
  OwnersMoved.onDemand (by exact OwnersMoved.report (l := ⟨s.lease, s.tx⟩) h x _) fun _ hd => hd.finish _ _ _ _

theorem OwnersMoved.shareFrame (x : Resource) (own : Option PendKind) (f : Section → Option Effect) :
    OwnersMoved tx (s.shareFrame x own f).tx := by
  unfold State.shareFrame State.ownProcessed
  split
  · exact h.applyEffect _ _ _
  · split_ifs
    · exact h.onDemand fun _ hd => hd.finish _ _ _ _
    · exact h

@[simp] theorem OwnersMoved.claimFrame (e : RxEntry) : OwnersMoved tx (s.claimFrame e).tx := by
  unfold State.claimFrame
  repeat' split
  all_goals simp [h, OwnersMoved.shareFrame]

@[simp] theorem OwnersMoved.renewFrame (e : RxEntry) : OwnersMoved tx (s.renewFrame e).tx := by
  unfold State.renewFrame
  repeat' split
  all_goals simp [h, OwnersMoved.shareFrame]

@[simp] theorem OwnersMoved.yieldFrame (e : RxEntry) : OwnersMoved tx (s.yieldFrame e).tx := by
  unfold State.yieldFrame
  repeat' split
  all_goals simp [h, OwnersMoved.shareFrame]

@[simp] theorem OwnersMoved.expireFrame (e : RxEntry) : OwnersMoved tx (s.expireFrame e).tx := by
  unfold State.expireFrame State.endOwnExpire
  repeat' split
  all_goals simp [h, OwnersMoved.shareFrame]

theorem OwnersMoved.yieldOne (x : Resource) (e : RxEntry) : OwnersMoved tx (s.yieldOne x e).tx := by
  unfold State.yieldOne
  split
  · exact h.applyEffect _ _ _
  · exact h

@[simp] theorem OwnersMoved.yieldAllFrame (e : RxEntry) : OwnersMoved tx (s.yieldAllFrame e).tx := by
  unfold State.yieldAllFrame
  split_ifs
  · exact ((h.yieldOne _ _).yieldOne _ _).yieldOne _ _
  · exact h

/-! ### The line (01 R8, R16) -/

theorem OwnersMoved.ownerLost (f : TxFrame) : OwnersMoved tx (s.ownerLost f).tx := by
  have hlost : ∀ x k, OwnersMoved tx (s.onDemand x (fun d => d.frameLost s.active x k)).tx :=
    fun x k => h.onDemand fun _ hd => hd.frameLost s.active x k
  cases f with
  | claim x => exact hlost x .claim
  | renew x => exact hlost x .renew
  | yield x => exact hlost x .yield
  | _ => exact h

@[simp] theorem OwnersMoved.judgeOwn (accepted : Bool) : OwnersMoved tx (s.judgeOwn accepted).tx := by
  unfold State.judgeOwn
  dsimp only
  split
  · split_ifs
    · exact h
    · exact OwnersMoved.ownerLost (by exact h) _
  · exact h

/-! ### The pins and the configuration load (05 R79, R80, 10 R171) -/

@[simp] theorem OwnersMoved.kegLost : OwnersMoved tx s.kegLost.tx := (h.endPour _).pauseFor _

theorem OwnersMoved.kegPresentTaken (k : Taken) : OwnersMoved tx (s.kegPresentTaken k).tx := by
  cases k with
  | nothing => exact h
  | assertion =>
    refine OwnersMoved.pressureEval ?_
    split_ifs
    · exact h.enterJoining
    · exact h
  | deassertion =>
    refine OwnersMoved.pressureEval ?_
    split_ifs
    · exact h.kegLost.enterVacant
    · exact h.kegLost

theorem OwnersMoved.coupledTaken (k : Taken) : OwnersMoved tx (s.coupledTaken k).tx := by
  cases k <;> simp [State.coupledTaken, h]

theorem OwnersMoved.leakTaken (k : Taken) : OwnersMoved tx (s.leakTaken k).tx := by
  cases k <;> simp [State.leakTaken, h]

theorem OwnersMoved.dripTaken (k : Taken) : OwnersMoved tx (s.dripTaken k).tx := by
  cases k <;> simp [State.dripTaken, h]

theorem OwnersMoved.handleTaken (k : Taken) : OwnersMoved tx (s.handleTaken k).tx := by
  cases k with
  | nothing | assertion => exact h
  | deassertion =>
    unfold State.handleTaken
    dsimp only
    split_ifs
    · exact h.endPour _
    · exact h

@[simp] theorem OwnersMoved.handOn (before : State) : OwnersMoved tx (State.handOn before s).tx :=
  ((((h.kegPresentTaken _).coupledTaken _).leakTaken _).dripTaken _).handleTaken _

theorem OwnersMoved.judgeInputs : OwnersMoved tx s.judgeInputs.tx := by
  have hkeg : OwnersMoved tx s.kegJudged.tx := by
    unfold State.kegJudged
    split_ifs <;> simp [h]
  have hleak : OwnersMoved tx s.leakJudged.tx := by
    unfold State.leakJudged
    split_ifs <;> simp [hkeg]
  exact (hleak.raise _).pressureEval

theorem OwnersMoved.leaveStarting : OwnersMoved tx s.leaveStarting.tx := by
  unfold State.leaveStarting
  dsimp only
  split_ifs
  · exact (h.enterSync _).askNotice
  · exact h.enterSync _
  · exact (h.enterMode _).thermalEval.askNotice
  · exact (h.enterMode _).thermalEval
  · exact h

@[simp] theorem OwnersMoved.configLoadEnd (read : Option WorkingCopy) :
    OwnersMoved tx ((s.takeConfig read).judgeInputs).leaveStarting.tx :=
  OwnersMoved.leaveStarting (OwnersMoved.judgeInputs (OwnersMoved.raise (by exact h) _))

/-! ### The thresholds and the second event (04 R66 to R74, 05 R78, 06 R113, 09 R163 to R166) -/

@[simp] theorem OwnersMoved.renewDue (x : Resource) : OwnersMoved tx (s.renewDue x).tx := by
  unfold State.renewDue
  split
  · split_ifs
    · exact h.onDemand fun _ hd => hd.askRenew x
    · exact h
  · exact h

@[simp] theorem OwnersMoved.lapseDue (x : Resource) : OwnersMoved tx (s.lapseDue x).tx := by
  unfold State.lapseDue
  split
  · split_ifs
    · exact h.onDemand fun _ hd => hd.lapse x
    · exact h
  · exact h

@[simp] theorem OwnersMoved.expiryDue (x : Resource) : OwnersMoved tx (s.expiryDue x).tx := by
  unfold State.expiryDue
  split
  · split
    · exact OwnersMoved.queueExpire (l := ⟨s.lease, s.tx⟩) h x _
    · exact h
  · exact h

@[simp] theorem OwnersMoved.starveDue (x : Resource) : OwnersMoved tx (s.starveDue x).tx := by
  unfold State.starveDue
  split_ifs <;> simp [h]

@[simp] theorem OwnersMoved.driftDue : OwnersMoved tx s.driftDue.tx := by
  unfold State.driftDue
  split_ifs <;> simp [h]

@[simp] theorem OwnersMoved.emptyDue : OwnersMoved tx s.emptyDue.tx := by
  unfold State.emptyDue
  dsimp only
  split_ifs
  · have hended := (h.endPour .empty).raise Flag.kegEmpty.mask
    exact OwnersMoved.pressureEval (OwnersMoved.thermalEval (by exact hended))
  · exact h

@[simp] theorem OwnersMoved.foamDue : OwnersMoved tx s.foamDue.tx := by
  unfold State.foamDue
  split_ifs <;> simp [h]

@[simp] theorem OwnersMoved.settleDue : OwnersMoved tx s.settleDue.tx := by
  unfold State.settleDue
  split_ifs <;> simp [h]

@[simp] theorem OwnersMoved.minuteEvent : OwnersMoved tx s.minuteEvent.tx := by
  unfold State.minuteEvent
  split_ifs <;> simp [h]

@[simp] theorem OwnersMoved.hourEvent : OwnersMoved tx s.hourEvent.tx := by
  unfold State.hourEvent
  split_ifs <;> simp [h]

theorem OwnersMoved.takeDue : OwnersMoved tx s.takeDue.tx := by
  have hcounts := h.minuteEvent.hourEvent.driftDue.emptyDue.foamDue.settleDue
  exact (((hcounts.starveDue .chill).starveDue .gas).starveDue .heat).takeSilent.announceTimer.answerWait.restTimer

theorem OwnersMoved.retryRequested : OwnersMoved tx s.retryRequested.tx :=
  ((h.onDemand fun _ hd => hd.retry _).onDemand fun _ hd => hd.retry _).onDemand fun _ hd => hd.retry _

@[simp] theorem OwnersMoved.second (probe pressure : Int) : OwnersMoved tx (s.second probe pressure).tx := by
  have hdue := h.takeDue
  rw [s.second_eq, State.sampled]
  generalize s.takeDue = u at hdue ⊢
  have hprobed : OwnersMoved tx (State.probeSecond { u with timebase := u.timebase.second } probe).tx :=
    OwnersMoved.probeSample (by exact hdue) _
  exact OwnersMoved.retryRequested (by exact hprobed.pressureSample pressure)

/-! ### What the orders perform (07, 09, 10) -/

@[simp] theorem OwnersMoved.raiseNotice (args : List Byte) : OwnersMoved tx (State.raiseNotice args s).state.tx := by
  unfold State.raiseNotice
  split <;> simp [h]

@[simp] theorem OwnersMoved.setFill (args : List Byte) : OwnersMoved tx (State.setFill args s).state.tx := by
  unfold State.setFill
  repeat' split
  all_goals simp [h]

@[simp] theorem OwnersMoved.setServe (args : List Byte) : OwnersMoved tx (State.setServe args s).state.tx := by
  unfold State.setServe
  repeat' split
  all_goals simp [h]

@[simp] theorem OwnersMoved.loadStep (args : List Byte) : OwnersMoved tx (State.loadStep args s).state.tx := by
  unfold State.loadStep
  dsimp only
  repeat' split
  all_goals simp [h]

@[simp] theorem OwnersMoved.clearProgram (args : List Byte) : OwnersMoved tx (State.clearProgram args s).state.tx := by
  unfold State.clearProgram
  split_ifs <;> simp [h]

@[simp] theorem OwnersMoved.startProgram (args : List Byte) : OwnersMoved tx (State.startProgram args s).state.tx := by
  unfold State.startProgram
  split_ifs <;> simp [h]

@[simp] theorem OwnersMoved.pauseProgram (args : List Byte) : OwnersMoved tx (State.pauseProgram args s).state.tx := by
  unfold State.pauseProgram
  split_ifs <;> simp [h]

@[simp] theorem OwnersMoved.resumeProgram (args : List Byte) : OwnersMoved tx (State.resumeProgram args s).state.tx := by
  unfold State.resumeProgram
  dsimp only
  split_ifs <;> simp [h]

@[simp] theorem OwnersMoved.advanceStep (args : List Byte) : OwnersMoved tx (State.advanceStep args s).state.tx := by
  unfold State.advanceStep
  split_ifs <;> simp [h]

@[simp] theorem OwnersMoved.stopPour (args : List Byte) : OwnersMoved tx (State.stopPour args s).state.tx := by
  unfold State.stopPour
  split_ifs <;> simp [h]

end

end Sys2Proof.Machine
end

section
/-! PROOFS. The answer places and the pending count (11 R182, R184), the counts (01 R22, 02 section 2.3), the order of the transmit
queue (01 R18) and the receive queue (01 R9) through every step. -/

namespace Sys2Proof.Machine

/-! ### The four laws (01 R9, R18, R22, 02 section 2.3, 11 R182) -/

/-- The pending count is the number of answer places held, at most 2, and no ANSWER in flight is marked withdrawn. -/
structure AnswersFit (pending : Nat) (tx : Tx) : Prop where
  count : pending = tx.answers
  room : tx.answers ≤ 2
  stand : answersStand tx = true

theorem answerLaw_iff (s : State) :
    answerLaw s = true ↔ s.power = .off ∨ AnswersFit s.orders.pendingAnswers s.tx := by
  simp only [answerLaw, Bool.or_eq_true, Bool.and_eq_true, beq_iff_eq, decide_eq_true_eq, and_assoc]
  exact or_congr_right ⟨fun ⟨hcount, hroom, hstand⟩ => ⟨hcount, hroom, hstand⟩, fun h => ⟨h.count, h.room, h.stand⟩⟩

theorem answerLaw_of {s : State} (h : AnswersFit s.orders.pendingAnswers s.tx) : answerLaw s = true :=
  (answerLaw_iff s).mpr (.inr h)

theorem countLaw_iff (s : State) : countLaw s = true ↔
    s.line.broken ≤ 255 ∧ s.line.overruns ≤ 255 ∧ s.line.lostArbs ≤ 255 ∧ s.line.sendFaults ≤ 255 ∧
      s.handler.unknownKind ≤ 255 ∧ s.handler.badHeader ≤ 255 ∧ s.handler.badLength ≤ 255 ∧ s.handler.badAddress ≤ 255 ∧
      s.orders.dropped ≤ 255 := by
  simp [countLaw]

theorem receiveLaw_iff (s : State) : receiveLaw s = true ↔
    s.line.rxQueue.length ≤ 4 ∧ (s.handler.inHand = none → s.line.rxQueue = []) := by
  cases hhand : s.handler.inHand <;> simp [receiveLaw, hhand]

/-- Each of the four laws, where it stood at s, stands at t. -/
structure KeepsLaws (s t : State) : Prop where
  answers : answerLaw s = true → answerLaw t = true
  counts : countLaw s = true → countLaw t = true
  order : orderLaw s.tx = true → orderLaw t.tx = true
  receive : receiveLaw s = true → receiveLaw t = true

theorem KeepsLaws.refl (s : State) : KeepsLaws s s := ⟨id, id, id, id⟩

theorem KeepsLaws.trans {s t u : State} (h1 : KeepsLaws s t) (h2 : KeepsLaws t u) : KeepsLaws s u :=
  ⟨h2.answers ∘ h1.answers, h2.counts ∘ h1.counts, h2.order ∘ h1.order, h2.receive ∘ h1.receive⟩

/-! ### What moves the queue by the owners' operations alone -/

section
variable {s t : State}

theorem OwnersMoved.fits {tx u : Tx} (h : OwnersMoved tx u) {pending : Nat} (hfit : AnswersFit pending tx) :
    AnswersFit pending u :=
  ⟨h.answers ▸ hfit.count, h.answers ▸ hfit.room, h.stand ▸ hfit.stand⟩

/-- The owners move the queue; the line and the handler keep their laws of themselves. -/
theorem KeepsLaws.of_line (hpower : t.power = s.power) (hpending : t.orders.pendingAnswers = s.orders.pendingAnswers)
    (htx : OwnersMoved s.tx t.tx) (hcounts : countLaw s = true → countLaw t = true)
    (hreceive : receiveLaw s = true → receiveLaw t = true) : KeepsLaws s t where
  answers h := by
    rw [answerLaw_iff] at h ⊢
    rw [hpower, hpending]
    exact h.imp_right htx.fits
  counts := hcounts
  order h := (orderLaw_iff _).mpr (htx.ordered ((orderLaw_iff _).mp h))
  receive := hreceive

/-- The supply, the line, the handler and the order handler's counts stand as they did, and the owners alone have moved the
queue. -/
def Aside (s t : State) : Prop :=
  t.power = s.power ∧ t.line = s.line ∧ t.handler = s.handler ∧ t.orders.pendingAnswers = s.orders.pendingAnswers ∧
    t.orders.dropped = s.orders.dropped ∧ OwnersMoved s.tx t.tx

theorem Aside.keepsLaws (h : Aside s t) : KeepsLaws s t := by
  obtain ⟨hpower, hline, hhandler, hpending, hdropped, htx⟩ := h
  refine .of_line hpower hpending htx (fun hcounts => ?_) (fun hreceive => ?_)
  · rwa [countLaw_iff, hline, hhandler, hdropped, ← countLaw_iff]
  · rwa [receiveLaw_iff, hline, hhandler, ← receiveLaw_iff]

end

/-! ### The receive queue and the counts (01 R8, R9, 02 R25) -/

theorem bump_le (limit n : Nat) : bump limit n ≤ limit := Nat.min_le_right _ _

section
variable (s : State)

/-- A further frame broken, overrun, arbitration lost or send fault counted. -/
theorem State.bumped_keepsLaws (l : Line) (hl : l = { s.line with broken := bump 255 s.line.broken } ∨
    l = { s.line with overruns := bump 255 s.line.overruns } ∨ l = { s.line with lostArbs := bump 255 s.line.lostArbs } ∨
    l = { s.line with sendFaults := bump 255 s.line.sendFaults }) : KeepsLaws s { s with line := l } := by
  refine .of_line rfl rfl .refl (fun h => ?_) (fun h => ?_)
  · rw [countLaw_iff] at h ⊢
    rcases hl with rfl | rfl | rfl | rfl <;> simp [h, bump_le]
  · rcases hl with rfl | rfl | rfl | rfl <;> exact h

theorem State.popFrame_keepsLaws (e : RxEntry) : KeepsLaws s (s.popFrame e) := by
  refine .of_line rfl rfl .refl id fun h => ?_
  obtain ⟨hlength, -⟩ := (receiveLaw_iff s).mp h
  rw [receiveLaw_iff, State.popFrame_line, State.popFrame_handler]
  cases hqueue : s.line.rxQueue with
  | nil => simp
  | cons q rest =>
    rw [hqueue] at hlength
    simp at hlength ⊢
    omega

theorem State.reject_keepsLaws (c : FrameClass) : KeepsLaws s { s with handler := s.handler.reject c } := by
  refine .of_line rfl rfl .refl (fun h => ?_) (fun h => ?_)
  · rw [countLaw_iff] at h ⊢
    cases c <;> simp [Handler.reject, h, bump_le]
  · rw [receiveLaw_iff] at h ⊢
    have hinHand : (s.handler.reject c).inHand = s.handler.inHand := by cases c <;> rfl
    rwa [hinHand]

theorem State.lineSuspect_keepsLaws : KeepsLaws s s.lineSuspect := Aside.keepsLaws (by simp [Aside])

theorem State.discardFrame_keepsLaws (own clean : Bool) : KeepsLaws s (s.discardFrame own clean) := by
  cases hmarked : own || clean with
  | false =>
    obtain ⟨rfl, rfl⟩ := Bool.or_eq_false_iff.mp hmarked
    exact .refl s
  | true =>
    rw [s.discardFrame_suspected own clean hmarked]
    refine KeepsLaws.trans ?_ (State.lineSuspect_keepsLaws _)
    cases clean
    · exact .refl s
    · exact s.bumped_keepsLaws _ (.inl rfl)

theorem State.judgeOwn_keepsLaws (accepted : Bool) : KeepsLaws s (s.judgeOwn accepted) := by
  have hline : (s.judgeOwn accepted).line = { s.line with ownAwaited := none } := by
    unfold State.judgeOwn
    dsimp only
    split
    · split_ifs <;> simp
    · rfl
  refine .of_line (by simp) (by simp) (by simp) (fun h => ?_) (fun h => ?_)
  · rw [countLaw_iff] at h ⊢
    simpa [hline] using h
  · rw [receiveLaw_iff] at h ⊢
    simpa [hline] using h

/-- An accepted frame is taken in hand, or queued while the queue is not full, or counted as an overrun. -/
theorem State.receive_keepsLaws (e : RxEntry) : KeepsLaws s (s.receive e) := by
  by_cases hroom : s.line.rxQueue.length < 4
  · refine .of_line (by simp) (by simp) ?_ (fun h => ?_) (fun h => ?_)
    · unfold State.receive
      rw [if_pos hroom]
      split <;> exact .refl
    · unfold State.receive
      rw [if_pos hroom]
      split <;> exact h
    · obtain ⟨-, hempty⟩ := (receiveLaw_iff s).mp h
      cases hhand : s.handler.inHand with
      | none =>
        rw [s.receive_taken e hhand (hempty hhand), receiveLaw_iff]
        simp [hempty hhand]
      | some q =>
        rw [s.receive_queued e q hhand hroom, receiveLaw_iff]
        simp [hhand]
        omega
  · rw [s.receive_overrun e (Nat.not_lt.mp hroom)]
    exact (s.bumped_keepsLaws _ (.inr (.inl rfl))).trans (State.lineSuspect_keepsLaws _)

theorem State.judgeFrame_keepsLaws (falseStart : Bool) (chars : List RxChar) :
    KeepsLaws s (s.judgeFrame falseStart chars) := by
  have hidled : KeepsLaws s { s with line := { s.line.idled with
      spent := s.line.spent && !clearsSpent s.line.address chars } } := ⟨id, id, id, id⟩
  unfold State.judgeFrame
  dsimp only
  split
  · exact (hidled.trans (State.judgeOwn_keepsLaws _ _)).trans (State.receive_keepsLaws _ _)
  · exact (hidled.trans (State.judgeOwn_keepsLaws _ _)).trans (State.discardFrame_keepsLaws _ _ _)

/-! ### The frame in flight (01 R11 to R16) -/

theorem Tx.answers_launch (tx : Tx) (chars : List Byte) (h : tx.inFlight = none) : (tx.launch chars).answers = tx.answers :=
  ((tx.held_launch chars h).filter _).length_eq

theorem Tx.answers_returned (tx : Tx) : tx.returned.answers = tx.answers := (tx.held_returned.filter _).length_eq

/-- The frame gone out gives up its answer place, if it was an ANSWER. -/
theorem Tx.answers_completed (tx : Tx) (f : InFlight) (hf : tx.inFlight = some f) (hstand : answersStand tx = true) :
    tx.answers = tx.completed.answers + if f.entry.frame.isAnswer then 1 else 0 := by
  have hflying : (tx.flying.filter TxFrame.isAnswer).length = if f.entry.frame.isAnswer then 1 else 0 := by
    cases ha : f.entry.frame.isAnswer with
    | false => cases hw : f.withdrawn <;> simp [Tx.flying, hf, hw, ha]
    | true =>
      have hw : f.withdrawn = false := by simpa [answersStand, hf, ha] using hstand
      simp [Tx.flying, hf, hw, ha]
  rw [Tx.answers, Tx.answers, Tx.held_completed, Tx.held, List.filter_append, List.length_append, hflying]

/-- The queue moves as a whole: every answer place stays held. -/
theorem KeepsLaws.of_queue {tx : Tx} (hanswers : answersStand s.tx = true → tx.answers = s.tx.answers ∧ answersStand tx = true)
    (hordered : TxOrdered s.tx.queue → TxOrdered tx.queue) : KeepsLaws s { s with tx := tx } where
  answers h := by
    refine (answerLaw_iff _).mpr (((answerLaw_iff s).mp h).imp_right fun hfit => ?_)
    obtain ⟨hcount, hstand⟩ := hanswers hfit.stand
    exact ⟨hfit.count.trans hcount.symm, hcount.trans_le hfit.room, hstand⟩
  counts := id
  order h := (orderLaw_iff _).mpr (hordered ((orderLaw_iff _).mp h))
  receive := id

theorem State.launch_keepsLaws (chars : List Byte) (hfree : s.tx.inFlight = none) :
    KeepsLaws s { s with tx := s.tx.launch chars } := by
  refine .of_queue s (fun _ => ⟨s.tx.answers_launch chars hfree, ?_⟩) (s.tx.launch_ordered chars)
  unfold answersStand Tx.launch
  cases s.tx.queue <;> simp [hfree]

theorem State.returned_keepsLaws : KeepsLaws s { s with tx := s.tx.returned } := by
  refine .of_queue s (fun _ => ⟨s.tx.answers_returned, ?_⟩) s.tx.returned_ordered
  unfold answersStand Tx.returned
  cases hf : s.tx.inFlight <;> simp [hf]

theorem State.slot_keepsLaws (r : Round) (wireHigh : Bool) : KeepsLaws s (s.slot r wireHigh) := by
  unfold State.slot
  dsimp only
  split_ifs with hfell
  · exact ⟨id, id, id, id⟩
  · have hfree : s.tx.inFlight = none := by simpa using (not_or.mp hfell).2
    split
    · split_ifs
      · exact (s.launch_keepsLaws _ hfree).trans ⟨id, id, id, id⟩
      · exact ⟨id, id, id, id⟩
      · exact ⟨id, id, id, id⟩
    · exact ⟨id, id, id, id⟩

theorem State.ownerSent_tx (f : TxFrame) (withdrawn : Bool) : (s.ownerSent f withdrawn).tx = s.tx := by cases f <;> rfl

/-- Word that an ANSWER was sent lowers the pending count (11 R182). -/
theorem State.ownerSent_orders (f : TxFrame) (withdrawn : Bool) : (s.ownerSent f withdrawn).orders =
    { s.orders with pendingAnswers := s.orders.pendingAnswers - if f.isAnswer then 1 else 0 } := by cases f <;> rfl

/-- The state as the frame in flight has gone out whole, its owner told. -/
def State.wentOut (f : InFlight) : State :=
  State.ownerSent { s with
    tx := s.tx.completed
    line := { s.line.fell with spent := true, ownAwaited := some f.entry } } f.entry.frame f.withdrawn

theorem State.wentOut_keepsLaws (f : InFlight) (hrun : s.power = .running) (hf : s.tx.inFlight = some f) :
    KeepsLaws s (s.wentOut f) where
  answers h := by
    have hfit := ((answerLaw_iff s).mp h).resolve_left (by rw [hrun]; decide)
    have hcount := s.tx.answers_completed f hf hfit.stand
    have hpending := hfit.count
    have hroom := hfit.room
    refine answerLaw_of ⟨?_, ?_, ?_⟩
    · rw [State.wentOut, State.ownerSent_orders, State.ownerSent_tx]
      dsimp only
      omega
    · rw [State.wentOut, State.ownerSent_tx]
      dsimp only
      omega
    · rw [State.wentOut, State.ownerSent_tx]
      rfl
  counts h := by
    rw [countLaw_iff] at h ⊢
    simpa [State.wentOut, State.ownerSent_orders] using h
  order h := by
    rw [State.wentOut, State.ownerSent_tx]
    exact h
  receive h := by
    rw [receiveLaw_iff] at h ⊢
    simpa [State.wentOut] using h

end

/-! ### The orders (11 R182 to R184) -/

section
variable {s t : State}

/-- An ANSWER takes a free place. -/
theorem State.answer_keepsLaws (s : State) (e : RxEntry) (c : Byte) (r : Result) (d : List Byte)
    (hplace : s.orders.pendingAnswers < 2) : KeepsLaws s (s.answer e c r d) where
  answers h := by
    refine (answerLaw_iff _).mpr (((answerLaw_iff s).mp h).imp_right fun hfit => ?_)
    have hcount : (s.answer e c r d).tx.answers = s.tx.answers + 1 := Tx.answers_enqueue _ _
    have hpending : (s.answer e c r d).orders.pendingAnswers = s.orders.pendingAnswers + 1 := rfl
    have hfits := hfit.count
    exact ⟨by omega, by omega, hfit.stand⟩
  counts := id
  order h := (orderLaw_iff _).mpr (Tx.enqueue_ordered _ _ ((orderLaw_iff _).mp h))
  receive := id

theorem State.dropOrder_keepsLaws (s : State) : KeepsLaws s s.dropOrder := by
  refine .of_line rfl rfl .refl (fun h => ?_) id
  rw [countLaw_iff] at h ⊢
  simp [State.dropOrder, h, bump_le]

/-- What is performed moves no answer place, and a place is free where the order is answered. -/
theorem State.handleOrder_keepsLaws (s : State) (o : OrderCode) (e : RxEntry) (p : List Byte → State → Reply)
    (hp : ∀ a u, Aside u (p a u).state) : KeepsLaws s (s.handleOrder o e p) := by
  unfold State.handleOrder
  split_ifs with hfull
  · exact s.dropOrder_keepsLaws
  · exact s.answer_keepsLaws _ _ _ _ (Nat.not_le.mp hfull)
  · exact s.answer_keepsLaws _ _ _ _ (Nat.not_le.mp hfull)
  · obtain ⟨-, -, -, hpending, -⟩ := hp (orderArgs e) s
    exact (hp (orderArgs e) s).keepsLaws.trans (State.answer_keepsLaws _ _ _ _ _ (by omega))

theorem State.arbitrate_keepsLaws (s : State) (l : List PourRequest) : KeepsLaws s (s.arbitrate l) :=
  Aside.keepsLaws (by simp [Aside])

theorem State.settled_keepsLaws (s : State) (inputs : List Input) : KeepsLaws s (State.handOn s (s.settleAll inputs)) := by
  have hqueue : OwnersMoved s.tx (State.handOn s (s.settleAll inputs)).tx := OwnersMoved.handOn (s := s.settleAll inputs) .refl s
  exact Aside.keepsLaws (by simp [Aside, hqueue])

theorem State.pourPortionRow_keepsLaws (s before : State) (e : RxEntry) : KeepsLaws s (s.pourPortionRow before e) := by
  unfold State.pourPortionRow
  dsimp only
  split
  · next q hq =>
    have hplace : s.orders.pendingAnswers < 2 := by
      unfold State.orderRequest at hq
      split_ifs at hq with hrefused
      exact Nat.not_le.mp (not_or.mp hrefused).1
    exact (s.arbitrate_keepsLaws _).trans (State.answer_keepsLaws _ _ _ _ _ (by simpa using hplace))
  · exact (s.arbitrate_keepsLaws _).trans (State.handleOrder_keepsLaws _ _ _ _ fun _ _ => by simp [Aside])

/-! ### The rows -/

/-- A row that has its effect only while the part runs. -/
theorem KeepsLaws.of_running {f : State → State} (hf : s.power = .running → KeepsLaws s (f s))
    (he : whileRunning s f = .next t) : KeepsLaws s t := by
  by_cases hrun : s.power = .running
  · rw [whileRunning_on s f hrun] at he
    cases he
    exact hf hrun
  · rw [whileRunning_off s f hrun] at he
    cases he
    exact .refl s

theorem KeepsLaws.of_aside {f : State → State} (hf : Aside s (f s)) (he : whileRunning s f = .next t) : KeepsLaws s t :=
  .of_running (fun _ => hf.keepsLaws) he

/-- The row of a frame. -/
theorem KeepsLaws.of_frame {ok : FrameClass → Bool} {f : RxEntry → State → State} (hf : ∀ e u, KeepsLaws u (f e u))
    (he : whileRunning s (fun s => takeFrame s ok f) = .next t) : KeepsLaws s t :=
  frameRow_keeps (.refl s) s.popFrame_keepsLaws (fun e u hu => hu.trans (hf e u)) he

/-- The row of an order. -/
theorem KeepsLaws.of_order {o : OrderCode} {p : List Byte → State → Reply} (hp : ∀ a u, Aside u (p a u).state)
    (he : orderRow o p s = .next t) : KeepsLaws s t :=
  .of_frame (fun e u => u.handleOrder_keepsLaws o e p hp) he

theorem State.started_keepsLaws (s : State) (reason : StartReason) (strap : BitVec 4) (frozen : Option Hold) (program : Program)
    (log : List LogEntry) (keg : Keg) (notice : Notice) (inputs : Inputs) (draws : Nat) (pending : List Instr) :
    KeepsLaws s (State.started reason strap frozen program log keg notice inputs draws pending) :=
  ⟨fun _ => rfl, fun _ => rfl, fun _ => rfl, fun _ => rfl⟩

end

theorem exec_keepsLaws {c : Instr} {s t : State} (he : exec c s = .next t) : KeepsLaws s t := by
  cases c with
  | coldStart strap => cases he; exact s.started_keepsLaws ..
  | dipStart strap => cases he; exact s.started_keepsLaws ..
  | orderedStart strap =>
    cases he
    split_ifs
    · exact s.started_keepsLaws ..
    · exact .refl s
  | supplyFall => cases he; exact ⟨fun _ => rfl, id, id, id⟩
  | pinChange input high => cases he; exact ⟨id, id, id, id⟩
  | configLoad | lineIdle | breakSeen =>
    refine .of_running (fun _ => ?_) he
    split_ifs <;> exact ⟨id, id, id, id⟩
  | stub =>
    simp only [exec, execStub] at he
    refine .of_running (fun _ => ?_) he
    split <;> exact ⟨id, id, id, id⟩
  | configLoadEnd read =>
    refine .of_aside ?_ he
    split_ifs <;> simp [Aside]
  | secondEvent probe pressure =>
    simp only [exec, execSecondEvent] at he
    refine .of_aside ?_ he
    split_ifs
    · simp [Aside]
    · exact ⟨by simp [State.second], by simp [State.second], by simp [State.second], by simp [State.second],
        by simp [State.second], OwnersMoved.second .refl _ _⟩
  | inputSettled inputs =>
    simp only [exec, execInputSettled] at he
    exact .of_running (fun _ => (s.settled_keepsLaws inputs).trans (State.arbitrate_keepsLaws _ _)) he
  | minuteEvent | hourEvent | meterPulse | starveLimit _ | driftLimit | emptyEnd | foamEnd | settlingEnd | answerWaitExpiry
  | restEnd | announceTimer | rosterEntryRemoved _ | renewPoint _ | lapse _ | expiryPoint _ =>
    exact .of_aside (by simp [Aside]) he
  | frameEnd falseStart chars =>
    refine .of_running (fun _ => ?_) he
    split_ifs
    · exact s.judgeFrame_keepsLaws _ _
    · exact .refl s
  | frameBroken cause falseStart chars =>
    refine .of_running (fun _ => ?_) he
    have hbroken : KeepsLaws s { s with line := s.line.outside (BreakCause.leadsTo cause) } := ⟨id, id, id, id⟩
    split_ifs
    · exact (hbroken.trans (State.judgeOwn_keepsLaws _ _)).trans (State.discardFrame_keepsLaws _ _ _)
    · exact .refl s
  | slotBegin wireHigh =>
    simp only [exec, execSlotBegin] at he
    refine .of_running (fun _ => ?_) he
    split
    · split_ifs
      · exact s.slot_keepsLaws _ _
      · exact .refl s
    · exact .refl s
  | quietWindow =>
    simp only [exec, execQuietWindow] at he
    refine .of_running (fun _ => ?_) he
    split
    · split_ifs <;> exact ⟨id, id, id, id⟩
    · exact .refl s
  | lostArbitration bit =>
    simp only [exec, execLostArbitration] at he
    refine .of_running (fun _ => ?_) he
    have hfell : KeepsLaws s { s with tx := s.tx.returned, line := s.line.fell } :=
      s.returned_keepsLaws.trans ⟨id, id, id, id⟩
    split
    · split_ifs
      · exact hfell.trans (State.bumped_keepsLaws _ _ (.inr (.inr (.inl rfl))))
      · exact .refl s
    · exact .refl s
  | sendFault bit =>
    simp only [exec, execSendFault] at he
    refine .of_running (fun _ => ?_) he
    have hround : KeepsLaws s { s with
        tx := s.tx.returned, line := { s.line with round := if bit = 0 then s.line.round else none } } :=
      s.returned_keepsLaws.trans ⟨id, id, id, id⟩
    split
    · split_ifs
      · rw [Line.faulted_eq]
        exact (hround.trans (State.bumped_keepsLaws _ _ (.inr (.inr (.inr rfl))))).trans (State.lineSuspect_keepsLaws _)
      · exact .refl s
    · exact .refl s
  | frameComplete =>
    simp only [exec, execFrameComplete] at he
    refine .of_running (fun hrun => ?_) he
    split
    · next f hf => exact s.wentOut_keepsLaws f hrun hf
    · exact .refl s
  | frameRejected =>
    exact .of_frame (fun e u =>
      (u.reject_keepsLaws (classify u.line.address e)).trans (Aside.keepsLaws (by simp [Aside]))) he
  | frameNoBlock | claim | renew | yield | yieldAll | expire | syncTable | syncAsk | announce =>
    exact .of_frame (fun e u => Aside.keepsLaws (by simp [Aside])) he
  | readStatus | readKeg | readStep | readPourLog | readNotices | clearNotices | setNoticeEnable | raiseNotice | setFill
  | setServe | loadStep | clearProgram | startProgram | pauseProgram | resumeProgram | advanceStep | stopPour =>
    exact .of_order (by simp [Aside]) he
  | restartBay =>
    refine .of_order (fun _ u => ?_) he
    unfold State.restartBay
    split_ifs <;> simp [Aside]
  | pourPortion settled =>
    exact .of_frame (fun e u => (u.settled_keepsLaws settled).trans (State.pourPortionRow_keepsLaws _ _ _)) he
  | unknownOrder =>
    refine .of_frame (fun e u => ?_) he
    split_ifs with hfull
    · exact u.dropOrder_keepsLaws
    all_goals exact u.answer_keepsLaws _ _ _ _ (Nat.not_le.mp hfull)

/-- Settles O56: every row keeps each of the four laws. -/
theorem everyStepKeepsTheCountsAndQueues : Obligations.EveryStepKeepsTheCountsAndQueues := by
  intro s t he
  have hkept : KeepsLaws s t := by
    refine step_keeps (P := KeepsLaws s) (fun _ _ h => h.trans ⟨id, id, id, id⟩) (fun u h => h.trans ?_)
      (fun _ _ _ h he => h.trans (exec_keepsLaws he)) s t (.refl s) he
    rw [State.tick_eq]
    split_ifs <;> exact ⟨id, id, id, id⟩
  exact ⟨hkept.answers, hkept.counts, hkept.order, hkept.receive⟩

end Sys2Proof.Machine
end

section
/-! PROOFS. The steps that decide an order before its owner (11 R183), and the orders READ-STATUS, READ-KEG and READ-POUR-LOG (02
section 2.6, 09 R153, R167, 11 R185). -/

namespace Sys2Proof.Machine

/-! ### The steps of R183 -/

section
variable {s : State} {e : RxEntry} {code : Byte} {args : List Byte}

/-- An ORDER for this station goes to the row of its code (02 R25, R26). -/
theorem classify_orderInHand (h : OrderInHand s e code args) : classify s.line.address e = .order (orderOf code) := by
  obtain ⟨⟨-, -, hkind, hurgency, h1, h12, hsender⟩, hown1, hown12, hlength, hbody⟩ := h
  exact classify_order _ e code args hkind hurgency h1 h12 hsender hown1 hown12 hlength hbody

theorem orderArgs_orderInHand (h : OrderInHand s e code args) : orderArgs e = args := by
  obtain ⟨-, -, -, -, hbody⟩ := h
  exact orderArgs_eq e _ code args hbody

section
variable {o : OrderCode} (perform : List Byte → State → Reply)

theorem orderRow_orderInHand (h : OrderInHand s e o.code args) :
    orderRow o perform s = .next ((s.popFrame e).handleOrder o e perform) := by
  have hclass := classify_orderInHand h
  obtain ⟨⟨hrun, hhand, -⟩, -⟩ := h
  exact orderRow_inHand s o perform e hrun hhand (hclass.trans (by rw [orderOf_code]))

/-- Step 2 of R183: in STARTING any order but READ-STATUS is answered NOT-READY. -/
theorem State.handleOrder_notReady (hplace : s.orders.pendingAnswers < 2) (hmode : s.mode.mode = .starting)
    (ho : o ≠ .readStatus) : s.handleOrder o e perform = s.answer e o.code .notReady [] := by
  rw [State.handleOrder, if_neg (Nat.not_le.mpr hplace), if_pos ⟨hmode, ho⟩]

/-- Step 4 of R183: an order with a wrong argument count is answered BAD-VALUE. -/
theorem State.handleOrder_badValue (hplace : s.orders.pendingAnswers < 2) (hmode : s.mode.mode ≠ .starting ∨ o = .readStatus)
    (hcount : (orderArgs e).length ≠ o.argCount) : s.handleOrder o e perform = s.answer e o.code .badValue [] := by
  have hready : ¬ (s.mode.mode = .starting ∧ o ≠ .readStatus) := by
    rintro ⟨hstarting, ho⟩
    exact hmode.elim (fun hm => hm hstarting) (fun hr => ho hr)
  rw [State.handleOrder, if_neg (Nat.not_le.mpr hplace), if_neg hready, if_pos hcount]

end

/-- A step of R183 decides an order of these arguments, which does not come before its owner. -/
def State.DecidesBeforeOwner (s : State) (o : OrderCode) (args : List Byte) : Prop :=
  2 ≤ s.orders.pendingAnswers ∨ s.mode.mode = .starting ∧ o ≠ .readStatus ∨ args.length ≠ o.argCount

theorem portionRequest_length {q : PourRequest} (h : portionRequest args = some q) : args.length = 3 := by
  unfold portionRequest at h
  split at h
  · rfl
  · cases h

/-- An order that a step of R183 decides takes the steps in its row, a POUR-PORTION making no request (09 R155). -/
theorem exec_row_decided {o : OrderCode} (h : OrderInHand s e o.code args) (hdecided : s.DecidesBeforeOwner o args) :
    ∃ perform, exec o.row s = .next ((s.popFrame e).handleOrder o e perform) := by
  have hrow : ∀ perform, exec o.row s = orderRow o perform s →
      ∃ perform, exec o.row s = .next ((s.popFrame e).handleOrder o e perform) :=
    fun perform he => ⟨perform, he.trans (orderRow_orderInHand perform h)⟩
  cases o with
  | pourPortion =>
    have hnone : (s.popFrame e).orderRequest e = none := by
      rw [State.orderRequest, orderArgs_orderInHand h]
      split_ifs with hrefused
      · rfl
      · obtain ⟨hplace, hmode⟩ := not_or.mp hrefused
        have hcount := hdecided.resolve_left hplace |>.resolve_left fun hstarting => hmode hstarting.1
        exact Option.eq_none_iff_forall_ne_some.mpr fun q hq => hcount (portionRequest_length hq)
    have hclass := classify_orderInHand h
    obtain ⟨⟨hrun, hhand, -⟩, -⟩ := h
    refine ⟨fun _ s => s.reply .badValue, ?_⟩
    change execPourPortion [] s = _
    rw [execPourPortion, whileRunning_on _ _ hrun,
      takeFrame_some s _ _ e hhand (by rw [hclass, orderOf_code, beq_self_eq_true]), settleAll_nil, State.handOn_self]
    simp only [State.pourPortionRow, hnone, inputRequests_self, State.arbitrate]
  | _ => exact hrow _ rfl

/-- An order of an unknown code is dropped, or answered NOT-READY in STARTING and UNKNOWN-ORDER elsewhere. -/
theorem exec_unknownOrder_inHand (h : OrderInHand s e code args) (hunknown : orderOf code = none) :
    exec .unknownOrder s = .next (if 2 ≤ s.orders.pendingAnswers then (s.popFrame e).dropOrder
      else (s.popFrame e).answer e code (if s.mode.mode = .starting then .notReady else .unknownOrder) []) := by
  have hclass := (classify_orderInHand h).trans (congrArg FrameClass.order hunknown)
  obtain ⟨⟨hrun, hhand, -⟩, -, -, -, hbody⟩ := h
  change execUnknownOrder s = _
  rw [execUnknownOrder, whileRunning_on _ _ hrun, takeFrame_some s _ _ e hhand (by rw [hclass, beq_self_eq_true]),
    orderCode_eq e _ code args hbody]
  rfl

end

/-- Settles O40: the steps of R183 in their order, for the orders of a known code and for the unknown ones. -/
theorem ordersAreDecidedStepByStep : Obligations.OrdersAreDecidedStepByStep := by
  refine ⟨fun s e o args h => ⟨fun hfull => ?_, fun hplace hmode ho => ?_, fun hplace hmode hcount => ?_⟩,
    fun s e code args h hunknown => ?_⟩
  · obtain ⟨perform, hrow⟩ := exec_row_decided h (.inl hfull)
    rw [hrow, State.handleOrder_dropped (s.popFrame e) o e perform hfull]
    rfl
  · obtain ⟨perform, hrow⟩ := exec_row_decided h (.inr (.inl ⟨hmode, ho⟩))
    rw [hrow, State.handleOrder_notReady (s := s.popFrame e) perform hplace hmode ho]
    rfl
  · obtain ⟨perform, hrow⟩ := exec_row_decided h (.inr (.inr hcount))
    rw [hrow, State.handleOrder_badValue (s := s.popFrame e) perform hplace hmode (by rwa [orderArgs_orderInHand h])]
    rfl
  · rw [exec_unknownOrder_inHand h hunknown]
    refine ⟨fun hfull => ?_, fun hplace => ?_⟩
    · rw [if_pos hfull]
      rfl
    · rw [if_neg (Nat.not_le.mpr hplace)]
      split_ifs <;> rfl

/-! ### READ-STATUS, READ-KEG, READ-POUR-LOG (02 section 2.6, 09 R153, R167, 11 R185) -/

theorem Program.reportedStep_eq (p : Program) :
    p.reportedStep = nat8 (if p.state = .running ∨ p.state = .paused then p.current.getD 0 else 0) := by
  rw [Program.reportedStep]
  exact congrArg nat8 (if_congr p.underWay_iff rfl rfl)

theorem logData_none {log : List LogEntry} {i : Byte} (h : log[i.toNat]? = none) :
    logData log i.toNat = [i, 0, 0, 0, 0, 0, 0, 0] := by
  simp [logData, h, nat8]

theorem logData_some {log : List LogEntry} {i : Byte} {p : LogEntry} (h : log[i.toNat]? = some p) :
    logData log i.toNat = [i, outletCode p.outlet, pourKindCode p.kind] ++ bytes16 (BitVec.ofNat 16 p.volume) ++
      [endCode p.reason] ++ bytes16 (BitVec.ofNat 16 p.remaining) := by
  simp [logData, h, nat8, nat16]

/-- Settles O41: the data of each read, and the index of READ-POUR-LOG judged before it. -/
theorem statusKegAndLogAreReadAsTheyStand : Obligations.StatusKegAndLogAreReadAsTheyStand := by
  refine ⟨⟨fun s e h hplace => ?_, fun s e h => ?_⟩, fun s e i h => ?_⟩
  · have hargs := orderArgs_orderInHand h
    have hrow : exec .readStatus s = _ := orderRow_orderInHand (o := .readStatus) _ h
    rw [hrow, State.handleOrder_performed (s.popFrame e) _ e _ hplace (.inr rfl) (by rw [hargs]; rfl)]
    change Host.Outcome.next (answered (s.popFrame e) e 0x01 0x00 s.statusData) = _
    refine congrArg (fun data => Host.Outcome.next (answered (s.popFrame e) e 0x01 0x00 data)) ?_
    rw [← Program.reportedStep_eq, State.statusData, Pressure.reported]
    cases s.pressure.sensor <;> rfl
  · have hrow : exec .readKeg s = _ := orderRow_taken h _
    rw [hrow]
    rfl
  · have hrow : exec .readPourLog s = _ := orderRow_taken h State.readPourLog
    have hread : i.toNat ≤ 7 → State.readPourLog [i] (s.popFrame e) = (s.popFrame e).doneWith (logData s.pour.log i.toNat) :=
      fun hi => if_neg (Nat.not_lt.mpr hi)
    rw [hrow]
    refine ⟨fun hbeyond => ?_, fun hi hnone => ?_, fun p hi hp => ?_⟩
    · have hrefused : State.readPourLog [i] (s.popFrame e) = (s.popFrame e).reply .badValue := if_pos hbeyond
      rw [hrefused]
      rfl
    · rw [hread hi, logData_none hnone]
      rfl
    · rw [hread hi, logData_some hp]
      rfl

end Sys2Proof.Machine
end

section
/-! PROOFS. The step, the completion of every command and the laws at reset: a step is the front command's row on what is behind it,
every row answers a next state and leaves the queue of waiting commands, and reset is the start of an empty machine (logs 3, 7, 8,
26). -/

namespace Sys2Proof.Machine

/-! ### The step (log 8) -/

/-- Settles O1: with a command at the front the step is that command's row. -/
theorem stepRunsFrontCommand : Obligations.StepRunsFrontCommand := by
  intro c rest s hfront
  rw [step, hfront]

/-! ### Every row answers a next state (logs 7, 26) -/

/-- The outcome of a row at s is a next state, and the commands that wait there are those that wait at s. -/
abbrev Completes (s : State) (o : Out) : Prop := ∃ t, o = .next t ∧ t.pending = s.pending

/-- A row that takes the frame in hand completes if what it does with the frame leaves the queue of waiting commands. -/
theorem frameRow_completes (s : State) (ok : FrameClass → Bool) (f : RxEntry → State → State)
    (h : ∀ e u, (f e u).pending = u.pending) : Completes s (whileRunning s fun u => takeFrame u ok f) :=
  whileRunning_pending s _ (takeFrame_pending s ok f h)

/-- All that a second event does leaves the queue of waiting commands (05 R78). -/
theorem State.second_pending (s : State) (probe pressure : Int) : (s.second probe pressure).pending = s.pending := by
  simp [State.second]

/-- A POUR-PORTION leaves the queue of waiting commands, as the arbiter, a drop and an answer do. -/
theorem State.pourPortionRow_pending (s before : State) (e : RxEntry) : (s.pourPortionRow before e).pending = s.pending :=
  State.pourPortionRow_keeps (P := fun t => t.pending = s.pending) s before e (by simp) (by simp) (by simp)

/-- Every row completes: the starts, the fall of the supply and the pins answer outright, a timer or a line event has its effect
while the part runs, and a frame or an order where it is the one in hand. -/
theorem exec_completes (c : Instr) (s : State) : Completes s (exec c s) := by
  cases c with
  | coldStart _ | dipStart _ | supplyFall | pinChange _ _ => exact ⟨_, rfl, rfl⟩
  | orderedStart strap =>
    refine ⟨_, rfl, ?_⟩
    split_ifs <;> rfl
  | secondEvent probe pressure =>
    rw [exec, execSecondEvent]
    refine whileRunning_pending s _ ?_
    split_ifs
    · rfl
    · exact s.second_pending probe pressure
  | configLoad | configLoadEnd _ | lineIdle | breakSeen | frameEnd _ _ | frameBroken _ _ _ =>
    refine whileRunning_pending s _ ?_
    split_ifs <;> simp
  | stub | slotBegin _ | quietWindow | lostArbitration _ | sendFault _ | frameComplete =>
    simp only [exec, execStub, execSlotBegin, execQuietWindow, execLostArbitration, execSendFault, execFrameComplete]
    refine whileRunning_pending s _ ?_
    repeat' split
    all_goals simp
  | inputSettled inputs =>
    rw [exec, execInputSettled]
    exact whileRunning_pending s _ (by simp)
  | minuteEvent | hourEvent | meterPulse | answerWaitExpiry | restEnd | announceTimer | rosterEntryRemoved _
  | renewPoint _ | lapse _ | expiryPoint _ | starveLimit _ | driftLimit | emptyEnd | foamEnd | settlingEnd =>
    exact whileRunning_pending s _ (by simp)
  | frameRejected | frameNoBlock | claim | renew | yield | yieldAll | expire | syncTable | syncAsk | announce =>
    exact frameRow_completes s _ _ (by simp)
  | readStatus | readKeg | readStep | readPourLog | readNotices | clearNotices | setNoticeEnable | raiseNotice | setFill | setServe
  | loadStep | clearProgram | startProgram | pauseProgram | resumeProgram | advanceStep | stopPour | restartBay =>
    exact orderRow_pending s _ _ (by simp)
  | pourPortion settled => exact frameRow_completes s _ _ fun _ _ => by simp [State.pourPortionRow_pending]
  | unknownOrder =>
    refine frameRow_completes s _ _ fun _ _ => ?_
    split_ifs <;> simp

/-- Settles O3: the rows one by one. -/
theorem everyCommandCompletes : Obligations.EveryCommandCompletes := exec_completes

/-! ### The laws at reset (logs 1 to 4) -/

/-- Program and pour keep their laws at reset: no program is stored and the engine is IDLE. -/
theorem State.reset_plantLaw : PlantLaw State.reset := .started (.initial _)

/-- Settles O4: reset is a start, after which the laws of the blocks that work together stand; those of one block hold of its values
at a COLD start, where every record is empty and every count 0. -/
theorem lawsHoldAtReset : Obligations.LawsHoldAtReset := by
  have hkeg : kegLaw State.reset.keg = true := (kegLaw_iff _).mpr (by decide)
  have hnotice : noticeLaw State.reset.notice = true := rfl
  have hthermal : thermalLaw State.reset = true := rfl
  have hrelief : reliefLaw State.reset = true := rfl
  have hcount : countLaw State.reset = true := (countLaw_iff _).mpr (by decide)
  have hanswer : answerLaw State.reset = true := answerLaw_of ⟨rfl, Nat.zero_le 2, rfl⟩
  have horder : orderLaw State.reset.tx = true := (orderLaw_iff _).mpr .nil
  have hreceive : receiveLaw State.reset = true := (receiveLaw_iff _).mpr ⟨Nat.zero_le 4, fun _ => rfl⟩
  have hframes : framesLaw State.reset = true := ((framesLaw_iff _).mpr .started).2
  have hroster : rosterLaw State.reset = true := (rosterLaw_iff _).mpr .started
  obtain ⟨hprogram, hpour⟩ := (plantLaw_iff _).mpr State.reset_plantLaw
  have htable : tableLaw State.reset = true := (tableLaw_iff _).mpr (.started ..)
  have hstanding : standingLaw State.reset = true := (standingLaw_iff _).mpr .started
  exact ⟨hkeg, hnotice, hthermal, hrelief, hcount, hanswer, horder, hframes, hroster, hreceive, hprogram, hpour, htable, hstanding⟩

end Sys2Proof.Machine
end
